-- ==== Sys2Proof/Word.lean ====
section
/-! DEFINITION. The words of the part: bytes of its links, the 32-bit counters that wrap, the 16-bit check value. -/

namespace Sys2Proof

/-- One byte of the line link, the station link or a label text. -/
abbrev Byte := BitVec 8

/-- A value of the position counter P, in counts, wrapping at 2^32 (R20). -/
abbrev Position := BitVec 32

/-- A lug serial, which is also the name of a lug tick, wrapping at 2^32 (R55, R56). -/
abbrev Serial := BitVec 32

/-- A check value of the conventions, 3.11. -/
abbrev CheckValue := BitVec 16

end Sys2Proof
end

