-- ==== Sys2Proof/Config.lean ====
section
/-! DEFINITION. What is fixed for the part: the sizes of its tables, the fixed distances of its rules, the four grades,
and the free values, which are constants without a body: nothing can be proved of them but what holds of every value. -/

namespace Sys2Proof

/-- The four market grades, best first (3.7). -/
inductive Grade where
  | g1 | g2 | g3 | g4
  deriving DecidableEq, Repr, Inhabited

/-- The number of a grade, 1 to 4; a higher number is worse (3.7). -/
def Grade.num : Grade → Nat
  | .g1 => 1
  | .g2 => 2
  | .g3 => 3
  | .g4 => 4

namespace Config

/-- Live strip records the strip table holds (R6). -/
def stripCapacity : Nat := 96
/-- Live records at which the table's gate condition becomes false (R6, R36). -/
def gateLimit : Nat := 92
/-- Counts after an unblock at which a passage ends, and after a clear at which the next may come (R22, R59). -/
def tailCounts : Nat := 20
/-- Counts past the head edge at which a blocked passage becomes LONG (R24). -/
def longCounts : Nat := 2801
/-- The marker length of a LONG strip, mm (R23). -/
def longLength : Nat := 1401
/-- The length below which a strip is SHORT, mm (R23). -/
def shortLength : Nat := 200
/-- Reports the receive buffer holds (R42). -/
def bufferCapacity : Nat := 4
/-- Defects a report part holds (R49). -/
def defectCapacity : Nat := 12
/-- Entries the pending load list holds (R60). -/
def loadCapacity : Nat := 2
/-- The shortest finished strip, mm (R77). -/
def shortestFinished : Nat := 250
/-- Entries the recipe queue holds (R168). -/
def queueCapacity : Nat := 16
/-- Live orders (R156). -/
def orderCapacity : Nat := 8
/-- Return addresses, and repeat frames (R163, R164). -/
def stackCapacity : Nat := 4
/-- The spin count at which an order faults (R160). -/
def spinLimit : Nat := 64
/-- The largest emitted count (R162). -/
def emittedLimit : Nat := 65535
/-- Records the label table holds (R185). -/
def labelCapacity : Nat := 16
/-- Bytes of a label text, and of a body that is followed by check digits (R183). -/
def labelBytes : Nat := 320
/-- The highest bundle serial (R125). -/
def bundleSerialLimit : Nat := 999999
/-- The highest tag (R5). -/
def tagLimit : Nat := 65535
/-- Where an event counter stops (R201). -/
def counterLimit : Nat := 65535
/-- Where a spindle wear counter stops, mm (R32). -/
def wearLimit : Nat := 4294967295
/-- A millisecond in tenths of a bit time of the line link, which runs at 460.8 kbit/s (10.1, log entry 7). -/
def linkMillisecond : Nat := 4608
/-- A byte on the line link, 10 bit times, in tenths of a bit time (10.1). -/
def linkByteTime : Nat := 100
/-- The deadline a line-link frame gets at its start byte, 5 ms in tenths of a bit time (R192). -/
def linkFrameTime : Nat := 5 * linkMillisecond
/-- The bytes of a request frame beside its payload: start byte, length field, code, check value (R192). -/
def linkFrameBytes : Nat := 1 + 2 + 1 + 2
/-- The station frame timer, ms (R40). -/
def stationFrameTime : Nat := 10
/-- The longest payload of a line-link frame, bytes (R192). -/
def payloadLimit : Nat := 600
/-- Ticks the calendar holds, and those of them that are past (R114). -/
def calendarTicks : Nat := 64
/-- Past ticks the calendar holds (R114). -/
def calendarPast : Nat := 15

/-- FREE VALUE (log entry 13). Whether the decision unit takes a lug tick before the end-match station does: R55 gives
no order. Applied to `State.freeCount`. -/
opaque decisionFirst : Nat → Bool

/-- FREE VALUE (log entries 8 and 14). Which of several events that fall at one moment is taken next, where the spec
says "in either order" or says nothing. Applied to `State.freeCount`. -/
opaque freeIndex : Nat → Nat

/-- FREE VALUE (log entry 35). How many of the homings that the commands right before a lug tick have completed came before
the tick; the others came together with it and were taken first. R110 gives the former the serial of the lug that stood at
D before the tick, and R76 the latter the serial of the lug now there. Applied to `State.freeCount`. -/
opaque homedBefore : Nat → Nat

/-- FREE VALUE (log entry 21). The derate and the cap read at a decision from a record that carries no wear stamp: R34
says that every decided strip carries one and so gives no value. Applied to the strip's tag. -/
opaque absentStamp : Nat → Nat × Grade

end Config

end Sys2Proof
end

