-- ==== Sys2Proof/Syntax.lean ====
section
/-! DEFINITION. The commands of the part, one constructor per row of spec/opcode_table.json, in the table's order.
A request row carries the payload bytes of its frame (R206); an input row names its head or bay and, where the part
reads the input's level, the edge (log entries 11 and 30). -/

namespace Sys2Proof

/-- A bay: index k stands for bay k + 1. -/
abbrev BayId := Fin 8

/-- The two end-match heads (chapter 6). -/
inductive HeadId where
  | headSide | tailSide
  deriving DecidableEq, Repr

/-- The commands. -/
inductive Instr where
  -- resets and the line link
  | powerOn
  | resetPin
  | linkFrameDiscarded
  | linkFrameDeadline
  | unknownRequest (code : Byte)
  | responseComplete
  | linkWatchdogExpiry
  -- requests
  | setGeometry (payload : List Byte)
  | setLimits (payload : List Byte)
  | setGradeTable (payload : List Byte)
  | setPointsTable (payload : List Byte)
  | setSpindleLimits (payload : List Byte)
  | setRecipe (payload : List Byte)
  | setTemplate (payload : List Byte)
  | setMillId (payload : List Byte)
  | setBay (payload : List Byte)
  | startLine (payload : List Byte)
  | stopLine (payload : List Byte)
  | holdInfeed (payload : List Byte)
  | releaseInfeed (payload : List Byte)
  | getStrip (payload : List Byte)
  | listStrips (payload : List Byte)
  | amendStrip (payload : List Byte)
  | purgeStrip (payload : List Byte)
  | getLug (payload : List Byte)
  | newRun (payload : List Byte)
  | toolingReady (payload : List Byte)
  | getMoulder (payload : List Byte)
  | getHeads (payload : List Byte)
  | clearHeadFault (payload : List Byte)
  | getBay (payload : List Byte)
  | closeBundle (payload : List Byte)
  | abortBundle (payload : List Byte)
  | clearBay (payload : List Byte)
  | enableBay (payload : List Byte)
  | disableBay (payload : List Byte)
  | resetStrapper (payload : List Byte)
  | loadProgram (payload : List Byte)
  | addOrder (payload : List Byte)
  | releaseOrder (payload : List Byte)
  | cancelOrder (payload : List Byte)
  | getOrder (payload : List Byte)
  | retireOrder (payload : List Byte)
  | listLabels (payload : List Byte)
  | fetchLabel (payload : List Byte)
  | retireLabel (payload : List Byte)
  | getStatus (payload : List Byte)
  | readNotices (payload : List Byte)
  | setNoticeMask (payload : List Byte)
  | clearCounters (payload : List Byte)
  | resetTracking (payload : List Byte)
  -- the lineal section
  | encoderCount
  | infeedEyeBlock
  | infeedEyeUnblock
  | tailConfirmed
  | passageLong
  | moulderExit
  | moulderClear
  | drainCompletion
  | lostAtTransfer
  -- the station link and the matcher
  | stationFrameDiscarded
  | stationFrameTimeout
  | reportReceived (payload : List Byte)
  | matchCompletion
  -- the chain
  | transferClear
  | verifyEyeBlock
  | lugTick
  | dropUnverified (bay : BayId)
  -- the heads
  | inPositionActive (head : HeadId)
  | inPositionInactive (head : HeadId)
  | homingComplete (head : HeadId)
  | positionerFault (head : HeadId) (active : Bool)
  -- the bays, the strapper, the labels
  | bayConfirm (bay : BayId) (active : Bool)
  | bayFaultInput (bay : BayId) (active : Bool)
  | bundleOpen
  | settleExpiry (bay : BayId)
  | strapperTakesBay
  | strapComplete (bayNumber : Nat)
  | strapTimeout
  | labelFormation
  | dischargeComplete (bay : BayId) (active : Bool)
  -- the order unit
  | orderTakeUp
  | endWord
  | bundleWord
  | repeatWord
  | repeatAlwaysWord
  | endRepeatWord
  | callWord
  | returnWord
  | holdWord
  | unknownCodeWord
  | emissionResume
  | interpreterResume
  -- frames that begin, and the reset pin
  /-- The length field that the frame comes to carry before its deadline; none when it does not (log entry 30). -/
  | linkFrameBegin (length : Option (Fin 601) := none)
  | stationFrameBegin
  | resetPinAsserted
  deriving DecidableEq, Repr

end Sys2Proof
end

