-- ==== Sys2Proof/Machine/Types.lean ====
section
/-! DEFINITION. The records the part keeps, with the names of the spec's tables. -/

namespace Sys2Proof.Machine

open Sys2Proof

/-! ## Strips (chapter 1) -/

/-- Table 1-5. -/
inductive StripState where
  | entering | lineal | loaded | decided | trimmed
  deriving DecidableEq, Repr

/-- Table 1-1, size flag. -/
inductive SizeFlag where
  | normal | short | long
  deriving DecidableEq, Repr

/-- Table 3-2 of the conventions (3.8). -/
inductive Face where
  | top | edge
  deriving DecidableEq, Repr

/-- Table 3-3 of the conventions (3.8). -/
inductive DefectClass where
  | soundKnot | darkKnot | split | wane | pith | stain | hole | check
  deriving DecidableEq, Repr

/-- A moulder run (2.4). -/
structure Run where
  number : Nat
  species : Nat
  profile : Nat
  deriving DecidableEq, Repr

/-- The wear stamp (R34). -/
structure WearStamp where
  derate : Nat
  cap : Grade
  deriving DecidableEq, Repr

/-- One entry of a record's defect list (R2, R51). -/
structure Defect where
  cls : DefectClass
  face : Face
  x : Nat
  extent : Nat
  size : Nat
  deriving DecidableEq, Repr

/-- Table 1-2. -/
structure ReportPart where
  moisture : Nat
  defects : List Defect
  overflow : Bool
  discarded : Nat
  deriving DecidableEq, Repr

/-- R4. -/
inductive Override where
  | grade (g : Grade)
  | reject
  deriving DecidableEq, Repr

/-- R3. -/
inductive Disposition where
  | sort | overflow | reject | ungraded | uncut | faulted
  deriving DecidableEq, Repr

/-- Table 1-4. -/
inductive Cause where
  | noBay | air | bayFault | bayAbort | forced | wet | short | noGrade | noReport | headNotReady | latePosition
  | headFault | doubled | size
  deriving DecidableEq, Repr

/-- The chosen option of a decision (R3). -/
structure Choice where
  grade : Grade
  headStep : Nat
  tailStep : Nat
  lf : Nat
  band : Nat
  value : Nat
  deriving DecidableEq, Repr

/-- The destination of a SORT strip (R3). -/
structure Destination where
  bay : BayId
  bundle : Nat
  deriving DecidableEq, Repr

/-- The decision part (Table 1-4). -/
structure Decision where
  disposition : Disposition
  cause : Option Cause
  choice : Option Choice
  dest : Option Destination
  deriving DecidableEq, Repr

/-- A strip record (Table 1-1, R2 to R4). -/
structure Strip where
  tag : Nat
  state : StripState
  head : Position
  lm : Option Nat
  size : SizeFlag
  run : Run
  stamp : Option WearStamp
  serial : Option Serial
  doubled : Bool
  report : Option ReportPart
  decision : Option Decision
  override : Option Override
  lateReport : Bool
  dropPending : Bool
  deriving DecidableEq, Repr

/-! ## The lineal section (chapter 2) -/

/-- Table 2-2, phase. -/
inductive Phase where
  | blocked | clearing
  deriving DecidableEq, Repr

/-- Table 2-2. -/
structure Passage where
  phase : Phase
  tag : Option Nat
  h : Position
  u : Option Position
  long : Bool
  deriving DecidableEq, Repr

/-- What the lineal tracker holds (R5, R7, R20, R37). -/
structure Lineal where
  p : Position
  passage : Option Passage
  queue : List Nat
  tagCounter : Nat
  infeedHold : Bool
  deriving DecidableEq, Repr

/-- Table 2-5. -/
inductive MoulderState where
  | idle | running | draining | changeover
  deriving DecidableEq, Repr

/-- The pending run; the change set has bit 0 TOP, 1 BOTTOM, 2 TONGUE, 3 GROOVE (Table 11-4). -/
structure PendingRun where
  species : Nat
  profile : Nat
  change : BitVec 4
  deriving DecidableEq, Repr

/-- Table 2-7, but for the state, which follows from the counter and the thresholds (R32). -/
structure Spindle where
  wear : Nat
  warn : Nat
  limit : Nat
  worn : Bool
  spent : Bool
  deriving DecidableEq, Repr

/-- R32. -/
inductive SpindleState where
  | normal | worn | spent
  deriving DecidableEq, Repr

/-- What the moulder run controller holds (R28, R32, R33). -/
structure Moulder where
  state : MoulderState
  current : Run
  next : Option PendingRun
  top : Spindle
  bottom : Spindle
  tongue : Spindle
  groove : Spindle
  derateTop : Nat
  derateBottom : Nat
  capTongue : Grade
  capGroove : Grade
  deriving DecidableEq, Repr

/-! ## Reports (chapter 3) -/

/-- One defect entry as sent (Table 3-8). -/
structure RawEntry where
  cls : Nat
  face : Nat
  x : Nat
  extent : Nat
  size : Nat
  deriving DecidableEq, Repr

/-- Table 3-8. -/
structure Report where
  head : Position
  length : Nat
  moisture : Nat
  entries : List RawEntry
  deriving DecidableEq, Repr

/-- What the report matcher holds (Tables 3-5 and 3-7, R42). -/
structure Matcher where
  receiving : Bool
  frameTimer : Option Nat
  buffer : List Report
  matching : Bool
  deriving DecidableEq, Repr

/-! ## The lug chain (chapter 4) -/

/-- Table 4-2. -/
inductive SlotKind where
  | empty | strip | doubled | unknown
  deriving DecidableEq, Repr

/-- Table 4-1. -/
structure LugSlot where
  kind : SlotKind
  named : List Nat
  deriving DecidableEq, Repr

/-- An entry of the pending load list (4.4). -/
inductive LoadEntry where
  | strip (tag : Nat)
  | unknown
  deriving DecidableEq, Repr

/-- What the chain tracker holds (R55 to R65). -/
structure Chain where
  serial : Serial
  slots : Vector LugSlot 64
  load : List LoadEntry
  lastClear : Option Position
  latch : Bool
  deriving DecidableEq, Repr

/-! ## The decision's tables and limits (5.8, 10.4, 10.5) -/

/-- One entry of the grade table; the forbidden set has bit c for class c (R94). -/
structure GradeEntry where
  enabled : Bool
  dmax : Nat
  forbidden : BitVec 8
  price : Nat
  deriving DecidableEq, Repr

/-- One entry of the points table (R95). -/
structure ClassPoints where
  s1 : Nat
  s2 : Nat
  s3 : Nat
  p0 : Nat
  p1 : Nat
  p2 : Nat
  p3 : Nat
  endSensitive : Bool
  deriving DecidableEq, Repr

/-- Table 10-6. -/
structure Geometry where
  dm : Nat
  ds : Nat
  dt : Nat
  v : Nat
  d : Nat
  e : Nat
  bays : Vector Nat 8
  x : Nat
  deriving DecidableEq, Repr

/-- Table 10-7. -/
structure Limits where
  moisture : Nat
  speed : Nat
  lpark : Nat
  boost : Nat
  zone : Nat
  tp : Nat
  tl : Nat
  tt : Nat
  window : Nat
  air : Nat
  strapTimeout : Nat
  watchdog : Nat
  deriving DecidableEq, Repr

/-! ## Heads and the calendar (chapter 6) -/

/-- Table 6-2. -/
inductive HeadState where
  | homing | ready | fault
  deriving DecidableEq, Repr

/-- A plan queue entry (Table 6-1). -/
structure PlanEntry where
  serial : Serial
  step : Nat
  plunge : Bool
  deriving DecidableEq, Repr

/-- A head's reference (R78). -/
structure Reference where
  step : Nat
  serial : Serial
  deriving DecidableEq, Repr

/-- Table 6-1; `inPosition` is the position field, MOVING or IN_POSITION. -/
structure Head where
  state : HeadState
  commanded : Nat
  inPosition : Bool
  plan : List PlanEntry
  reference : Option Reference
  executed : Option PlanEntry
  deriving DecidableEq, Repr

/-- A calendar entry (Table 6-7); its serial follows from its place and the lug serial counter (R114). -/
structure CalendarEntry where
  planned : Nat
  made : Nat
  deriving DecidableEq, Repr

/-! ## Bays (chapter 7) -/

/-- Table 7-2. -/
inductive BayState where
  | disabled | empty | filling | settling | waitStrap | strapping | labelWait | discharging | fault
  deriving DecidableEq, Repr

/-- Table 7-1, fault origin. -/
inductive FaultOrigin where
  | filling | settling | strapTimeout
  deriving DecidableEq, Repr

/-- Table 8-1; the grade set has bit k - 1 for Gk, and `quotas` holds q2 to q13. -/
structure Recipe where
  species : Nat
  profile : Nat
  width : Nat
  grades : BitVec 4
  target : Nat
  quotas : Vector Nat 12
  template : Fin 4
  deriving DecidableEq, Repr

/-- The three counts of a band (Table 7-3). -/
structure BandCounts where
  committed : Nat
  deposited : Nat
  unverified : Nat
  deriving DecidableEq, Repr

/-- Table 7-3; `bands` holds bands 2 to 13 and `gradeCounts` G1 to G4. -/
structure Bundle where
  serial : Nat
  order : Nat
  recipe : Fin 32
  copy : Recipe
  sequence : Nat
  closing : Bool
  committed : Nat
  deposited : Nat
  unverified : Nat
  bands : Vector BandCounts 12
  gradeCounts : Vector Nat 4
  length : Nat
  short : Bool
  uncertain : Bool
  deriving DecidableEq, Repr

/-- A planned drop (Table 7-1). -/
structure PlannedDrop where
  serial : Serial
  tag : Nat
  deriving DecidableEq, Repr

/-- The pending drop of a bay (Table 7-1). -/
structure PendingDrop where
  serial : Serial
  tag : Nat
  attached : Bool
  deriving DecidableEq, Repr

/-- Table 7-1; the bay's number is its index and its offset stands in the geometry. -/
structure Bay where
  settleTime : Nat
  state : BayState
  origin : Option FaultOrigin
  bundle : Option Bundle
  planned : List PlannedDrop
  pendingDrop : Option PendingDrop
  settleTimer : Option Nat
  starved : Bool
  deriving DecidableEq, Repr

/-- Table 7-5, state. -/
inductive StrapperState where
  | idle | busy | fault
  deriving DecidableEq, Repr

/-- Table 7-5; the strap timeout stands in the limits. -/
structure Strapper where
  state : StrapperState
  current : Option BayId
  fifo : List BayId
  timer : Option Nat
  deriving DecidableEq, Repr

/-! ## Orders (chapter 8) -/

/-- Table 8-4. -/
inductive OrderState where
  | loaded | active | emitted | complete | faulted | cancelled
  deriving DecidableEq, Repr

/-- Table 8-9. -/
inductive FaultCode where
  | callDepth | repeatDepth | returnEmpty | unmatchedEnd | badAddress | badRecipe | badCode | spin
  deriving DecidableEq, Repr

/-- Table 8-3, with the settled mark of R171. -/
structure Order where
  id : Nat
  start : Fin 256
  state : OrderState
  faultCode : Option FaultCode
  emitted : Nat
  opened : Nat
  withdrawn : Nat
  labelled : Nat
  aborted : Nat
  closedEmpty : Nat
  settled : Bool
  deriving DecidableEq, Repr

/-- A program word (8.2). -/
structure ProgramWord where
  code : Nat
  a : Nat
  b : Nat
  deriving DecidableEq, Repr

/-- A repeat frame; `left` is none for ALWAYS (Table 8-6). -/
structure RepeatFrame where
  body : Nat
  left : Option Nat
  deriving DecidableEq, Repr

/-- Table 8-7. -/
inductive InterpreterState where
  | idle | running | queueWait | held | paused | faulted
  deriving DecidableEq, Repr

/-- Table 8-6, with the recipe of the emission in progress, which R162 keeps from the word (log entry 27). Both stacks
stand oldest first. -/
structure Interpreter where
  state : InterpreterState
  order : Option Nat
  pc : Fin 256
  calls : List Nat
  repeats : List RepeatFrame
  remainder : Nat
  recipe : Fin 32
  spin : Nat
  deriving DecidableEq, Repr

/-- An entry of the recipe queue (R168). -/
structure QueueEntry where
  order : Nat
  recipe : Fin 32
  deriving DecidableEq, Repr

/-- What the order unit holds (chapter 8). -/
structure OrderUnit where
  recipes : Vector (Option Recipe) 32
  program : Vector ProgramWord 256
  table : List Order
  runList : List Nat
  interp : Interpreter
  queue : List QueueEntry
  deriving DecidableEq, Repr

/-! ## Labels (chapter 9) -/

/-- Table 9-3; `fetched` is the state, READY or FETCHED. -/
structure Label where
  bundle : Nat
  order : Nat
  bay : BayId
  recipe : Fin 32
  template : Fin 4
  text : List Byte
  check : CheckValue
  truncated : Bool
  uncertain : Bool
  short : Bool
  fetched : Bool
  deriving DecidableEq, Repr

/-- What the label builder holds (chapter 9). -/
structure LabelBuilder where
  templates : Vector (Option (List Byte)) 4
  millId : List Byte
  table : List Label
  deriving DecidableEq, Repr

/-! ## The line link unit (chapter 10) -/

/-- Table 10-1. -/
inductive ReceiverState where
  | hunt | receiving | answering
  deriving DecidableEq, Repr

/-- Table 11-2. -/
inductive Status where
  | ok | unknownRequest | badArgument | notFound | wrongState | tableFull | notConfigured | notFetched
  deriving DecidableEq, Repr

/-- A response: the request code echoed, the status and the payload (10.1). -/
structure Response where
  code : Byte
  status : Status
  payload : List Byte
  deriving DecidableEq, Repr

/-- R195. -/
inductive LineState where
  | unconfigured | stopped | running
  deriving DecidableEq, Repr

/-- R205. -/
inductive ResetCause where
  | powerOn | resetPin | tracking
  deriving DecidableEq, Repr

/-- Table 10-8, in its order. -/
inductive Notice where
  | stripLost | unknownStrip | tableFull | reportOrphan | reportLate | headFault | bayFault | strapFault
  | recipeStarved | orderHeld | orderFault | orderComplete | labelReady | labelWait | spindleWorn | spindleSpent
  | linkHold
  deriving DecidableEq, Repr

/-- What the line link unit holds (chapter 10); the notice sets have the bits of Table 11-4. -/
structure Link where
  receiver : ReceiverState
  /-- The time left to a frame's deadline, in tenths of a bit time (R192, log entry 7). -/
  frameTimer : Option Nat
  response : Option Response
  line : LineState
  notices : BitVec 17
  mask : BitVec 17
  watchdog : Option Nat
  hold : Bool
  cause : ResetCause
  deriving DecidableEq, Repr

/-- The event counters, in the order of GET STATUS (Table 11-17). -/
inductive Counter where
  -- Table 1-7
  | deposited | dropUnverified | endOverflow | endReject | endUngraded | endUncut | endFaulted | lostTransfer
  | lostVerify | lostOverload | purged | untracked
  -- R52
  | reportBadFrame | reportOverrun | reportMatched | reportLate | reportDuplicate | reportOrphan | defectsDiscarded
  | reportOverflow
  -- Table 4-6
  | transferUnknown | transferOverload | doubledLugs | loadUnknown | verifyUnknown | endUnknown
  -- Table 5-2
  | decidedSort | decidedOverflow | decidedReject | decidedUngraded | decidedUncut | decidedFaulted
  -- Table 6-4 and AIR_REFUSED
  | cuts | latePosition | headFaultCancels | faultsHeadSide | faultsTailSide | airRefused
  -- Table 7-8
  | bundlesOpened | bundlesShort | bundlesClosedEmpty | bundlesAborted | bundlesDischarged | drops | bayCancels
  | bayFaults | straps | strapTimeouts | strayConfirm | strayStrap | strayDischarge
  -- Table 8-10
  | ordersAdded | ordersCompleted | ordersCancelled | orderFaults | entriesWithdrawn
  -- Table 9-6
  | labelsFormed | labelsTruncated | labelsRetired
  -- Table 10-9
  | linkDiscarded | linkAnsweredOk | linkRefused | linkHolds
  deriving DecidableEq, Repr

/-! ## Pins -/

/-- A pulse or a strobe of an output (R100, R104, R129). -/
inductive Pulse where
  | step (head : HeadId) (n : Nat)
  | plunge (head : HeadId)
  | flap (bay : BayId)
  deriving DecidableEq, Repr

/-- The levels of the field inputs the part reads as levels (R109, R112, R145, R148). -/
structure Inputs where
  inPositionHead : Bool
  inPositionTail : Bool
  faultHead : Bool
  faultTail : Bool
  bayFault : Vector Bool 8
  bayConfirm : Vector Bool 8
  discharge : Vector Bool 8
  deriving DecidableEq, Repr

end Sys2Proof.Machine
end

