-- ==== Sys2Proof/Machine/State.lean ====
section
/-! DEFINITION. The state of the part, block by block (Table 0-4), the ways a step can stop, and the state right after
power-on. -/

namespace Sys2Proof.Machine

open Sys2Proof

/-- The ways the part stops with a fault. There is none: positioner, bay, strapper and order faults are states of
their blocks (R107, R139, R144, R167), and no rule stops the part. Safe: nothing raises it. -/
inductive Fault where
  deriving DecidableEq, Repr

/-- The ways a command is refused by the model. -/
inductive Refusal where
  /-- Raised by `exec` alone, for a row without a meaning; no row is without one. Safe. -/
  | notModelled (mnemonic : String)
  deriving DecidableEq, Repr

/-- The state of the part. -/
structure State where
  /-- The commands that wait, first in, first out (log entry 1). -/
  pending : List Instr
  /-- How many free choices have been taken (log entry 25). -/
  freeCount : Nat
  /-- The pulses and strobes given by the command just taken, in order (log entry 23). -/
  pulses : List Pulse
  /-- The heads whose homings the commands just taken have completed, no other command between (log entry 35). -/
  homed : List HeadId
  /-- The reset pin is asserted (R205). -/
  resetPin : Bool
  /-- The supply has risen since the part last ran (R205, log entry 24). -/
  supplyRisen : Bool
  inputs : Inputs
  link : Link
  counters : Vector Nat 63
  geometry : Geometry
  limits : Limits
  lineal : Lineal
  moulder : Moulder
  /-- The live strip records, oldest first (R6). -/
  strips : List Strip
  matcher : Matcher
  chain : Chain
  grades : Vector GradeEntry 4
  points : Vector ClassPoints 8
  headSide : Head
  tailSide : Head
  /-- The ring of the actuation calendar; the entry of tick t stands in place t mod 64 (R114). -/
  calendar : Vector CalendarEntry 64
  bays : Vector Bay 8
  strapper : Strapper
  labelWait : List BayId
  bundleSerial : Nat
  orders : OrderUnit
  labels : LabelBuilder
  deriving DecidableEq, Repr

/-- Table 10-6, defaults. -/
def Geometry.default : Geometry :=
  { dm := 6000, ds := 9000, dt := 12000, v := 2, d := 4, e := 10, bays := #v[14, 18, 22, 26, 30, 34, 38, 42], x := 46 }

/-- Table 10-7, defaults. -/
def Limits.default : Limits :=
  { moisture := 110, speed := 2, lpark := 15, boost := 8, zone := 50, tp := 40, tl := 8, tt := 200, window := 4,
    air := 12, strapTimeout := 20000, watchdog := 0 }

/-- Table 5-5. DARK_KNOT, SPLIT, WANE, PITH, HOLE are bits 1, 2, 3, 4, 6. -/
def defaultGrades : Vector GradeEntry 4 :=
  #v[{ enabled := true, dmax := 6, forbidden := 0x5E#8, price := 900 },
     { enabled := true, dmax := 14, forbidden := 0x4C#8, price := 700 },
     { enabled := true, dmax := 30, forbidden := 0x40#8, price := 520 },
     { enabled := true, dmax := 80, forbidden := 0#8, price := 360 }]

/-- Table 5-6. -/
def defaultPoints : Vector ClassPoints 8 :=
  #v[{ s1 := 5, s2 := 10, s3 := 20, p0 := 0, p1 := 2, p2 := 4, p3 := 8, endSensitive := false },
     { s1 := 3, s2 := 8, s3 := 15, p0 := 2, p1 := 6, p2 := 10, p3 := 20, endSensitive := false },
     { s1 := 10, s2 := 30, s3 := 60, p0 := 8, p1 := 16, p2 := 30, p3 := 60, endSensitive := true },
     { s1 := 5, s2 := 15, s3 := 30, p0 := 4, p1 := 10, p2 := 20, p3 := 40, endSensitive := false },
     { s1 := 10, s2 := 50, s3 := 100, p0 := 6, p1 := 12, p2 := 24, p3 := 40, endSensitive := false },
     { s1 := 10, s2 := 30, s3 := 60, p0 := 1, p1 := 3, p2 := 6, p3 := 12, endSensitive := false },
     { s1 := 1, s2 := 2, s3 := 4, p0 := 6, p1 := 12, p2 := 24, p3 := 48, endSensitive := false },
     { s1 := 10, s2 := 30, s3 := 60, p0 := 2, p1 := 6, p2 := 12, p3 := 24, endSensitive := true }]

/-- Table 2-8 and R38: a new spindle. -/
def Spindle.fresh : Spindle :=
  { wear := 0, warn := 20000000, limit := 25000000, worn := false, spent := false }

/-- R38 and Table 2-13. -/
def Moulder.start : Moulder :=
  { state := .idle, current := { number := 255, species := 1, profile := 1 }, next := none, top := .fresh,
    bottom := .fresh, tongue := .fresh, groove := .fresh, derateTop := 4, derateBottom := 2, capTongue := .g3,
    capGroove := .g3 }

/-- A slot that holds no lug reads as this (R57). -/
def LugSlot.clear : LugSlot := { kind := .empty, named := [] }

/-- R119: HOMING, sent step 0. -/
def Head.start : Head :=
  { state := .homing, commanded := 0, inPosition := false, plan := [], reference := none, executed := none }

/-- R150. -/
def Bay.start : Bay :=
  { settleTime := 400, state := .disabled, origin := none, bundle := none, planned := [], pendingDrop := none,
    settleTimer := none, starved := false }

/-- R175. The program counter and the recipe of an emission have no stated value there (log entry 26). -/
def Interpreter.start : Interpreter :=
  { state := .idle, order := none, pc := 0, calls := [], repeats := [], remainder := 0, recipe := 0, spin := 0 }

/-- R175. -/
def OrderUnit.start : OrderUnit :=
  { recipes := Vector.replicate 32 none, program := Vector.replicate 256 { code := 0, a := 0, b := 0 }, table := [],
    runList := [], interp := .start, queue := [] }

/-- R190: no template, the mill id "0000", no record. -/
def LabelBuilder.start : LabelBuilder :=
  { templates := Vector.replicate 4 none, millId := List.replicate 4 0x30#8, table := [] }

/-- Table 10-12. -/
def Link.start : Link :=
  { receiver := .hunt, frameTimer := none, response := none, line := .unconfigured, notices := 0, mask := 0,
    watchdog := none, hold := false, cause := .powerOn }

/-- Every field input inactive (DESIGN CHOICE, log entry 11: the inputs are the installation's, no rule gives them). -/
def Inputs.inactive : Inputs :=
  { inPositionHead := false, inPositionTail := false, faultHead := false, faultTail := false,
    bayFault := Vector.replicate 8 false, bayConfirm := Vector.replicate 8 false,
    discharge := Vector.replicate 8 false }

/-- The part right after power-on, with every field input inactive (R18, R38, R53, R71, R97, R119, R150, R175, R190,
R205). -/
def State.reset : State :=
  { pending := []
    freeCount := 0
    pulses := [.step .headSide 0, .step .tailSide 0]
    homed := []
    resetPin := false
    supplyRisen := false
    inputs := .inactive
    link := .start
    counters := Vector.replicate 63 0
    geometry := .default
    limits := .default
    lineal := { p := 0, passage := none, queue := [], tagCounter := 1, infeedHold := false }
    moulder := .start
    strips := []
    matcher := { receiving := false, frameTimer := none, buffer := [], matching := false }
    chain := { serial := 0, slots := Vector.replicate 64 .clear, load := [], lastClear := none, latch := false }
    grades := defaultGrades
    points := defaultPoints
    headSide := .start
    tailSide := .start
    calendar := Vector.replicate 64 { planned := 0, made := 0 }
    bays := Vector.replicate 8 .start
    strapper := { state := .idle, current := none, fifo := [], timer := none }
    labelWait := []
    bundleSerial := 1
    orders := .start
    labels := .start }

end Sys2Proof.Machine
end

