-- ==== Sys2Proof/Machine/Operands.lean ====
section
/-! DEFINITION. The operand forms: numbers as bytes, most significant byte first (chapter 11), the fields of a request
payload, the codings of Table 11-4, and the reading of a report payload (R207). -/

namespace Sys2Proof.Machine

open Sys2Proof

/-- The number that bytes spell, most significant byte first (chapter 11). -/
def ofBytes (bytes : List Byte) : Nat :=
  bytes.foldl (fun n b => n * 256 + b.toNat) 0

/-- The `len` bytes of a number, most significant byte first (chapter 11). -/
def toBytes : Nat → Nat → List Byte
  | 0, _ => []
  | len + 1, n => toBytes len (n / 256) ++ [BitVec.ofNat 8 n]

/-- The number in the `len` bytes of a payload from offset `off`. -/
def fieldAt (p : List Byte) (off len : Nat) : Nat :=
  ofBytes ((p.drop off).take len)

/-- A flag byte is 0 or 1 (R206). -/
def flagOf : Nat → Option Bool
  | 0 => some false
  | 1 => some true
  | _ => none

/-- A grade or cap byte is 1 to 4 (Table 11-4). -/
def Grade.ofNum : Nat → Option Grade
  | 1 => some .g1
  | 2 => some .g2
  | 3 => some .g3
  | 4 => some .g4
  | _ => none

/-- The place of a grade in the grade table and in a bundle's grade counts. -/
def gradeIdx : Grade → Fin 4
  | .g1 => 0
  | .g2 => 1
  | .g3 => 2
  | .g4 => 3

/-- The worse of two grades is the one with the higher number (3.7). -/
def Grade.worse (a b : Grade) : Grade :=
  if a.num < b.num then b else a

/-- The class numbers of Table 3-3. -/
def DefectClass.ofNum : Nat → Option DefectClass
  | 0 => some .soundKnot
  | 1 => some .darkKnot
  | 2 => some .split
  | 3 => some .wane
  | 4 => some .pith
  | 5 => some .stain
  | 6 => some .hole
  | 7 => some .check
  | _ => none

/-- The class number, which is also its place in the points table and its bit in a class set. -/
def classIdx : DefectClass → Fin 8
  | .soundKnot => 0
  | .darkKnot => 1
  | .split => 2
  | .wane => 3
  | .pith => 4
  | .stain => 5
  | .hole => 6
  | .check => 7

/-- The face codes of Table 11-4. -/
def Face.ofNum : Nat → Option Face
  | 0 => some .top
  | 1 => some .edge
  | _ => none

/-- A bay number 1 to 8 names a bay. -/
def bayOfNum (n : Nat) : Option BayId :=
  if h : 1 ≤ n ∧ n ≤ 8 then some ⟨n - 1, by omega⟩ else none

/-- The number of a bay, 1 to 8. -/
def bayNum (k : BayId) : Nat := k.val + 1

/-- A head code, 1 HEAD-SIDE or 2 TAIL-SIDE (Table 11-4). -/
def headOfNum : Nat → Option HeadId
  | 1 => some .headSide
  | 2 => some .tailSide
  | _ => none

/-- The eight bays in ascending number. -/
def allBays : List BayId := [0, 1, 2, 3, 4, 5, 6, 7]

/-- A set of `w` members coded in one byte, with no bit above them (R206). -/
def setOf (w n : Nat) : Option (BitVec w) :=
  if n < 2 ^ w then some (BitVec.ofNat w n) else none

/-- The place of a band 2 to 13 among twelve. -/
def bandIdx (band : Nat) : Fin 12 := ⟨min (band - 2) 11, by omega⟩

/-- The place of a lug serial or a tick in a ring of 64 (R56). -/
def ringIdx (n : Serial) : Fin 64 := ⟨n.toNat % 64, by omega⟩

/-- The distance between two values modulo 2^32, read as a signed number and without its sign (3.2, R45, R60). -/
def distance (a b : BitVec 32) : Nat := (a - b).toInt.natAbs

/-- "P has passed t" (R20): the difference lies between 1 and 2^31 - 1. -/
def passed (p t : Position) : Bool :=
  let d := (p - t).toNat
  1 ≤ d && d < 2 ^ 31

/-- P has reached t: it stands at t or has passed it. -/
def reached (p t : Position) : Bool := p = t || passed p t

/-- One defect entry of a report, seven bytes (Table 11-5). -/
def rawEntry (p : List Byte) : RawEntry :=
  { cls := fieldAt p 0 1, face := fieldAt p 1 1, x := fieldAt p 2 2, extent := fieldAt p 4 2, size := fieldAt p 6 1 }

/-- `n` defect entries in a row. -/
def rawEntries : Nat → List Byte → List RawEntry
  | 0, _ => []
  | n + 1, p => rawEntry p :: rawEntries n (p.drop 7)

/-- The length test and the entry count test of a report payload (R41, R207). -/
def reportWellFormed (p : List Byte) : Bool :=
  let n := fieldAt p 8 1
  n ≤ 32 && p.length == 9 + 7 * n

/-- The report in a payload (R207): each field is the unsigned value its bytes give. -/
def readReport (p : List Byte) : Report :=
  { head := BitVec.ofNat 32 (fieldAt p 0 4), length := fieldAt p 4 2, moisture := fieldAt p 6 2,
    entries := rawEntries (fieldAt p 8 1) (p.drop 9) }

end Sys2Proof.Machine
end

