-- ==== Sys2Proof/Machine/Ops.lean ====
section
/-! DEFINITION. The shared operations: counters, notices, pulses, strip records, lug slots, bays and heads. -/

namespace Sys2Proof.Machine

open Sys2Proof

/-! ## Counters and notices -/

/-- The place of a counter in GET STATUS (Table 11-17). -/
def Counter.idx (c : Counter) : Fin 63 := ⟨c.ctorIdx, by cases c <;> decide⟩

/-- The value of an event counter. -/
def State.count (s : State) (c : Counter) : Nat := s.counters[c.idx]

/-- An event counter rises by n and stops at 65535 (R201). -/
def State.bumpBy (s : State) (c : Counter) (n : Nat) : State :=
  { s with counters := s.counters.set c.idx (min Config.counterLimit (s.count c + n)) }

/-- An event counter is incremented. -/
def State.bump (s : State) (c : Counter) : State := s.bumpBy c 1

/-- The bit of a notice (Table 11-4). -/
def Notice.idx (n : Notice) : Fin 17 := ⟨n.ctorIdx, by cases n <;> decide⟩

/-- The notice set that holds one notice. -/
def Notice.bit (n : Notice) : BitVec 17 := BitVec.twoPow 17 n.idx

/-- A block raises a notice: it becomes pending (R199). -/
def State.raise (s : State) (n : Notice) : State :=
  { s with link := { s.link with notices := s.link.notices ||| n.bit } }

/-- A notice is pending. -/
def State.isPending (s : State) (n : Notice) : Bool := s.link.notices.getLsbD n.idx

/-! ## Outputs -/

/-- An output gives a pulse or a strobe. -/
def State.pulse (s : State) (p : Pulse) : State := { s with pulses := s.pulses ++ [p] }

/-- A command begins: the pulses of the one before it are over, and the homings completed before it lie in the past
(log entries 23 and 35). -/
def State.clearPulses (s : State) : State := { s with pulses := [], homed := [] }

/-- An event of the part. While the reset pin is asserted the part takes no event (R205). -/
def takeEvent (f : State → State) (s : State) : Host.Outcome State Fault Refusal :=
  .next (if s.resetPin then s.clearPulses else f s.clearPulses)

/-- An edge of a field input: the input's level follows the pin at all times, and the part takes the event unless the
reset pin is asserted (log entry 11). -/
def takeEdge (level : Inputs → Inputs) (f : State → State) (s : State) : Host.Outcome State Fault Refusal :=
  takeEvent f { s with inputs := level s.inputs }

/-! ## Free choices (log entries 8 and 14) -/

/-- The members of a list in a free order. A list of one member is taken as it stands. -/
def freeOrder {α : Type} : Nat → Nat → List α → List α
  | 0, _, l => l
  | _ + 1, _, [] => []
  | _ + 1, _, [a] => [a]
  | fuel + 1, c, a :: b :: l =>
    let i := Config.freeIndex c % (a :: b :: l).length
    match (a :: b :: l)[i]? with
    | some x => x :: freeOrder fuel (c + 1) ((a :: b :: l).eraseIdx i)
    | none => a :: b :: l

/-- How many free choices `freeOrder` takes of a list. -/
def freeChoices {α : Type} (l : List α) : Nat := l.length - 1

/-- Take each member of a list by f, in a free order. -/
def inFreeOrder {α : Type} (l : List α) (f : α → State → State) (s : State) : State :=
  (freeOrder l.length s.freeCount l).foldl (fun s a => f a s) { s with freeCount := s.freeCount + freeChoices l }

/-! ## Strip records -/

/-- The live record that carries a tag. -/
def State.strip? (s : State) (tag : Nat) : Option Strip := s.strips.find? (fun r => r.tag == tag)

/-- The record that carries a tag is changed. -/
def State.updStrip (s : State) (tag : Nat) (f : Strip → Strip) : State :=
  { s with strips := s.strips.map (fun r => if r.tag = tag then f r else r) }

/-! ## The lug map -/

/-- The slot of the lug with serial n (4.2). -/
def State.slot (s : State) (n : Serial) : LugSlot := s.chain.slots[ringIdx n]

/-- The slot of the lug with serial n is written. -/
def State.setSlot (s : State) (n : Serial) (l : LugSlot) : State :=
  { s with chain := { s.chain with slots := s.chain.slots.set (ringIdx n) l } }

/-- The serial of the lug at offset k (R55). -/
def State.serialAt (s : State) (k : Nat) : Serial := s.chain.serial - BitVec.ofNat 32 k

/-- The strip table removes a record: it leaves the lineal queue or its lug slot, and its tag becomes free (R9). The
slot's kind is not changed. -/
def State.remove (s : State) (tag : Nat) : State :=
  let s1 := match (s.strip? tag).bind (·.serial) with
    | some n => s.setSlot n { s.slot n with named := (s.slot n).named.filter (· ≠ tag) }
    | none => s
  { s1 with strips := s1.strips.filter (fun r => r.tag ≠ tag)
            lineal := { s1.lineal with queue := s1.lineal.queue.filter (· ≠ tag) } }

/-- Retirement: the cause's counter and the removal of the record (R9, R10). -/
def State.retire (s : State) (tag : Nat) (c : Counter) : State := (s.remove tag).bump c

/-! ## Heads -/

/-- A head record. -/
def State.head (s : State) : HeadId → Head
  | .headSide => s.headSide
  | .tailSide => s.tailSide

/-- A head record is written. -/
def State.setHead (s : State) (h : HeadId) (r : Head) : State :=
  match h with
  | .headSide => { s with headSide := r }
  | .tailSide => { s with tailSide := r }

/-- The other head. -/
def HeadId.other : HeadId → HeadId
  | .headSide => .tailSide
  | .tailSide => .headSide

/-! ## Bays -/

/-- A bay record. -/
def State.bay (s : State) (k : BayId) : Bay := s.bays[k]

/-- A bay record is changed. -/
def State.updBay (s : State) (k : BayId) (f : Bay → Bay) : State :=
  { s with bays := s.bays.set k (f (s.bay k)) }

/-- The offset of a bay. -/
def State.bayOffset (s : State) (k : BayId) : Nat := s.geometry.bays[k]

/-! ## Orders -/

/-- The live order that carries an id. -/
def State.order? (s : State) (id : Nat) : Option Order := s.orders.table.find? (fun o => o.id == id)

/-- The order that carries an id is changed. -/
def State.updOrder (s : State) (id : Nat) (f : Order → Order) : State :=
  { s with orders := { s.orders with table := s.orders.table.map (fun o => if o.id = id then f o else o) } }

/-- The interpreter's record is changed. -/
def State.updInterp (s : State) (f : Interpreter → Interpreter) : State :=
  { s with orders := { s.orders with interp := f s.orders.interp } }

end Sys2Proof.Machine
end

