-- ==== Sys2Proof/Machine/Flags.lean ====
section
/-! DEFINITION. What follows from the stored state and is not stored again (log entry 31): spindle states, the gate
condition, the pause condition, ATTN, the output levels, the targets of a strip, the watched strip. -/

namespace Sys2Proof.Machine

open Sys2Proof

/-- A spindle's state follows from its counter and thresholds (R32). -/
def Spindle.state (w : Spindle) : SpindleState :=
  if w.wear < w.warn then .normal else if w.wear < w.limit then .worn else .spent

/-- WORN or SPENT (R34). -/
def Spindle.isWorn (w : Spindle) : Bool := w.state ≠ .normal

/-- SPENT. -/
def Spindle.isSpent (w : Spindle) : Bool := w.state = .spent

/-- No spindle is SPENT (R36). -/
def Moulder.noneSpent (m : Moulder) : Bool :=
  !m.top.isSpent && !m.bottom.isSpent && !m.tongue.isSpent && !m.groove.isSpent

/-- The gate condition (R36). -/
def State.gateCondition (s : State) : Bool :=
  s.link.line = .running && s.moulder.state = .running && s.moulder.noneSpent && s.strips.length < Config.gateLimit
    && !s.link.hold && !s.lineal.infeedHold

/-- The infeed gate output is open. All outputs are inactive while the reset pin is asserted (R205). -/
def State.gateOpen (s : State) : Bool := s.gateCondition && !s.resetPin

/-- ATTN is asserted while an unmasked notice is pending (R199), and released while the reset pin is asserted (R205). -/
def State.attn (s : State) : Bool := (s.link.notices &&& ~~~s.link.mask) ≠ 0 && !s.resetPin

/-- The bay the strap command output names while it is asserted (R137, R205). -/
def State.strapCommand (s : State) : Option BayId := if s.resetPin then none else s.strapper.current

/-- A bay's discharge output is asserted (R143, R205). -/
def State.dischargeOutput (s : State) (k : BayId) : Bool := (s.bay k).state = .discharging && !s.resetPin

/-- The transmitter of the line link is enabled (10.1, R205). -/
def State.transmitting (s : State) : Bool := s.link.receiver = .answering && !s.resetPin

/-- The pause condition of the interpreter (8.4). -/
def State.pauseCondition (s : State) : Bool := s.link.line ≠ .running || s.link.hold

/-! ## Targets of a strip (Table 2-1) -/

/-- Moulder exit, h + Dm. -/
def State.exitTarget (s : State) (r : Strip) : Position := r.head + BitVec.ofNat 32 s.geometry.dm

/-- Moulder clear, h + Dm + 2 Lm. -/
def State.clearTarget (s : State) (r : Strip) : Position :=
  s.exitTarget r + BitVec.ofNat 32 (2 * r.lm.getD 0)

/-- Scanner expectation, h + Ds. -/
def State.scanTarget (s : State) (r : Strip) : Position := r.head + BitVec.ofNat 32 s.geometry.ds

/-- Transfer expectation e, h + Dt + 2 Lm. -/
def State.transferTarget (s : State) (r : Strip) : Position :=
  r.head + BitVec.ofNat 32 (s.geometry.dt + 2 * r.lm.getD 0)

/-- The last position of the transfer window, e + Tt; the deadline is the next (Table 2-1). -/
def State.transferLast (s : State) (r : Strip) : Position :=
  s.transferTarget r + BitVec.ofNat 32 s.limits.tt

/-- A strip is cleared when the pending load list names it (R7, R60). -/
def State.isCleared (s : State) (tag : Nat) : Bool := s.chain.load.contains (.strip tag)

/-- The watched strip: the oldest in the lineal queue that is LINEAL and not cleared (R7, R27, R60). -/
def State.watched? (s : State) : Option Strip :=
  s.lineal.queue.findSome? fun tag =>
    match s.strip? tag with
    | some r => if r.state = .lineal && !s.isCleared tag then some r else none
    | none => none

/-- The watched strip's deadline has come (R27). -/
def State.overdue? (s : State) : Option Strip :=
  match s.watched? with
  | some r => if passed s.lineal.p (s.transferLast r) then some r else none
  | none => none

/-- An old-run strip before moulder exit (R30). -/
def State.isOldRun (s : State) (r : Strip) : Bool :=
  r.run.number = s.moulder.current.number &&
    (r.state = .entering || (r.state = .lineal && !reached s.lineal.p (s.clearTarget r)))

/-- The count of old-run strips before moulder exit (R30). -/
def State.oldRunCount (s : State) : Nat := (s.strips.filter s.isOldRun).length

/-! ## Orders -/

/-- The order's queued count (8.3). -/
def State.queuedCount (s : State) (id : Nat) : Nat := (s.orders.queue.filter (fun e => e.order = id)).length

/-- opened = labelled + aborted + closed_empty (R171). -/
def Order.allEnded (o : Order) : Bool := o.opened = o.labelled + o.aborted + o.closedEmpty

/-- The bundle's total (7.2). -/
def Bundle.total (b : Bundle) : Nat := b.committed + b.deposited + b.unverified

/-- The total of a band (7.2). -/
def BandCounts.total (b : BandCounts) : Nat := b.committed + b.deposited + b.unverified

/-- The remaining count, N less the total (7.2). -/
def Bundle.remaining (b : Bundle) : Nat := b.copy.target - b.total

end Sys2Proof.Machine
end

