-- ==== Sys2Proof/Machine/Calendar.lean ====
section
/-! DEFINITION. The actuation calendar (6.6). -/

namespace Sys2Proof.Machine

open Sys2Proof

/-- The entry in the place of a tick (R114). -/
def State.calEntry (s : State) (t : Serial) : CalendarEntry := s.calendar[ringIdx t]

/-- The entry in the place of a tick is changed. -/
def State.updCal (s : State) (t : Serial) (f : CalendarEntry → CalendarEntry) : State :=
  { s with calendar := s.calendar.set (ringIdx t) (f (s.calEntry t)) }

/-- The ring holds a tick: it lies between tau - 15 and tau + 48 (R114). -/
def State.ringHolds (s : State) (t : Serial) : Bool :=
  (t - s.serialAt Config.calendarPast).toNat < Config.calendarTicks

/-- The count of a tick, its planned plus its made starts; a tick the ring does not hold counts 0 (6.6, R114). -/
def State.startsAt (s : State) (t : Serial) : Nat :=
  if s.ringHolds t then (s.calEntry t).planned + (s.calEntry t).made else 0

/-- The starts in the n consecutive ticks from t. -/
def State.windowStarts (s : State) (t : Serial) : Nat → Nat
  | 0 => 0
  | n + 1 => s.startsAt t + s.windowStarts (t + 1) n

/-- Every window of W consecutive ticks that contains t holds at most A starts when c more are added (R115). -/
def State.airFits (s : State) (t : Serial) (c : Nat) : Bool :=
  (List.range s.limits.window).all fun i =>
    s.windowStarts (t - BitVec.ofNat 32 i) s.limits.window + c ≤ s.limits.air

/-- c starts are planned at tick t. -/
def State.planStarts (s : State) (t : Serial) (c : Nat) : State :=
  s.updCal t fun e => { e with planned := e.planned + c }

/-- A reservation of c starts at tick t: granted and planned, or refused and counted (R115). -/
def State.reserve (s : State) (t : Serial) (c : Nat) : State × Bool :=
  if s.airFits t c then (s.planStarts t c, true) else (s.bump .airRefused, false)

/-- c planned starts at tick t become made starts (R116). -/
def State.makeStarts (s : State) (t : Serial) (c : Nat) : State :=
  s.updCal t fun e => { planned := e.planned - c, made := e.made + c }

/-- c planned starts at tick t are freed (R117). -/
def State.freeStarts (s : State) (t : Serial) (c : Nat) : State :=
  s.updCal t fun e => { e with planned := e.planned - c }

/-- At tick tau the entry of tick tau - 16 is cleared; its place then stands for tau + 48 (R114). -/
def State.calendarAdvance (s : State) : State :=
  s.updCal (s.serialAt (Config.calendarPast + 1)) fun _ => { planned := 0, made := 0 }

/-- The planned starts of every tick are cleared and the made ones kept (R120). -/
def State.clearPlanned (s : State) : State :=
  { s with calendar := Vector.ofFn fun i => { s.calendar[i] with planned := 0 } }

/-- Every window of length w that lies within the ticks the ring holds has at most a starts (R118). -/
def State.windowsMeet (s : State) (w a : Nat) : Bool :=
  (List.range (Config.calendarTicks + 1 - w)).all fun i =>
    s.windowStarts (s.serialAt Config.calendarPast + BitVec.ofNat 32 i) w ≤ a

/-- SET LIMITS with a window w and an air limit a is tested when it raises W or lowers A (R118). -/
def State.airChangeFits (s : State) (w a : Nat) : Bool :=
  if s.limits.window < w ∨ a < s.limits.air then s.windowsMeet w a else true

end Sys2Proof.Machine
end

