-- ==== Sys2Proof/Machine/Orders.lean ====
section
/-! DEFINITION. The order unit's records: completion, taking up an order, leaving the queue, pausing (8.3 to 8.7). The
program words are in Words.lean. -/

namespace Sys2Proof.Machine

open Sys2Proof

/-- The completion test of an order (R171). -/
def orderTest (s : State) (id : Nat) : State :=
  match s.order? id with
  | none => s
  | some o =>
    if o.state = .emitted ∧ s.queuedCount id = 0 ∧ o.allEnded then
      ((s.updOrder id fun o => { o with state := .complete }).raise .orderComplete).bump .ordersCompleted
    else if o.state = .cancelled ∧ o.allEnded ∧ o.settled = false then
      (s.updOrder id fun o => { o with settled := true }).raise .orderComplete
    else s

/-- An order record's counter changes and the completion test follows (R158). -/
def orderReport (s : State) (id : Nat) (f : Order → Order) : State := orderTest (s.updOrder id f) id

/-- The interpreter may take up an order: IDLE, no pause, a run list (R159). -/
def takeUpDue (s : State) : Bool :=
  s.orders.interp.state = .idle && !s.pauseCondition && !s.orders.runList.isEmpty

/-- The front order of the run list becomes ACTIVE and the interpreter RUNNING at its start address (R159). -/
def takeUpFront (s : State) : State :=
  match s.orders.runList with
  | [] => s
  | id :: rest =>
    let start := ((s.order? id).map (·.start)).getD 0
    let s1 := s.updOrder id fun o => { o with state := .active }
    { s1 with orders := { s1.orders with
        runList := rest
        interp := { s1.orders.interp with state := .running, order := some id, pc := start, calls := [], repeats := [],
                                          remainder := 0, spin := 0 } } }

/-- The interpreter applies R159. -/
def takeUp (s : State) : State := if takeUpDue s then takeUpFront s else s

/-- Entries have left the recipe queue: a QUEUE_WAIT interpreter becomes RUNNING (R162). -/
def placeFreed (s : State) : State :=
  if s.orders.interp.state = .queueWait then s.updInterp fun i => { i with state := .running } else s

/-- A PAUSED interpreter may resume (R166). -/
def resumeDue (s : State) : Bool := s.orders.interp.state = .paused && !s.pauseCondition

/-- A PAUSED interpreter resumes: RUNNING, or QUEUE_WAIT when an emission is in progress and the queue is full (R166). -/
def resumePaused (s : State) : State :=
  s.updInterp fun i =>
    { i with state := if 0 < i.remainder ∧ Config.queueCapacity ≤ s.orders.queue.length then .queueWait else .running }

/-- The pause condition has come to hold: RUNNING and QUEUE_WAIT go to PAUSED (R166). -/
def pauseInterp (s : State) : State :=
  if s.orders.interp.state = .running ∨ s.orders.interp.state = .queueWait then
    s.updInterp fun i => { i with state := .paused }
  else s

/-- The line state or LINK_HOLD has changed: the interpreter pauses, resumes or takes up an order (R159, R166). -/
def pauseChanged (s : State) : State :=
  if s.pauseCondition then pauseInterp s
  else if resumeDue s then resumePaused s
  else takeUp s

/-- The interpreter gives up its order: IDLE, stacks empty, no emission, spin count 0 (R161, R169). -/
def giveUp (s : State) : State :=
  s.updInterp fun i => { i with state := .idle, order := none, calls := [], repeats := [], remainder := 0, spin := 0 }

/-- The end of the held order's program (R161): EMITTED, the interpreter IDLE, the completion test, the next order. -/
def endOrder (s : State) : State :=
  match s.orders.interp.order with
  | none => s
  | some id => takeUp (orderTest (giveUp (s.updOrder id fun o => { o with state := .emitted })) id)

/-- A fault stops the held order (R167). -/
def faultOrder (s : State) (code : FaultCode) : State :=
  match s.orders.interp.order with
  | none => s
  | some id =>
    let s1 := s.updOrder id fun o => { o with state := .faulted, faultCode := some code }
    ((s1.updInterp fun i => { i with state := .faulted }).raise .orderFault).bump .orderFaults

end Sys2Proof.Machine
end

