-- ==== Sys2Proof/Machine/Labels.lean ====
section
/-! DEFINITION. Label formation (9.2, 9.3) and the check code of the conventions (3.11). -/

namespace Sys2Proof.Machine

open Sys2Proof

/-! ## The check code (3.11) -/

/-- One bit of the check code: polynomial x^16 + x^12 + x^5 + 1, not reflected. -/
def checkShift (c : CheckValue) : CheckValue := if c.msb then (c <<< 1) ^^^ 0x1021#16 else c <<< 1

/-- n bits of the check code. -/
def checkShifts : Nat → CheckValue → CheckValue
  | 0, c => c
  | n + 1, c => checkShifts n (checkShift c)

/-- One byte of the check code, most significant bit first. -/
def checkByte (c : CheckValue) (b : Byte) : CheckValue := checkShifts 8 (c ^^^ (b.setWidth 16 <<< 8))

/-- The check code over bytes: initial value 0xFFFF, result not inverted. -/
def checkCode (bytes : List Byte) : CheckValue := bytes.foldl checkByte 0xFFFF#16

/-! ## Field texts (9.2) -/

/-- The character of a digit. -/
def digit (n : Nat) : Byte := BitVec.ofNat 8 (48 + n % 10)

/-- A number in `width` decimal digits with leading zeros. -/
def decimal : Nat → Nat → List Byte
  | 0, _ => []
  | width + 1, n => decimal width (n / 10) ++ [digit n]

/-- A number in decimal without leading zeros. -/
def decimalPlain (n : Nat) : List Byte := (Nat.toDigits 10 n).map fun c => BitVec.ofNat 8 c.toNat

/-- A digit of a check value, 0 to 9 and A to F (R183). -/
def hexDigit (n : Nat) : Byte := if n < 10 then BitVec.ofNat 8 (48 + n) else BitVec.ofNat 8 (55 + n)

/-- A check value as four hexadecimal digits, most significant first (R183). -/
def checkDigits (c : CheckValue) : List Byte :=
  [hexDigit (c.toNat / 4096 % 16), hexDigit (c.toNat / 256 % 16), hexDigit (c.toNat / 16 % 16), hexDigit (c.toNat % 16)]

/-- The strips counted in a bundle, deposited and unverified (Table 9-2). -/
def Bundle.strips (b : Bundle) : Nat := b.deposited + b.unverified

/-- 0x85: the letter of the worst grade with a count above 0 (R179). -/
def gradeLetter (b : Bundle) : List Byte :=
  if 0 < b.gradeCounts[(3 : Fin 4)] then [0x52#8]
  else if 0 < b.gradeCounts[(2 : Fin 4)] then [0x4E#8]
  else if 0 < b.gradeCounts[(1 : Fin 4)] then [0x53#8]
  else if 0 < b.gradeCounts[(0 : Fin 4)] then [0x50#8]
  else []

/-- 0x87: the total length in metres, rounded to centimetres (R180). -/
def lengthText (mm : Nat) : List Byte :=
  let c := (mm + 5) / 10
  decimal 3 (c / 100) ++ [0x2E#8] ++ decimal 2 (c % 100)

/-- 0x88: the area in square metres, rounded to thousandths (R180). -/
def areaText (mm width : Nat) : List Byte :=
  let a := (mm * width + 500) / 1000
  decimal 3 (a / 1000) ++ [0x2E#8] ++ decimal 3 (a % 1000)

/-- The bands 2 to 13. -/
def allBands : List Nat := [2, 3, 4, 5, 6, 7, 8, 9, 10, 11, 12, 13]

/-- The count of a band in the length mix: deposited plus unverified (R181). -/
def Bundle.bandStrips (b : Bundle) (band : Nat) : Nat :=
  b.bands[bandIdx band].deposited + b.bands[bandIdx band].unverified

/-- Texts joined by one space. -/
def joinSpaced : List (List Byte) → List Byte
  | [] => []
  | [t] => t
  | t :: ts => t ++ [0x20#8] ++ joinSpaced ts

/-- 0x89: the pairs of the bands whose count is above 0, in ascending order (R181). -/
def mixText (b : Bundle) : List Byte :=
  joinSpaced ((allBands.filter fun band => 0 < b.bandStrips band).map fun band =>
    decimalPlain band ++ [0x3A#8] ++ decimalPlain (b.bandStrips band))

/-- 0x8A: "U" when UNCERTAIN is set, then "S" when SHORT is set (R179). -/
def flagsText (b : Bundle) : List Byte :=
  (if b.uncertain then [0x55#8] else []) ++ (if b.short then [0x53#8] else [])

/-- The text a template byte gives: a field code's field, or the literal byte (Table 9-2). -/
def fieldText (b : Bundle) (millId : List Byte) (byte : Byte) : List Byte :=
  match byte.toNat with
  | 0x80 => decimal 6 b.serial
  | 0x81 => decimal 5 b.order
  | 0x82 => decimal 2 b.recipe
  | 0x83 => decimal 2 b.copy.species
  | 0x84 => decimal 2 b.copy.profile
  | 0x85 => gradeLetter b
  | 0x86 => decimal 3 b.strips
  | 0x87 => lengthText b.length
  | 0x88 => areaText b.length b.copy.width
  | 0x89 => mixText b
  | 0x8A => flagsText b
  | 0x8C => millId
  | 0x8D => decimal 3 (b.sequence % 1000)
  | _ => [byte]

/-! ## Formation (9.3) -/

/-- The check code of a template (Table 9-2). -/
def checkField : Byte := 0x8B#8

/-- The label body before the cut: the template's bytes in order, up to its end or its check code (R182). -/
def labelBody (b : Bundle) (millId : List Byte) : List Byte → List Byte
  | [] => []
  | x :: rest => if x = checkField then [] else fieldText b millId x ++ labelBody b millId rest

/-- The template ends with the check code (R183). -/
def endsWithCheck (template : List Byte) : Bool := template.getLast? = some checkField

/-- The most bytes a body may hold: 316 before check digits, otherwise 320 (R183). -/
def bodyLimit (template : List Byte) : Nat :=
  if endsWithCheck template then Config.labelBytes - 4 else Config.labelBytes

/-- The body after the cut (R183). -/
def cutBody (b : Bundle) (millId template : List Byte) : List Byte :=
  (labelBody b millId template).take (bodyLimit template)

/-- The label record of a bundle (R183, R185). -/
def labelOf (k : BayId) (b : Bundle) (millId template : List Byte) : Label :=
  let body := cutBody b millId template
  let check := checkCode body
  { bundle := b.serial, order := b.order, bay := k, recipe := b.recipe, template := b.copy.template
    text := if endsWithCheck template then body ++ checkDigits check else body
    check := check
    truncated := bodyLimit template < (labelBody b millId template).length
    uncertain := b.uncertain, short := b.short, fetched := false }

/-- The template a bundle's formation uses; it is always defined (R177, log entry 22). -/
def State.templateOf (s : State) (b : Bundle) : List Byte := (s.labels.templates[b.copy.template]).getD []

/-- The formation for a bay's bundle: the record joins the table, the order unit counts it, the notice is raised and
the formation is counted (R182, R185). -/
def formLabel (s : State) (k : BayId) : State :=
  match (s.bay k).bundle with
  | none => s
  | some b =>
    let r := labelOf k b s.labels.millId (s.templateOf b)
    let s1 := { s with labels := { s.labels with table := s.labels.table ++ [r] } }
    let s2 := orderReport s1 b.order fun o => { o with labelled := o.labelled + 1 }
    let s3 := (s2.raise .labelReady).bump .labelsFormed
    if r.truncated then s3.bump .labelsTruncated else s3

/-- The label is formed and the bay goes to DISCHARGING (R141 to R143). -/
def labelAndDischarge (s : State) (k : BayId) : State :=
  (formLabel s k).updBay k fun b => { b with state := .discharging }

/-- A place is free in the label table. -/
def State.labelRoom (s : State) : Bool := s.labels.table.length < Config.labelCapacity

/-- Strapping is complete: the label is formed at once, or the bay waits (R141). -/
def labelOrWait (s : State) (k : BayId) : State :=
  if s.labelWait = [] ∧ s.labelRoom then labelAndDischarge s k
  else
    let s1 := s.updBay k fun b => { b with state := .labelWait }
    ({ s1 with labelWait := s1.labelWait ++ [k] }).raise .labelWait

/-- The label-wait FIFO is served: its front bay takes the free place (R142, R184). -/
def serveLabelWait (s : State) : State :=
  match s.labelWait with
  | [] => s
  | k :: rest => if s.labelRoom then labelAndDischarge { s with labelWait := rest } k else s

end Sys2Proof.Machine
end

