-- ==== Sys2Proof/Machine/Bays.lean ====
section
/-! DEFINITION. Bays and bundles (7.3 to 7.10) and the strapper (7.8). -/

namespace Sys2Proof.Machine

open Sys2Proof

/-! ## Opening (7.3) -/

/-- The first value from n on, by `next`, that is not taken; `fuel` is how many values may be taken (R5, R125). -/
def firstFree (taken : Nat → Bool) (next : Nat → Nat) : Nat → Nat → Nat
  | 0, n => n
  | fuel + 1, n => if taken n then firstFree taken next fuel (next n) else n

/-- The bundle serial after n: it advances by one, from 999999 to 1 (R125). -/
def nextBundleSerial (n : Nat) : Nat := if n = Config.bundleSerialLimit then 1 else n + 1

/-- A live bundle record or a label record carries the serial (R125). -/
def State.serialTaken (s : State) (n : Nat) : Bool :=
  (allBays.any fun k => ((s.bay k).bundle.map (·.serial)) = some n) || s.labels.table.any (fun r => r.bundle = n)

/-- The serial the next bundle takes (R125). -/
def State.freeBundleSerial (s : State) : Nat :=
  firstFree s.serialTaken nextBundleSerial (allBays.length + s.labels.table.length) s.bundleSerial

/-- A new bundle record (R126). -/
def newBundle (serial order : Nat) (recipe : Fin 32) (copy : Recipe) (sequence : Nat) : Bundle :=
  { serial := serial, order := order, recipe := recipe, copy := copy, sequence := sequence, closing := false
    committed := 0, deposited := 0, unverified := 0
    bands := Vector.replicate 12 { committed := 0, deposited := 0, unverified := 0 }
    gradeCounts := Vector.replicate 4 0, length := 0, short := false, uncertain := false }

/-- A bay takes the oldest entry of the recipe queue and opens a bundle (R126). A place an entry names is always
defined (R153, log entry 22). -/
def openBundle (s : State) (k : BayId) : State :=
  match s.orders.queue with
  | [] => s
  | e :: rest =>
    match s.orders.recipes[e.recipe] with
    | none => s
    | some copy =>
      let serial := s.freeBundleSerial
      let s1 := s.updOrder e.order fun o => { o with opened := o.opened + 1 }
      let sequence := ((s1.order? e.order).map (·.opened)).getD 0
      let s2 := { s1 with orders := { s1.orders with queue := rest }, bundleSerial := nextBundleSerial serial }
      let s3 := s2.updBay k fun b =>
        { b with state := .filling, bundle := some (newBundle serial e.order e.recipe copy sequence), starved := false }
      orderTest (placeFreed (s3.bump .bundlesOpened)) e.order

/-- The lowest-numbered EMPTY bay (R126). -/
def State.firstEmptyBay (s : State) : Option BayId := allBays.find? fun k => (s.bay k).state = .empty

/-- An entry waits: the lowest-numbered EMPTY bay takes the oldest (R126, R168). -/
def offerEntry (s : State) : State :=
  match s.firstEmptyBay with
  | none => s
  | some k => openBundle s k

/-- A bay enters EMPTY: it takes the oldest entry, or raises RECIPE_STARVED once for the stay (R126). -/
def enterEmpty (s : State) (k : BayId) : State :=
  let s1 := s.updBay k fun b =>
    { b with state := .empty, origin := none, bundle := none, settleTimer := none }
  if s1.orders.queue ≠ [] then openBundle s1 k
  else if (s1.bay k).starved then s1
  else (s1.raise .recipeStarved).updBay k fun b => { b with starved := true }

/-! ## Acceptance and commitment (7.4) -/

/-- The acceptance test (R127). -/
def State.accepts (s : State) (k : BayId) (g : Grade) (band species profile : Nat) : Bool :=
  match (s.bay k).state, (s.bay k).bundle with
  | .filling, some b =>
    !b.closing && species = b.copy.species && profile = b.copy.profile && b.copy.grades.getLsbD (gradeIdx g)
      && b.total < b.copy.target && b.bands[bandIdx band].total < b.copy.quotas[bandIdx band]
  | _, _ => false

/-- A bay's bundle record is changed, when it has one. -/
def State.updBundle (s : State) (k : BayId) (f : Bundle → Bundle) : State :=
  s.updBay k fun b => { b with bundle := b.bundle.map f }

/-- A commitment is recorded (R128). -/
def commitStrip (s : State) (k : BayId) (n : Serial) (tag band : Nat) : State :=
  let s1 := s.updBundle k fun b =>
    let c := b.bands[bandIdx band]
    { b with committed := b.committed + 1
             bands := b.bands.set (bandIdx band) { c with committed := c.committed + 1 } }
  s1.updBay k fun b => { b with planned := b.planned ++ [{ serial := n, tag := tag }] }

/-- A commitment is released (R128). -/
def releaseCommitment (s : State) (k : BayId) (band : Nat) : State :=
  s.updBundle k fun b =>
    let c := b.bands[bandIdx band]
    { b with committed := b.committed - 1
             bands := b.bands.set (bandIdx band) { c with committed := c.committed - 1 } }

/-- The band of a strip's chosen option. -/
def Strip.band (r : Strip) : Nat := ((r.decision.bind (·.choice)).map (·.band)).getD 0

/-- A planned drop is cancelled: it leaves the list, its start is freed and its commitment released (R132). -/
def cancelPlanned (s : State) (k : BayId) (d : PlannedDrop) : State :=
  let band := ((s.strip? d.tag).map (·.band)).getD 0
  let s1 := s.updBay k fun b => { b with planned := b.planned.filter (fun e => e.tag ≠ d.tag) }
  releaseCommitment (s1.freeStarts (d.serial + BitVec.ofNat 32 (s.bayOffset k)) 1) k band

/-! ## Completion (7.6) -/

/-- A bay enters SETTLING and starts its settle timer (R136). -/
def startSettle (s : State) (k : BayId) : State :=
  s.updBay k fun b => { b with state := .settling, origin := none, settleTimer := some b.settleTime }

/-- The bundle closes empty (R133). While its order is being cancelled the order's test waits (R169). -/
def closeEmpty (s : State) (k : BayId) (order : Nat) (test : Bool) : State :=
  let s1 := s.updOrder order fun o => { o with closedEmpty := o.closedEmpty + 1 }
  let s2 := if test then orderTest s1 order else s1
  enterEmpty (s2.bump .bundlesClosedEmpty) k

/-- The completion test of a bay in FILLING (R133). `test` is false inside step 2 of a CANCEL ORDER (R169). -/
def completionTest (s : State) (k : BayId) (test : Bool) : State :=
  match (s.bay k).state, (s.bay k).bundle with
  | .filling, some b =>
    if 0 < b.committed then s
    else if b.total = b.copy.target then startSettle s k
    else if b.closing = false then s
    else if 0 < b.total then
      startSettle ((s.updBundle k fun b => { b with short := true }).bump .bundlesShort) k
    else closeEmpty s k b.order test
  | _, _ => s

/-! ## Drops (7.5) -/

/-- A resolved strip's counts go into its bundle (R130). -/
def Bundle.resolve (b : Bundle) (confirmed : Bool) (c : Choice) : Bundle :=
  let n := b.bands[bandIdx c.band]
  let counts : BandCounts :=
    { committed := n.committed - 1
      deposited := if confirmed then n.deposited + 1 else n.deposited
      unverified := if confirmed then n.unverified else n.unverified + 1 }
  { b with
    committed := b.committed - 1
    deposited := if confirmed then b.deposited + 1 else b.deposited
    unverified := if confirmed then b.unverified else b.unverified + 1
    bands := b.bands.set (bandIdx c.band) counts
    gradeCounts := b.gradeCounts.set (gradeIdx c.grade) (b.gradeCounts[gradeIdx c.grade] + 1)
    length := b.length + c.lf
    uncertain := b.uncertain || !confirmed }

/-- A bay's pending drop resolves, DEPOSITED or DROP_UNVERIFIED: the strip retires, its slot names no strip, and an
attached drop is counted in the bundle, whose completion test follows (R130). -/
def resolveDrop (s : State) (k : BayId) (confirmed : Bool) : State :=
  match (s.bay k).pendingDrop with
  | none => s
  | some d =>
    let choice := ((s.strip? d.tag).bind (·.decision)).bind (·.choice)
    let s1 := s.retire d.tag (if confirmed then .deposited else .dropUnverified)
    let s2 := s1.updBay k fun b => { b with pendingDrop := none }
    match d.attached, choice with
    | true, some c => completionTest (s2.updBundle k fun b => b.resolve confirmed c) k true
    | _, _ => s2

/-- The drop of the front planned entry (R129). -/
def makeDrop (s : State) (k : BayId) (d : PlannedDrop) : State :=
  let s1 := s.updBay k fun b =>
    { b with planned := b.planned.drop 1, pendingDrop := some { serial := d.serial, tag := d.tag, attached := true } }
  let s2 := (s1.pulse (.flap k)).makeStarts s.chain.serial 1
  let s3 := s2.setSlot d.serial { s2.slot d.serial with kind := .empty }
  (s3.updStrip d.tag fun r => { r with dropPending := true }).bump .drops

/-- A bay takes a lug tick: the window closes, then a planned drop that is due is made (R129). -/
def bayTick (s : State) (k : BayId) : State :=
  let s1 := resolveDrop s k false
  match (s1.bay k).planned with
  | [] => s1
  | d :: _ => if d.serial = s1.serialAt (s1.bayOffset k) then makeDrop s1 k d else s1

/-! ## The strapper (7.8) -/

/-- The arbiter may take a bay (R137). -/
def strapDue (s : State) : Bool := s.strapper.state = .idle && !s.strapper.fifo.isEmpty

/-- The arbiter takes the bay at the front of the FIFO (R137). -/
def strapFront (s : State) : State :=
  match s.strapper.fifo with
  | [] => s
  | k :: rest =>
    let s1 := s.updBay k fun b => { b with state := .strapping }
    { s1 with strapper := { state := .busy, current := some k, fifo := rest, timer := some s.limits.strapTimeout } }

/-- The arbiter applies R137. -/
def arbitrate (s : State) : State := if strapDue s then strapFront s else s

/-- A bay goes to WAIT_STRAP at the newest end of the FIFO (R136). -/
def joinStrapper (s : State) (k : BayId) : State :=
  let s1 := s.updBay k fun b => { b with state := .waitStrap, settleTimer := none }
  arbitrate { s1 with strapper := { s1.strapper with fifo := s1.strapper.fifo ++ [k] } }

/-- A bay goes to WAIT_STRAP at the front of the FIFO (R145). -/
def rejoinStrapper (s : State) (k : BayId) : State :=
  let s1 := s.updBay k fun b => { b with state := .waitStrap, origin := none }
  arbitrate { s1 with strapper := { s1.strapper with fifo := k :: s1.strapper.fifo } }

/-- The settle timer expires (R136). -/
def settleExpire (s : State) (k : BayId) : State :=
  if (s.bay k).state = .settling then joinStrapper s k else s

/-- The strap timer expires (R139). -/
def strapExpire (s : State) : State :=
  match s.strapper.state, s.strapper.current with
  | .busy, some k =>
    let s1 := s.updBay k fun b => { b with state := .fault, origin := some .strapTimeout }
    let s2 := { s1 with strapper := { s1.strapper with state := .fault, current := none, timer := none } }
    (s2.raise .strapFault).bump .strapTimeouts
  | _, _ => s

/-- A strap complete that names the current bay (R138). -/
def strapDone (s : State) (k : BayId) : State :=
  let s1 := { s with strapper := { s.strapper with state := .idle, current := none, timer := none } }
  arbitrate (labelOrWait (s1.bump .straps) k)

/-! ## Faults and aborts (7.10) -/

/-- A strip loses its bay: OVERFLOW, without destination, counted under BAY_CANCELS (R132). -/
def overflowStrip (s : State) (tag : Nat) (cause : Cause) : State :=
  (s.updStrip tag fun r =>
    { r with decision := r.decision.map fun d => { d with disposition := .overflow, cause := some cause, dest := none } }).bump
    .bayCancels

/-- Every planned drop of a bay is cancelled in list order (R144, R146). -/
def cancelAllPlanned (s : State) (k : BayId) (cause : Cause) : State :=
  (s.bay k).planned.foldl (fun s d => overflowStrip (cancelPlanned s k d) d.tag cause) s

/-- A bay goes to FAULT, counted and noticed (R144). -/
def bayToFault (s : State) (k : BayId) (origin : FaultOrigin) : State :=
  let s1 := s.updBay k fun b => { b with state := .fault, origin := some origin, settleTimer := none }
  (s1.bump .bayFaults).raise .bayFault

/-- An activation of a bay's fault input (Table 7-6). -/
def bayFaultActive (s : State) (k : BayId) : State :=
  match (s.bay k).state with
  | .filling => cancelAllPlanned (bayToFault s k .filling) k .bayFault
  | .settling => bayToFault s k .settling
  | .fault => s
  | _ => s.raise .bayFault

/-- ABORT BUNDLE taken (R146). -/
def abortBundle (s : State) (k : BayId) : State :=
  let s1 := cancelAllPlanned s k .bayAbort
  let s2 := s1.updBay k fun b => { b with pendingDrop := b.pendingDrop.map fun d => { d with attached := false } }
  let s3 := { s2 with strapper := { s2.strapper with fifo := s2.strapper.fifo.filter (· ≠ k) } }
  let s4 := match (s3.bay k).bundle with
    | some b => orderReport s3 b.order fun o => { o with aborted := o.aborted + 1 }
    | none => s3
  enterEmpty (s4.bump .bundlesAborted) k

/-- A discharge completion (R143). -/
def dischargeDone (s : State) (k : BayId) : State :=
  if (s.bay k).state = .discharging then enterEmpty (s.bump .bundlesDischarged) k else s.bump .strayDischarge

/-- Several bays apply their completion test at one event, in ascending number: those that close empty take entries of the
recipe queue in that order (R126). -/
def testBays (test : Bool) (l : List BayId) (s : State) : State :=
  l.foldl (fun s k => completionTest s k test) s

/-- A cancelled order sets the closing flag of a bay's bundle: FILLING, or FAULT with origin FILLING (R135). -/
def State.closedBy (s : State) (id : Nat) (k : BayId) : Bool :=
  ((s.bay k).state = .filling || ((s.bay k).state = .fault && (s.bay k).origin = some .filling)) &&
    ((s.bay k).bundle.map (·.order)) = some id

/-- The bundles of a cancelled order are set closing and the FILLING bays apply their completion test (R135). -/
def closeForCancel (id : Nat) (s : State) : State :=
  let l := allBays.filter (s.closedBy id)
  testBays false l (l.foldl (fun s k => s.updBundle k fun b => { b with closing := true }) s)

end Sys2Proof.Machine
end

