-- ==== Sys2Proof/Machine/Heads.lean ====
section
/-! DEFINITION. The end-match heads: the positioner handshake, plan queues, the end-match tick, faults and homing
(6.1 to 6.5). -/

namespace Sys2Proof.Machine

open Sys2Proof

/-- A head record is changed. -/
def State.updHead (s : State) (h : HeadId) (f : Head → Head) : State := s.setHead h (f (s.head h))

/-! ## Step commands and the plan queue (R100 to R102) -/

/-- A step command with its strobe: the commanded step becomes n and the position MOVING (R100). -/
def sendStep (s : State) (h : HeadId) (n : Nat) : State :=
  (s.updHead h fun r => { r with commanded := n, inPosition := false }).pulse (.step h n)

/-- An entry has become the front entry: a READY head is sent its step when it differs from the commanded one (R100,
R101). -/
def sendFront (s : State) (h : HeadId) : State :=
  match (s.head h).state, (s.head h).plan with
  | .ready, e :: _ => if e.step = (s.head h).commanded then s else sendStep s h e.step
  | _, _ => s

/-- An entry is appended to a plan queue and becomes the reference (R101, R102). -/
def appendEntry (s : State) (h : HeadId) (e : PlanEntry) : State :=
  let first := (s.head h).plan.isEmpty
  let s1 := s.updHead h fun r => { r with plan := r.plan ++ [e], reference := some { step := e.step, serial := e.serial } }
  if first then sendFront s1 h else s1

/-- The entry for a serial at the front of a head's queue (R103). -/
def State.frontFor (s : State) (h : HeadId) (n : Serial) : Option PlanEntry :=
  match (s.head h).plan with
  | e :: _ => if e.serial = n then some e else none
  | [] => none

/-- A head takes its front entry when that is for serial n, and the next entry is sent (R103). -/
def takeEntry (s : State) (h : HeadId) (n : Serial) : State :=
  match s.frontFor h n with
  | some e => sendFront (s.updHead h fun r => { r with plan := r.plan.drop 1, executed := some e }) h
  | none => s

/-- The plan entries of a head for a serial become no-plunge entries with their steps kept (R16, R108). -/
def noPlunge (s : State) (h : HeadId) (n : Serial) : State :=
  s.updHead h fun r => { r with plan := r.plan.map fun e => if e.serial = n then { e with plunge := false } else e }

/-! ## A strip loses its cut (R105, R108) -/

/-- A strip becomes UNCUT: its chosen option stays and its destination is removed (R3). -/
def makeUncut (s : State) (tag : Nat) (cause : Cause) : State :=
  s.updStrip tag fun r =>
    { r with decision := r.decision.map fun d => { d with disposition := .uncut, cause := some cause, dest := none } }

/-- The planned drop of a strip with its bay. -/
def State.plannedDrop? (s : State) (tag : Nat) : Option (BayId × PlannedDrop) :=
  match ((s.strip? tag).bind (·.decision)).bind (·.dest) with
  | some d => ((s.bay d.bay).planned.find? fun e => e.tag = tag).map fun e => (d.bay, e)
  | none => none

/-- A SORT strip's planned drop is cancelled; the bay whose commitment was released is named (R132). -/
def cancelDrop (s : State) (tag : Nat) : State × Option BayId :=
  match s.plannedDrop? tag with
  | some (k, d) => (cancelPlanned s k d, some k)
  | none => (s, none)

/-- The completion test of a bay that has lost a commitment (R132). -/
def testAfterCancel (s : State) : Option BayId → State
  | some k => completionTest s k true
  | none => s

/-- A strip loses its cut: its planned drop is cancelled, it becomes UNCUT and a counter counts it (R105, R108). -/
def loseCut (cause : Cause) (c : Counter) (s : State) (tag : Nat) : State :=
  (makeUncut (cancelDrop s tag).1 tag cause).bump c

/-- The bays that have lost a planned drop between two states. -/
def lostDrops (s t : State) : List BayId :=
  allBays.filter fun k => (t.bay k).planned.length < (s.bay k).planned.length

/-! ## The end-match tick (R103 to R106) -/

/-- A DECIDED strip on the lug at E becomes TRIMMED (R103). -/
def trimStrip (s : State) (tag : Nat) : State :=
  s.updStrip tag fun r => if r.state = .decided then { r with state := .trimmed } else r

/-- An entry with a plunge. -/
def isPlunge : Option PlanEntry → Bool
  | some e => e.plunge
  | none => false

/-- The cut: both plunges, two made starts, CUTS (R104). -/
def makeCut (s : State) (n : Serial) : State :=
  let s1 := (s.pulse (.plunge .headSide)).pulse (.plunge .tailSide)
  (s1.makeStarts (n + BitVec.ofNat 32 s.geometry.e) 2).bump .cuts

/-- The late strip: the two plunge starts are freed, the strip named in the slot loses its cut, and its bay applies the
completion test (R105, log entry 32). -/
def latePosition (s : State) (n : Serial) : State :=
  let s1 := (s.slot n).named.foldl (loseCut .latePosition .latePosition)
    (s.freeStarts (n + BitVec.ofNat 32 s.geometry.e) 2)
  testBays true (lostDrops s s1) s1

/-- Both heads' front entries are for serial n, both carry a plunge and both heads are in position (R104). -/
def State.cutsAt (s : State) (n : Serial) : Bool :=
  isPlunge (s.frontFor .headSide n) && isPlunge (s.frontFor .tailSide n) && s.headSide.inPosition && s.tailSide.inPosition

/-- A front entry for serial n carries a plunge and there is no cut (R105, R106). -/
def State.lateAt (s : State) (n : Serial) : Bool :=
  (isPlunge (s.frontFor .headSide n) || isPlunge (s.frontFor .tailSide n)) && !s.cutsAt n

/-- What the entries at the front of the heads do to the strip on lug n (R104 to R106). -/
def endMatchOutcome (s : State) (n : Serial) : State :=
  if s.cutsAt n then makeCut s n else if s.lateAt n then latePosition s n else s

/-- The end-match station takes the lug at E (R103). -/
def endMatchTick (s : State) : State :=
  let n := s.serialAt s.geometry.e
  let s1 := endMatchOutcome ((s.slot n).named.foldl trimStrip s) n
  takeEntry (takeEntry s1 .headSide n) .tailSide n

/-! ## Faults (R107, R108) -/

/-- The fault counter of a head. -/
def faultCounter : HeadId → Counter
  | .headSide => .faultsHeadSide
  | .tailSide => .faultsTailSide

/-- The tags of the DECIDED strips on a lug. -/
def State.decidedOn (s : State) (n : Serial) : List Nat :=
  (s.strips.filter fun r => r.state = .decided && r.serial = some n).map (·.tag)

/-- A cut planned in the emptied queue of head h is given up (R108). -/
def cancelCut (h : HeadId) (s : State) (e : PlanEntry) : State :=
  if e.plunge then
    (s.decidedOn e.serial).foldl
      (fun s tag =>
        let s1 := noPlunge (s.freeStarts (e.serial + BitVec.ofNat 32 s.geometry.e) 2) (HeadId.other h) e.serial
        loseCut .headFault .headFaultCancels s1 tag) s
  else s

/-- A positioner fault in READY or HOMING (R107, R108); the bays whose commitments are released apply their completion
test (R132). -/
def faultHead (h : HeadId) (s : State) : State :=
  match (s.head h).state with
  | .fault => s
  | _ =>
    let plan := (s.head h).plan
    let s1 := s.updHead h fun r => { r with state := .fault, plan := [], reference := none }
    let s2 := (s1.raise .headFault).bump (faultCounter h)
    let s3 := plan.foldl (cancelCut h) s2
    testBays true (lostDrops s2 s3) s3

/-! ## Homing (R100, R109, R110, R120) -/

/-- A head enters HOMING: its queue and reference go, step 0 is sent (R100). -/
def homeHead (s : State) (h : HeadId) : State :=
  sendStep (s.updHead h fun r => { r with state := .homing, plan := [], reference := none }) h 0

/-- RESET TRACKING and an accepted SET GEOMETRY on a head (R120, R121). -/
def resetHead (s : State) (h : HeadId) : State :=
  match (s.head h).state with
  | .ready => homeHead s h
  | _ => s.updHead h fun r => { r with plan := [] }

/-- Homing completes (R110); `earlier` are the heads whose homings the commands right before have completed (log entry
35). -/
def homingDone (earlier : List HeadId) (s : State) (h : HeadId) : State :=
  { (s.updHead h fun r =>
      { r with state := .ready, inPosition := true, plan := []
               reference := some { step := 0, serial := s.serialAt s.geometry.d } }) with homed := earlier ++ [h] }

/-- An activation of the in-position input (R100, R110). -/
def positionReached (earlier : List HeadId) (h : HeadId) (s : State) : State :=
  match (s.head h).state with
  | .ready => s.updHead h fun r => { r with inPosition := true }
  | .homing => homingDone earlier s h
  | .fault => s

/-- A deactivation of the in-position input (R100). -/
def positionLost (h : HeadId) (s : State) : State :=
  match (s.head h).state with
  | .fault => s
  | _ => s.updHead h fun r => { r with inPosition := false }

/-- The homing of a HOMING head completes; a head that is not HOMING has none to complete (R110, log entry 28). -/
def homingComplete (earlier : List HeadId) (h : HeadId) (s : State) : State :=
  match (s.head h).state with
  | .homing => homingDone earlier s h
  | _ => s

/-- The level of a head's in-position input is written. -/
def Inputs.setInPosition (i : Inputs) (h : HeadId) (v : Bool) : Inputs :=
  match h with
  | .headSide => { i with inPositionHead := v }
  | .tailSide => { i with inPositionTail := v }

/-- The level of a head's positioner fault input is written. -/
def Inputs.setHeadFault (h : HeadId) (v : Bool) (i : Inputs) : Inputs :=
  match h with
  | .headSide => { i with faultHead := v }
  | .tailSide => { i with faultTail := v }

/-- The level of a head's in-position input. -/
def Inputs.inPositionAt (i : Inputs) : HeadId → Bool
  | .headSide => i.inPositionHead
  | .tailSide => i.inPositionTail

/-- The level of a head's positioner fault input. -/
def Inputs.headFaultAt (i : Inputs) : HeadId → Bool
  | .headSide => i.faultHead
  | .tailSide => i.faultTail

/-! ## The rows -/

/-- IN_POSITION_ACTIVE (R100, R110). -/
def execInPositionActive (h : HeadId) (s : State) : Host.Outcome State Fault Refusal :=
  takeEdge (·.setInPosition h true) (positionReached s.homed h) s

/-- IN_POSITION_INACTIVE (R100). -/
def execInPositionInactive (h : HeadId) (s : State) : Host.Outcome State Fault Refusal :=
  takeEdge (·.setInPosition h false) (positionLost h) s

/-- HOMING_COMPLETE (R110). -/
def execHomingComplete (h : HeadId) (s : State) : Host.Outcome State Fault Refusal :=
  takeEdge (·.setInPosition h true) (homingComplete s.homed h) s

/-- POSITIONER_FAULT (R107). -/
def execPositionerFault (h : HeadId) (active : Bool) (s : State) : Host.Outcome State Fault Refusal :=
  takeEdge (Inputs.setHeadFault h active) (fun s => if active then faultHead h s else s) s

end Sys2Proof.Machine
end

