-- ==== Sys2Proof/Machine/Decide.lean ====
section
/-! DEFINITION. The cut-and-grade decision (chapter 5). -/

namespace Sys2Proof.Machine

open Sys2Proof

/-! ## Options and reach (R77 to R79) -/

/-- The trim at a step, mm (Table 3-4). -/
def trimOf (step : Nat) : Nat := 3 + 10 * step

/-- A step is reachable from a reference for serial n at speed S (R79). -/
def Reference.reaches (ref : Reference) (speed : Nat) (n : Serial) (step : Nat) : Bool :=
  max step ref.step - min step ref.step ≤ speed * (n - ref.serial).toNat

/-- A step is reachable for a head (R79). A READY head has a reference (R99, log entry 22). -/
def Head.reaches (r : Head) (speed : Nat) (n : Serial) (step : Nat) : Bool :=
  match r.reference with
  | some ref => ref.reaches speed n step
  | none => false

/-- The steps 0 to 7. -/
def allSteps : List Nat := [0, 1, 2, 3, 4, 5, 6, 7]

/-- A trim option. -/
structure TrimOption where
  headStep : Nat
  tailStep : Nat
  deriving DecidableEq, Repr

/-- The head trim, where the finished piece begins. -/
def TrimOption.start (o : TrimOption) : Nat := trimOf o.headStep

/-- Where the finished piece ends, Lm - t. -/
def TrimOption.stop (o : TrimOption) (lm : Nat) : Nat := lm - trimOf o.tailStep

/-- The finished length Lf; 0 when the trims take the whole strip. -/
def TrimOption.lf (o : TrimOption) (lm : Nat) : Nat := lm - trimOf o.headStep - trimOf o.tailStep

/-- The 64 options. -/
def allOptions : List TrimOption := allSteps.flatMap fun a => allSteps.map fun b => { headStep := a, tailStep := b }

/-- An option is valid for a strip of length lm on serial n (R77). -/
def State.valid (s : State) (lm : Nat) (n : Serial) (o : TrimOption) : Bool :=
  Config.shortestFinished ≤ o.lf lm && s.headSide.reaches s.limits.speed n o.headStep
    && s.tailSide.reaches s.limits.speed n o.tailStep

/-! ## Grading (R81 to R85) -/

/-- A defect remains in an option (R81). -/
def Defect.remains (d : Defect) (lm : Nat) (o : TrimOption) : Bool := o.start < d.x + d.extent && d.x < o.stop lm

/-- The base points of a size (R82). -/
def ClassPoints.base (c : ClassPoints) (size : Nat) : Nat :=
  if size ≤ c.s1 then c.p0 else if size ≤ c.s2 then c.p1 else if size ≤ c.s3 then c.p2 else c.p3

/-- A span overlaps the zone from a up to b (R82). -/
def Defect.overlaps (d : Defect) (a b : Nat) : Bool := d.x < b && a < d.x + d.extent

/-- A remaining defect's points (R82). With Z = 0 nothing is doubled. -/
def Defect.points (d : Defect) (c : ClassPoints) (lm zone : Nat) (o : TrimOption) : Nat :=
  let base := c.base d.size
  let faced := match d.face with
    | .top => base
    | .edge => (base + 1) / 2
  let inZone := d.overlaps o.start (o.start + zone) || d.overlaps (o.stop lm - zone) (o.stop lm)
  if c.endSensitive && 0 < zone && inZone then faced * 2 else faced

/-- The remaining defects of an option. -/
def remaining (defects : List Defect) (lm : Nat) (o : TrimOption) : List Defect := defects.filter (·.remains lm o)

/-- The points total of an option (R83). -/
def State.pointsTotal (s : State) (defects : List Defect) (lm : Nat) (o : TrimOption) : Nat :=
  ((remaining defects lm o).map fun d => d.points s.points[classIdx d.cls] lm s.limits.zone o).sum

/-- The density of an option (R83). -/
def density (total lf derate : Nat) : Nat := (total * 1000 + lf - 1) / lf + derate

/-- A grade qualifies (R84). -/
def GradeEntry.qualifies (g : GradeEntry) (dens : Nat) (left : List Defect) : Bool :=
  g.enabled && dens ≤ g.dmax && left.all fun d => !g.forbidden.getLsbD (classIdx d.cls)

/-- The grades from G1 to G4. -/
def allGrades : List Grade := [.g1, .g2, .g3, .g4]

/-- The grade of an option from its cap toward G4, none for NO_GRADE (R84). -/
def State.gradeFrom (s : State) (cap : Grade) (dens : Nat) (left : List Defect) : Option Grade :=
  allGrades.find? fun g => cap.num ≤ g.num && (s.grades[gradeIdx g]).qualifies dens left

/-- What grading reads of a strip. -/
structure Grading where
  lm : Nat
  defects : List Defect
  derate : Nat
  cap : Grade
  forced : Option Grade
  species : Nat
  profile : Nat
  deriving DecidableEq, Repr

/-- The forced grade of an override. -/
def forcedGrade : Option Override → Option Grade
  | some (.grade g) => some g
  | _ => none

/-- The stamp the decision reads; a record without one gives free values (R34, log entry 21). -/
def Strip.stampRead (r : Strip) : WearStamp :=
  r.stamp.getD { derate := (Config.absentStamp r.tag).1, cap := (Config.absentStamp r.tag).2 }

/-- The grading inputs of a strip: the cap is the worse of the stamp's and, under the overflow flag, G4 (R84). -/
def Strip.grading (r : Strip) : Grading :=
  let capped := (r.report.map (·.overflow)).getD false
  { lm := r.lm.getD 0
    defects := (r.report.map (·.defects)).getD []
    derate := r.stampRead.derate
    cap := if capped then .g4 else r.stampRead.cap
    forced := forcedGrade r.override
    species := r.run.species
    profile := r.run.profile }

/-- The grade of an option (R84, R85). -/
def State.optionGrade (s : State) (q : Grading) (o : TrimOption) : Option Grade :=
  match q.forced with
  | some g => some g
  | none =>
    let total := s.pointsTotal q.defects q.lm o
    s.gradeFrom q.cap (density total (o.lf q.lm) q.derate) (remaining q.defects q.lm o)

/-! ## Value and ranking (R86 to R88) -/

/-- The band of a finished length (R86). -/
def bandOf (lf : Nat) : Nat := lf / 100

/-- A grade and a band are wanted (R86). -/
def State.wanted (s : State) (q : Grading) (g : Grade) (band : Nat) : Bool :=
  allBays.any fun k => s.accepts k g band q.species q.profile

/-- The value of an option (R87). -/
def State.optionValue (s : State) (q : Grading) (lf : Nat) : Option Grade → Nat
  | some g => s.grades[gradeIdx g].price * lf * (16 + if s.wanted q g (bandOf lf) then s.limits.boost else 0)
  | none => 0

/-- A graded option. -/
structure RankedOption where
  option : TrimOption
  lf : Nat
  grade : Option Grade
  value : Nat
  deriving DecidableEq, Repr

/-- An option is graded and valued. -/
def State.rate (s : State) (q : Grading) (o : TrimOption) : RankedOption :=
  let lf := o.lf q.lm
  let g := s.optionGrade q o
  { option := o, lf := lf, grade := g, value := s.optionValue q lf g }

/-- a ranks before b: by value, then the longer Lf, then the lower head step, then the lower tail step (R88). -/
def RankedOption.before (a b : RankedOption) : Bool :=
  if a.value ≠ b.value then b.value < a.value
  else if a.lf ≠ b.lf then b.lf < a.lf
  else if a.option.headStep ≠ b.option.headStep then a.option.headStep < b.option.headStep
  else a.option.tailStep < b.option.tailStep

/-- The option that ranks first (R88). -/
def firstRanked : List RankedOption → Option RankedOption
  | [] => none
  | a :: rest =>
    match firstRanked rest with
    | some b => if b.before a then some b else some a
    | none => some a

/-- The chosen option of a strip on serial n, none when no option is valid (R77, R88). -/
def State.ranking (s : State) (q : Grading) (n : Serial) : Option RankedOption :=
  firstRanked ((allOptions.filter (s.valid q.lm n)).map (s.rate q))

/-! ## Writing the decision (R74) -/

/-- The decision counter of a disposition (Table 5-2). -/
def decidedCounter : Disposition → Counter
  | .sort => .decidedSort
  | .overflow => .decidedOverflow
  | .reject => .decidedReject
  | .ungraded => .decidedUngraded
  | .uncut => .decidedUncut
  | .faulted => .decidedFaulted

/-- The decision part is written and the strip is DECIDED (R74). -/
def writeDecision (s : State) (tag : Nat) (d : Decision) : State :=
  (s.updStrip tag fun r => { r with state := .decided, decision := some d }).bump (decidedCounter d.disposition)

/-- A decision without a chosen option. -/
def plainDecision (d : Disposition) (c : Cause) : Decision := { disposition := d, cause := some c, choice := none, dest := none }

/-! ## Carrying out (R89 to R92) -/

/-- A bay is put in its place among the candidates: by remaining count, then by number (R91). -/
def insertBay (rem : BayId → Nat) (k : BayId) : List BayId → List BayId
  | [] => [k]
  | j :: rest => if rem j ≤ rem k then j :: insertBay rem k rest else k :: j :: rest

/-- The remaining count of a bay's bundle. -/
def State.bayRemaining (s : State) (k : BayId) : Nat := ((s.bay k).bundle.map (·.remaining)).getD 0

/-- The candidates in order (R91). -/
def State.candidates (s : State) (q : Grading) (g : Grade) (band : Nat) : List BayId :=
  (allBays.filter fun k => s.accepts k g band q.species q.profile).foldl (fun l k => insertBay s.bayRemaining k l) []

/-- The first candidate whose drop start is granted (R91). -/
def firstGranted (n : Serial) : State → List BayId → State × Option BayId
  | s, [] => (s, none)
  | s, k :: rest =>
    let (s1, granted) := s.reserve (n + BitVec.ofNat 32 (s.bayOffset k)) 1
    if granted then (s1, some k) else firstGranted n s1 rest

/-- The strip is routed once its plunges are planned (R91, R92). -/
def routeStrip (s : State) (n : Serial) (tag : Nat) (q : Grading) (c : Choice) : State :=
  let cands := s.candidates q c.grade c.band
  let (s1, bay) := firstGranted n s cands
  match bay with
  | some k =>
    let dest := { bay := k, bundle := ((s1.bay k).bundle.map (·.serial)).getD 0 }
    writeDecision (commitStrip s1 k n tag c.band) tag
      { disposition := .sort, cause := none, choice := some c, dest := some dest }
  | none =>
    let cause := if cands = [] then Cause.noBay else Cause.air
    writeDecision s1 tag { disposition := .overflow, cause := some cause, choice := some c, dest := none }

/-- The two plunge entries of a cut (R90). -/
def cutEntries (n : Serial) (c : Choice) : List (HeadId × PlanEntry) :=
  [(.headSide, { serial := n, step := c.headStep, plunge := true }),
   (.tailSide, { serial := n, step := c.tailStep, plunge := true })]

/-- The chosen option is carried out (R89 to R92); with it the entries for the heads. -/
def carryOut (s : State) (n : Serial) (tag : Nat) (q : Grading) (c : Choice) : State × List (HeadId × PlanEntry) :=
  let (s1, granted) := s.reserve (n + BitVec.ofNat 32 s.geometry.e) 2
  if granted then (routeStrip s1 n tag q c, cutEntries n c)
  else (writeDecision s1 tag { disposition := .uncut, cause := some .air, choice := some c, dest := none }, [])

/-- The computation for a strip that passed the pre-checks (R77, R88). -/
def computeStrip (s : State) (n : Serial) (r : Strip) : State × List (HeadId × PlanEntry) :=
  let q := r.grading
  match s.ranking q n with
  | none => (writeDecision s r.tag (plainDecision .reject .short), [])
  | some o =>
    match o.grade with
    | none => (writeDecision s r.tag (plainDecision .reject .noGrade), [])
    | some g =>
      carryOut s n r.tag q
        { grade := g, headStep := o.option.headStep, tailStep := o.option.tailStep, lf := o.lf, band := bandOf o.lf
          value := o.value }

/-- Both heads are READY (R76). -/
def State.headsReady (s : State) : Bool := s.headSide.state = .ready && s.tailSide.state = .ready

/-- The pre-checks: the decision of the first that decides the strip (R75). -/
def State.preCheck (s : State) (r : Strip) : Option Decision :=
  if r.size ≠ .normal then some (plainDecision .faulted .size)
  else if r.override = some .reject then some (plainDecision .reject .forced)
  else if forcedGrade r.override = none ∧ r.report = none then some (plainDecision .ungraded .noReport)
  else if forcedGrade r.override = none ∧ s.limits.moisture < (r.report.map (·.moisture)).getD 0 then
    some (plainDecision .reject .wet)
  else if s.headsReady then none
  else some (plainDecision .uncut .headNotReady)

/-- The decision of the strip on a STRIP slot (R75). -/
def decideStrip (s : State) (n : Serial) (r : Strip) : State × List (HeadId × PlanEntry) :=
  match s.preCheck r with
  | some d => (writeDecision s r.tag d, [])
  | none => computeStrip s n r

/-- What the decision unit does for the lug at D, by its slot (R73). -/
def decideSlot (s : State) (n : Serial) : State × List (HeadId × PlanEntry) :=
  match (s.slot n).kind with
  | .strip =>
    match ((s.slot n).named.head?).bind s.strip? with
    | some r => decideStrip s n r
    | none => (s, [])
  | .doubled => ((s.slot n).named.foldl (fun s tag => writeDecision s tag (plainDecision .faulted .doubled)) s, [])
  | .empty => (s, [])
  | .unknown => (s, [])

/-! ## Parks (R80) -/

/-- The park test of a head when no plunge was appended for serial n (R80). -/
def Head.parks (r : Head) (lpark : Nat) (n : Serial) : Bool :=
  match r.state, r.reference with
  | .ready, some ref => lpark ≤ (n - ref.serial).toNat
  | _, _ => false

/-- A head's park entry, when the test is met. -/
def State.parkEntry (s : State) (n : Serial) (h : HeadId) : List (HeadId × PlanEntry) :=
  if (s.head h).parks s.limits.lpark n then [(h, { serial := n, step := 0, plunge := false })] else []

/-- The decision unit takes the lug at D: the records, the calendar and the bays are written, and the entries for the
heads are handed over (R73, R80). -/
def decisionTick (s : State) : State × List (HeadId × PlanEntry) :=
  let n := s.serialAt s.geometry.d
  let (s1, entries) := decideSlot s n
  if entries = [] then (s1, s1.parkEntry n .headSide ++ s1.parkEntry n .tailSide) else (s1, entries)

/-- The heads take the entries handed to them (R101). -/
def takeEntries (s : State) (entries : List (HeadId × PlanEntry)) : State :=
  entries.foldl (fun s e => appendEntry s e.1 e.2) s

end Sys2Proof.Machine
end

