-- ==== Sys2Proof/Machine/Moulder.lean ====
section
/-! DEFINITION. Moulder runs and spindle wear (2.4 to 2.6). -/

namespace Sys2Proof.Machine

open Sys2Proof

/-- The run number after n: it advances by one, from 255 to 1 (R28). -/
def nextRunNumber (n : Nat) : Nat := if n = 255 then 1 else n + 1

/-- The pending run becomes current, is removed, and the moulder becomes RUNNING (R28). -/
def installRun (s : State) (q : PendingRun) : State :=
  { s with moulder := { s.moulder with
      state := .running
      current := { number := nextRunNumber s.moulder.current.number, species := q.species, profile := q.profile }
      next := none } }

/-- The drain completes: CHANGEOVER when spindles are to be changed, otherwise the pending run becomes current (R30). -/
def drainComplete (s : State) : State :=
  match s.moulder.next with
  | some q => if q.change ≠ 0 then { s with moulder := { s.moulder with state := .changeover } } else installRun s q
  | none => s

/-- The drain is due: DRAINING with no old-run strip before moulder exit (R30). -/
def drainDue (s : State) : Bool := s.moulder.state = .draining && s.oldRunCount = 0

/-- The drain test (R30). -/
def drainTest (s : State) : State := if drainDue s then drainComplete s else s

/-- The spindles, with their bits in a change set (Table 11-4). -/
inductive SpindleId where
  | top | bottom | tongue | groove
  deriving DecidableEq, Repr

/-- A spindle record. -/
def Moulder.spindle (m : Moulder) : SpindleId → Spindle
  | .top => m.top
  | .bottom => m.bottom
  | .tongue => m.tongue
  | .groove => m.groove

/-- A spindle record is written. -/
def Moulder.setSpindle (m : Moulder) (i : SpindleId) (w : Spindle) : Moulder :=
  match i with
  | .top => { m with top := w }
  | .bottom => { m with bottom := w }
  | .tongue => { m with tongue := w }
  | .groove => { m with groove := w }

/-- The four spindles in the order of the spec. -/
def allSpindles : List SpindleId := [.top, .bottom, .tongue, .groove]

/-- The bit of a spindle in a change set. -/
def SpindleId.bit : SpindleId → Nat
  | .top => 0
  | .bottom => 1
  | .tongue => 2
  | .groove => 3

/-- A spindle's counter or thresholds have changed: its state is formed again, and SPINDLE_WORN and SPINDLE_SPENT are
raised under a clear mark (R32). A spindle that is WORN or SPENT with its worn mark clear has just become so. -/
def putSpindle (s : State) (i : SpindleId) (w : Spindle) : State :=
  let raiseWorn := w.isWorn && !w.worn
  let raiseSpent := w.isSpent && !w.spent
  let marked := { w with worn := w.worn || w.isWorn, spent := w.spent || w.isSpent }
  let s1 := { s with moulder := s.moulder.setSpindle i marked }
  let s2 := if raiseWorn then s1.raise .spindleWorn else s1
  if raiseSpent then s2.raise .spindleSpent else s2

/-- A strip's length is added to a spindle's wear counter, which stops at 4294967295 (R32). -/
def addWear (lm : Nat) (s : State) (i : SpindleId) : State :=
  let w := s.moulder.spindle i
  putSpindle s i { w with wear := min Config.wearLimit (w.wear + lm) }

/-- The wear stamp as the spindles stand (R34). -/
def Moulder.stamp (m : Moulder) : WearStamp :=
  { derate := (if m.top.isWorn then m.derateTop else 0) + (if m.bottom.isWorn then m.derateBottom else 0)
    cap := Grade.worse (if m.tongue.isWorn then m.capTongue else .g1) (if m.groove.isWorn then m.capGroove else .g1) }

/-- A strip's moulder exit: the stamp is formed and written, then Lm is added to the four wear counters (R25, R32). -/
def takeExit (r : Strip) (s : State) : State :=
  let stamp := s.moulder.stamp
  let s1 := s.updStrip r.tag fun r => { r with stamp := some stamp }
  allSpindles.foldl (addWear (r.lm.getD 0)) s1

/-- TOOLING READY on one spindle of the change set: counter 0, NORMAL, both marks clear (R31). -/
def retool (change : BitVec 4) (m : Moulder) (i : SpindleId) : Moulder :=
  if change.getLsbD i.bit then
    m.setSpindle i { m.spindle i with wear := 0, worn := false, spent := false }
  else m

end Sys2Proof.Machine
end

