-- ==== Sys2Proof/Machine/Lineal.lean ====
section
/-! DEFINITION. The lineal tracker: the position counter, passages, the lineal position events (2.1 to 2.3, 2.7). -/

namespace Sys2Proof.Machine

open Sys2Proof

/-! ## Losses (R9, R27) -/

/-- A strip retires LOST under a counter: STRIP_LOST is raised and the drain test follows (R9, R30). -/
def loseStrip (s : State) (tag : Nat) (c : Counter) : State := drainTest ((s.retire tag c).raise .stripLost)

/-- The lost-at-transfer timeout: each strip that is watched and overdue is lost in queue order (R27). -/
def loseOverdueLoop : Nat → State → State
  | 0, s => s
  | fuel + 1, s =>
    match s.overdue? with
    | some r => loseOverdueLoop fuel (loseStrip s r.tag .lostTransfer)
    | none => s

/-- The timeout is applied; every loss shortens the queue, so its length bounds the losses. -/
def loseOverdue (s : State) : State := loseOverdueLoop s.lineal.queue.length s

/-- The tag of the watched strip. -/
def State.watchedTag? (s : State) : Option Nat := s.watched?.map (·.tag)

/-- An event that is no count has ended: when it has made another strip than `old` the watched one, that strip is lost
where P has already passed its deadline, and so are those behind it. A strip that was watched before the event is lost at
a count alone (R27, R198, log entry 16). -/
def loseNewlyWatched (old : Option Nat) (s : State) : State := if s.watchedTag? = old then s else loseOverdue s

/-! ## The head edge (R1, R5, R6, R21) -/

/-- The tag counter after n: it advances by one, from 65535 to 1 (R5). -/
def nextTag (n : Nat) : Nat := if n = Config.tagLimit then 1 else n + 1

/-- A live record carries the tag. -/
def State.tagTaken (s : State) (n : Nat) : Bool := s.strips.any fun r => r.tag = n

/-- The tag the next record takes (R5). -/
def State.freeTag (s : State) : Nat := firstFree s.tagTaken nextTag s.strips.length s.lineal.tagCounter

/-- A record as the head edge creates it (R1). -/
def newStrip (tag : Nat) (h : Position) (run : Run) : Strip :=
  { tag := tag, state := .entering, head := h, lm := none, size := .normal, run := run, stamp := none, serial := none
    doubled := false, report := none, decision := none, override := none, lateReport := false, dropPending := false }

/-- The passage a head edge opens (R21). -/
def newPassage (tag : Option Nat) (h : Position) : Passage := { phase := .blocked, tag := tag, h := h, u := none, long := false }

/-- The tracker's passage record is written. -/
def State.setPassage (s : State) (p : Option Passage) : State := { s with lineal := { s.lineal with passage := p } }

/-- A head edge (R6, R21). -/
def headEdge (s : State) : State :=
  let h := s.lineal.p
  if s.strips.length < Config.stripCapacity then
    let tag := s.freeTag
    { s with
      strips := s.strips ++ [newStrip tag h s.moulder.current]
      lineal := { s.lineal with
        passage := some (newPassage (some tag) h), queue := s.lineal.queue ++ [tag], tagCounter := nextTag tag } }
  else
    ((s.setPassage (some (newPassage none h))).bump .untracked).raise .tableFull

/-! ## Passages (R22 to R24) -/

/-- The test of R24 holds: BLOCKED, without the mark, 2801 counts or more past h. -/
def Passage.turnsLong (a : Passage) (p : Position) : Bool :=
  a.phase = .blocked && !a.long && Config.longCounts ≤ (p - a.h).toNat

/-- The long mark is set when the test of R24 holds; a tracked record becomes LONG with it. -/
def longTest (s : State) : State :=
  match s.lineal.passage with
  | none => s
  | some a =>
    if a.turnsLong s.lineal.p then
      let s1 := s.setPassage (some { a with long := true })
      match a.tag with
      | some tag => s1.updStrip tag fun r => { r with size := .long }
      | none => s1
    else s

/-- A block of the infeed eye: a head edge when IDLE, a flicker when CLEARING (R21, R22, R24). -/
def eyeBlock (s : State) : State :=
  match s.lineal.passage with
  | none => headEdge s
  | some a =>
    match a.phase with
    | .clearing => longTest (s.setPassage (some { a with phase := .blocked }))
    | .blocked => s

/-- An unblock of the infeed eye in phase BLOCKED (R22). -/
def eyeUnblock (s : State) : State :=
  match s.lineal.passage with
  | some a =>
    match a.phase with
    | .blocked => s.setPassage (some { a with phase := .clearing, u := some s.lineal.p })
    | .clearing => s
  | none => s

/-- The measured length of a passage that ends (R23). -/
def Passage.measured (a : Passage) : Nat :=
  if a.long then Config.longLength else max 1 (((a.u.getD a.h - a.h).toNat + 1) / 2)

/-- The record of a strip whose tail is confirmed (R23). -/
def Strip.confirmed (r : Strip) (a : Passage) : Strip :=
  { r with
    state := .lineal
    lm := some a.measured
    size := if a.long then r.size else if a.measured < Config.shortLength then .short else r.size }

/-- The passage ends when P is at p: CLEARING and p = u + 20 (R22). -/
def Passage.endsAt (a : Passage) (p : Position) : Bool :=
  a.phase = .clearing && a.u.map (· + BitVec.ofNat 32 Config.tailCounts) = some p

/-- A tail confirmation closes the passage record and, for a tracked passage, makes the record LINEAL (R23). -/
def confirmTail (s : State) (a : Passage) : State :=
  let s1 := s.setPassage none
  match a.tag with
  | some tag => s1.updStrip tag fun r => r.confirmed a
  | none => s1

/-! ## The lineal position events (R25, R30) -/

/-- A moulder exit is due: LINEAL, without a stamp, P at h + Dm, or past it when this count confirms the tail (R25). -/
def State.exitDue (s : State) (confirmed : Option Nat) (r : Strip) : Bool :=
  r.state = .lineal && r.stamp = none &&
    (s.lineal.p = s.exitTarget r || (confirmed = some r.tag && reached s.lineal.p (s.exitTarget r)))

/-- The moulder exits of a count, in either order when there are two (R25, log entry 14). -/
def takeExits (confirmed : Option Nat) (s : State) : State :=
  inFreeOrder (s.strips.filter (s.exitDue confirmed)) takeExit s

/-- P is at the moulder clear position of an old-run strip (R30). -/
def State.clearDue (s : State) : Bool :=
  s.strips.any fun r =>
    r.state = .lineal && r.run.number = s.moulder.current.number && s.lineal.p = s.clearTarget r

/-- The tail confirmation at this count with the strip's drain test (R23, R30), and the tag it confirmed. -/
def takeTail (s : State) : State × Option Nat :=
  match s.lineal.passage with
  | some a => if a.endsAt s.lineal.p then (drainTest (confirmTail s a), a.tag) else (s, none)
  | none => (s, none)

/-- The tail confirmation with all that follows it: a late moulder exit (R25), the deadline of a strip that it has made
the watched one (R27). -/
def tailEvent (s : State) : State :=
  let (s1, tag) := takeTail s
  loseNewlyWatched s.watchedTag? (takeExits tag s1)

/-- The position events at the count that has brought P to its value (R20). -/
def positionEvents (s : State) : State :=
  let (s1, tag) := takeTail (longTest s)
  let s2 := takeExits tag s1
  loseOverdue (if s2.clearDue then drainTest s2 else s2)

/-- P advances by one (R20). -/
def advanceP (s : State) : State := { s with lineal := { s.lineal with p := s.lineal.p + 1 } }

/-- An encoder count: P advances and the position events at the new value are taken (R20, log entry 3). -/
def encoderCount (s : State) : State := positionEvents (advanceP s)

/-- A row that names a position event: the event is taken when it is due at P; when it is due at the next count the row
is that count; otherwise it does nothing (log entry 3). -/
def positionRow (due : State → Bool) (event : State → State) (s : State) : State :=
  if due s then event s else if due (advanceP s) then encoderCount s else s

/-- The tail confirmation is due at P (R22). -/
def State.tailDue (s : State) : Bool :=
  match s.lineal.passage with
  | some a => a.endsAt s.lineal.p
  | none => false

/-- The passage turns LONG at P (R24). -/
def State.longDue (s : State) : Bool :=
  match s.lineal.passage with
  | some a => a.turnsLong s.lineal.p
  | none => false

/-- A moulder exit is due at P (R25). -/
def State.exitsDue (s : State) : Bool := s.strips.any (s.exitDue none)

/-! ## The rows -/

/-- ENCODER_COUNT (R20). -/
def execEncoderCount (s : State) : Host.Outcome State Fault Refusal := takeEvent encoderCount s

/-- INFEED_EYE_BLOCK (R21, R22, R24). -/
def execInfeedEyeBlock (s : State) : Host.Outcome State Fault Refusal := takeEvent eyeBlock s

/-- INFEED_EYE_UNBLOCK (R22). -/
def execInfeedEyeUnblock (s : State) : Host.Outcome State Fault Refusal := takeEvent eyeUnblock s

/-- TAIL_CONFIRMED (R23). -/
def execTailConfirmed (s : State) : Host.Outcome State Fault Refusal :=
  takeEvent (positionRow State.tailDue tailEvent) s

/-- PASSAGE_LONG (R24). -/
def execPassageLong (s : State) : Host.Outcome State Fault Refusal :=
  takeEvent (positionRow State.longDue longTest) s

/-- MOULDER_EXIT (R25). -/
def execMoulderExit (s : State) : Host.Outcome State Fault Refusal :=
  takeEvent (positionRow State.exitsDue (takeExits none)) s

/-- MOULDER_CLEAR (R30). -/
def execMoulderClear (s : State) : Host.Outcome State Fault Refusal :=
  takeEvent (positionRow State.clearDue drainTest) s

/-- DRAIN_COMPLETION (R30). -/
def execDrainCompletion (s : State) : Host.Outcome State Fault Refusal := takeEvent drainTest s

/-- The row LOST_AT_TRANSFER is the next count where the watched strip is past its deadline at it: a count alone brings P
to a deadline, so the row takes nothing at P (R27, log entry 3). -/
def lostAtTransfer (s : State) : State := if (advanceP s).overdue?.isSome then encoderCount s else s

/-- LOST_AT_TRANSFER (R27). -/
def execLostAtTransfer (s : State) : Host.Outcome State Fault Refusal := takeEvent lostAtTransfer s

/-- HOLD INFEED and RELEASE INFEED set and clear the infeed hold (R37). -/
def setInfeedHold (hold : Bool) (s : State) : State := { s with lineal := { s.lineal with infeedHold := hold } }

end Sys2Proof.Machine
end

