-- ==== Sys2Proof/Machine/Chain.lean ====
section
/-! DEFINITION. The chain tracker: transfer clears, loading, the verify eye, the chain end, and the whole lug tick
(chapter 4). -/

namespace Sys2Proof.Machine

open Sys2Proof

/-- The chain tracker's record is changed. -/
def State.updChain (s : State) (f : Chain → Chain) : State := { s with chain := f s.chain }

/-! ## The transfer eye (4.3, 4.4) -/

/-- An unblock at P is a flicker of the last clear's tail (R59). -/
def State.isFlicker (s : State) : Bool :=
  match s.chain.lastClear with
  | some p0 => (s.lineal.p - p0).toNat < Config.tailCounts
  | none => false

/-- A clear at P matches a strip (R60). -/
def State.clearMatches (s : State) (r : Strip) : Bool := distance s.lineal.p (s.transferTarget r) ≤ s.limits.tt

/-- The strip a clear at P matches: the watched strip, inside its window (R60). -/
def State.matchedStrip? (s : State) : Option Strip :=
  match s.watched? with
  | some r => if s.clearMatches r then some r else none
  | none => none

/-- An entry joins the pending load list (R61). -/
def joinLoad (e : LoadEntry) (s : State) : State := s.updChain fun c => { c with load := c.load ++ [e] }

/-- A clear that finds two entries (R62). -/
def overload (s : State) : State :=
  let s1 := s.bump .transferOverload
  match s.matchedStrip? with
  | some r => loseStrip s1 r.tag .lostOverload
  | none => s1

/-- A clear that finds room in the list (R60). -/
def matchClear (s : State) : State :=
  match s.matchedStrip? with
  | some r => joinLoad (.strip r.tag) s
  | none => (joinLoad .unknown s).bump .transferUnknown

/-- An unblock of the transfer eye (R59, R60, R62). A strip that becomes watched past its deadline is lost (R27); a clear
that matches nothing leaves the watched strip watched. -/
def transferUnblock (s : State) : State :=
  if s.isFlicker then s
  else
    let s1 := s.updChain fun c => { c with lastClear := some s.lineal.p }
    loseNewlyWatched s.watchedTag? (if s1.chain.load.length < Config.loadCapacity then matchClear s1 else overload s1)

/-- A block of the verify eye sets the latch (R65). -/
def verifyBlock (s : State) : State := s.updChain fun c => { c with latch := true }

/-! ## Loading (R63, R64) -/

/-- The tags a load list names, in clear order. -/
def loadTags (l : List LoadEntry) : List Nat :=
  l.filterMap fun e => match e with
    | .strip tag => some tag
    | .unknown => none

/-- The slot a load list gives (Table 4-4). -/
def loadSlot (l : List LoadEntry) : LugSlot :=
  let tags := loadTags l
  { named := tags
    kind := match l, tags with
      | [], _ => .empty
      | _, [] => .unknown
      | [_], _ => .strip
      | _, _ => .doubled }

/-- A named strip is loaded: LOADED on serial n (R63). -/
def loadStrip (n : Serial) (doubled : Bool) (s : State) (tag : Nat) : State :=
  let s1 := s.updStrip tag fun r => { r with state := .loaded, serial := some n, doubled := doubled }
  { s1 with lineal := { s1.lineal with queue := s1.lineal.queue.filter (· ≠ tag) } }

/-- The pending load list is loaded onto the lug at offset 0 (R63, R64). -/
def loadLug (s : State) : State :=
  let n := s.chain.serial
  let l := loadSlot s.chain.load
  let s1 := (s.setSlot n l).updChain fun c => { c with load := [] }
  let s2 := l.named.foldl (loadStrip n (l.kind = .doubled)) s1
  match l.kind with
  | .doubled => s2.bump .doubledLugs
  | .unknown => (s2.raise .unknownStrip).bump .loadUnknown
  | _ => s2

/-! ## The verify eye (R65, R66) -/

/-- The slot of a lug is written EMPTY or UNKNOWN with its names kept. -/
def State.setKind (s : State) (n : Serial) (k : SlotKind) : State := s.setSlot n { s.slot n with kind := k }

/-- The verify outcome for the lug at V, given whether wood was seen (Table 4-5). -/
def verifyOutcome (s : State) (n : Serial) (wood : Bool) : State :=
  match (s.slot n).kind, wood with
  | .strip, false => ((s.slot n).named.foldl (fun s tag => loseStrip s tag .lostVerify) s).setKind n .empty
  | .doubled, false => ((s.slot n).named.foldl (fun s tag => loseStrip s tag .lostVerify) s).setKind n .empty
  | .empty, true => ((s.setKind n .unknown).bump .verifyUnknown).raise .unknownStrip
  | .unknown, false => s.setKind n .empty
  | _, _ => s

/-- The verify check of a lug tick; the latch is read and cleared (R65, R66). -/
def verifyTick (s : State) : State :=
  let wood := s.chain.latch
  verifyOutcome (s.updChain fun c => { c with latch := false }) (s.serialAt s.geometry.v) wood

/-! ## The chain end (R67, R68) -/

/-- The end counter of a disposition (Table 1-7). A SORT strip drops before the chain end (1.6), so it has none; it is
given the OVERFLOW counter (log entry 22). -/
def endCounter : Disposition → Counter
  | .overflow => .endOverflow
  | .reject => .endReject
  | .ungraded => .endUngraded
  | .uncut => .endUncut
  | .faulted => .endFaulted
  | .sort => .endOverflow

/-- A strip at the chain end retires, unless its drop is pending (R67, R68). -/
def endStrip (s : State) (tag : Nat) : State :=
  match s.strip? tag with
  | some r => if r.dropPending then s else s.retire tag (((r.decision.map (·.disposition)).map endCounter).getD .endUncut)
  | none => s

/-- The lug at X leaves the map (R67). -/
def chainEnd (s : State) : State :=
  let n := s.serialAt s.geometry.x
  let s1 := (s.slot n).named.foldl endStrip s
  let s2 := if (s.slot n).kind = .unknown then s1.bump .endUnknown else s1
  s2.setSlot n .clear

/-! ## The lug tick (R55) -/

/-- The lug serial advances (R55). -/
def advanceSerial (s : State) : State := s.updChain fun c => { c with serial := c.serial + 1 }

/-- The decision unit and the end-match station take the tick in the given order; the heads take the entries handed to
them after the lug at E (R101, R111). -/
def decideAndMatch (decisionFirst : Bool) (s : State) : State :=
  if decisionFirst then
    let (s1, entries) := decisionTick s
    takeEntries (endMatchTick s1) entries
  else
    let (s1, entries) := decisionTick (endMatchTick s)
    takeEntries s1 entries

/-- The decision unit and the end-match station take the tick. When the lug at E is late its freed starts and commitment
are seen by the decision or not, as the order is, and the order is free; otherwise neither sees the other's work and the
order cannot be told (R55, log entry 13). -/
def stationsTick (s : State) : State :=
  if s.lateAt (s.serialAt s.geometry.e) then
    decideAndMatch (Config.decisionFirst s.freeCount) { s with freeCount := s.freeCount + 1 }
  else decideAndMatch false s

/-- The reference of a head whose homing came together with the tick: step 0 at the serial of the lug now at D (R76, R79,
R110). -/
def referenceAtTick (s : State) (h : HeadId) : State :=
  s.updHead h fun r =>
    if r.state = .ready then { r with reference := some { step := 0, serial := s.serialAt s.geometry.d } } else r

/-- The homings completed right before the tick: the first of them came before it, and the rest together with it, taken
first with the lug serial already advanced; how many is free (R76, log entry 35). -/
def homingsAtTick (homed : List HeadId) (s : State) : State :=
  match homed with
  | [] => s
  | _ :: _ =>
    (homed.drop (Config.homedBefore s.freeCount)).foldl referenceAtTick { s with freeCount := s.freeCount + 1 }

/-- A lug tick (R55), given the heads whose homings the commands right before it have completed. -/
def lugTick (homed : List HeadId) (s : State) : State :=
  chainEnd (allBays.foldl bayTick (stationsTick (verifyTick (loadLug
    (homingsAtTick homed (advanceSerial s).calendarAdvance)))))

/-- The confirm window of a bay closes without a confirm (R130, log entry 6). -/
def dropUnverified (k : BayId) (s : State) : State := resolveDrop s k false

/-! ## The rows -/

/-- TRANSFER_CLEAR (R60). -/
def execTransferClear (s : State) : Host.Outcome State Fault Refusal := takeEvent transferUnblock s

/-- VERIFY_EYE_BLOCK (R65). -/
def execVerifyEyeBlock (s : State) : Host.Outcome State Fault Refusal := takeEvent verifyBlock s

/-- LUG_TICK (R55). -/
def execLugTick (s : State) : Host.Outcome State Fault Refusal := takeEvent (lugTick s.homed) s

/-- DROP_UNVERIFIED (R130). -/
def execDropUnverified (k : BayId) (s : State) : Host.Outcome State Fault Refusal := takeEvent (dropUnverified k) s

end Sys2Proof.Machine
end

