-- ==== Sys2Proof/Machine/Link.lean ====
section
/-! DEFINITION. The line link unit: reception, the taking of a request, the watchdog (10.1, 10.2, 10.8). Frames are
taken whole (log entry 9). -/

namespace Sys2Proof.Machine

open Sys2Proof

/-- The line link unit's record is changed. -/
def State.updLink (s : State) (f : Link → Link) : State := { s with link := f s.link }

/-! ## Reception (R192) -/

/-- The deadline of a frame, from its start byte: 5 ms, and with the length field complete the time of the whole frame
besides (R192). -/
def frameDeadline (length : Option (Fin 601)) : Nat :=
  Config.linkFrameTime + match length with
    | some n => Config.linkByteTime * (Config.linkFrameBytes + n.val)
    | none => 0

/-- A start byte in HUNT begins a frame, under the deadline to which its length field moves it (log entry 9); in RECEIVING
it is data and in ANSWERING it is ignored (R192, R193). -/
def linkBegin (length : Option (Fin 601)) (s : State) : State :=
  if s.link.receiver = .hunt then
    s.updLink fun l => { l with receiver := .receiving, frameTimer := some (frameDeadline length) }
  else s

/-- A frame is discarded: LINK_DISCARDED, no response, HUNT (R192). In ANSWERING no frame is received (R193). -/
def linkDiscard (s : State) : State :=
  if s.link.receiver = .answering then s
  else (s.updLink fun l => { l with receiver := .hunt, frameTimer := none }).bump .linkDiscarded

/-- The deadline comes before the frame is complete (R192). -/
def linkDeadline (s : State) : State := if s.link.receiver = .receiving then linkDiscard s else s

/-- The last byte of the response is sent (R193). -/
def responseComplete (s : State) : State :=
  if s.link.receiver = .answering then s.updLink fun l => { l with receiver := .hunt, response := none } else s

/-! ## The watchdog (R203) -/

/-- The watchdog timer as it starts: the time in force, stopped when that is 0. -/
def Limits.watchdogStart (l : Limits) : Option Nat := if l.watchdog = 0 then none else some l.watchdog

/-- The watchdog restarts with the time in force (R203). -/
def restartWatchdog (s : State) : State := s.updLink fun l => { l with watchdog := s.limits.watchdogStart }

/-- A valid request is heard: the watchdog restarts and LINK_HOLD is cleared (R193 step 1, R203). -/
def heard (s : State) : State :=
  let s1 := (restartWatchdog s).updLink fun l => { l with hold := false }
  if s.link.hold then pauseChanged s1 else s1

/-- The watchdog expires: the timer stops, and with LINK_HOLD clear it is set, noticed and counted (R203). -/
def watchdogExpire (s : State) : State :=
  match s.link.watchdog with
  | none => s
  | some _ =>
    let s1 := s.updLink fun l => { l with watchdog := none }
    if s.link.hold then s1
    else pauseChanged (((s1.updLink fun l => { l with hold := true }).raise .linkHold).bump .linkHolds)

/-! ## Requests and responses (R193, R194) -/

/-- What a request gives: the status of its refusal, or the state after it and the payload of the OK response. -/
abbrev Reply := Except Status (State × List Byte)

/-- A request that is taken with an empty payload (R208). -/
def taken (s : State) : Reply := .ok (s, [])

/-- The counter of a status (R194). -/
def statusCounter : Status → Counter
  | .ok => .linkAnsweredOk
  | _ => .linkRefused

/-- The response is built and counted, and the receiver goes to ANSWERING (R193, R194). -/
def answer (code : Byte) (status : Status) (payload : List Byte) (s : State) : State :=
  (s.updLink fun l =>
    { l with receiver := .answering, frameTimer := none
             response := some { code := code, status := status, payload := payload } }).bump (statusCounter status)

/-- A reply is answered: a refusal changes nothing and has no payload (R194). -/
def respond (code : Byte) (s : State) : Reply → State
  | .ok (s1, payload) => answer code .ok payload s1
  | .error status => answer code status [] s

/-- A request frame whose check value agrees (R192, R193): ignored in ANSWERING, discarded above 600 payload bytes,
otherwise heard, tested for the length of its code, and handed to its owning block. -/
def request (code : Byte) (lengthOk : Nat → Bool) (handler : List Byte → State → Reply) (p : List Byte) (s : State) :
    State :=
  if s.link.receiver = .answering then s
  else if Config.payloadLimit < p.length then linkDiscard s
  else
    let s1 := heard s
    respond code s1 (if lengthOk p.length then handler p s1 else .error .badArgument)

/-- The codes that name a request (Table 11-3). -/
def isRequestCode (c : Byte) : Bool :=
  let n := c.toNat
  (1 ≤ n && n ≤ 8) || (0x10 ≤ n && n ≤ 0x13) || (0x20 ≤ n && n ≤ 0x24) || (0x30 ≤ n && n ≤ 0x32)
    || n == 0x38 || n == 0x39 || (0x40 ≤ n && n ≤ 0x46) || (0x50 ≤ n && n ≤ 0x55) || (0x60 ≤ n && n ≤ 0x62)
    || (0x70 ≤ n && n ≤ 0x74)

/-- A valid request whose code names no request (R193 step 2). A code that names a request is not this event (log entry
29). -/
def unknownRequest (code : Byte) (s : State) : State :=
  if isRequestCode code then s else request code (fun _ => true) (fun _ _ => .error .unknownRequest) [] s

/-! ## The rows -/

/-- LINK_FRAME_BEGIN of a frame with this length field, if it comes to complete it (R192). -/
def execLinkFrameBegin (s : State) (length : Option (Fin 601) := none) : Host.Outcome State Fault Refusal :=
  takeEvent (linkBegin length) s

/-- LINK_FRAME_DISCARDED (R192). -/
def execLinkFrameDiscarded (s : State) : Host.Outcome State Fault Refusal := takeEvent linkDiscard s

/-- LINK_FRAME_DEADLINE (R192). -/
def execLinkFrameDeadline (s : State) : Host.Outcome State Fault Refusal := takeEvent linkDeadline s

/-- UNKNOWN_REQUEST (R193). -/
def execUnknownRequest (code : Byte) (s : State) : Host.Outcome State Fault Refusal := takeEvent (unknownRequest code) s

/-- RESPONSE_COMPLETE (R193). -/
def execResponseComplete (s : State) : Host.Outcome State Fault Refusal := takeEvent responseComplete s

/-- LINK_WATCHDOG_EXPIRY (R203). -/
def execLinkWatchdogExpiry (s : State) : Host.Outcome State Fault Refusal := takeEvent watchdogExpire s

end Sys2Proof.Machine
end

