-- ==== Sys2Proof/Machine/Responses.lean ====
section
/-! DEFINITION. The response payloads as bytes (11.3, R208). Absent parts are sent as 0. -/

namespace Sys2Proof.Machine

open Sys2Proof

/-! ## Codings -/

/-- One byte. -/
def byte (n : Nat) : List Byte := toBytes 1 n

/-- A flag as a number. -/
def bit (b : Bool) : Nat := if b then 1 else 0

/-- Flags as the bits of a number, bit 0 first. -/
def bits : List Bool → Nat
  | [] => 0
  | b :: rest => bit b + 2 * bits rest

/-- Bytes filled up with 0 to a length. -/
def padTo (n : Nat) (l : List Byte) : List Byte := l ++ List.replicate (n - l.length) 0#8

/-- Table 11-2. -/
def Status.code : Status → Nat
  | .ok => 0
  | .unknownRequest => 1
  | .badArgument => 2
  | .notFound => 3
  | .wrongState => 4
  | .tableFull => 5
  | .notConfigured => 6
  | .notFetched => 7

/-- State codes of a strip, as the LIST STRIPS selector (Table 11-4). -/
def StripState.code : StripState → Nat
  | .entering => 1
  | .lineal => 2
  | .loaded => 3
  | .decided => 4
  | .trimmed => 5

/-- Table 11-6. -/
def SizeFlag.code : SizeFlag → Nat
  | .normal => 0
  | .short => 1
  | .long => 2

/-- Table 11-6. -/
def Disposition.code : Disposition → Nat
  | .sort => 1
  | .overflow => 2
  | .reject => 3
  | .ungraded => 4
  | .uncut => 5
  | .faulted => 6

/-- The cause codes of 11.3. -/
def Cause.code : Cause → Nat
  | .noBay => 1
  | .air => 2
  | .bayFault => 3
  | .bayAbort => 4
  | .forced => 5
  | .wet => 6
  | .short => 7
  | .noGrade => 8
  | .noReport => 9
  | .headNotReady => 10
  | .latePosition => 11
  | .headFault => 12
  | .doubled => 13
  | .size => 14

/-- Table 11-4. -/
def Face.code : Face → Nat
  | .top => 0
  | .edge => 1

/-! ## GET STRIP (Table 11-6) -/

/-- A defect entry, laid out as a report entry. -/
def defectBytes (d : Defect) : List Byte :=
  byte (classIdx d.cls).val ++ byte d.face.code ++ toBytes 2 d.x ++ toBytes 2 d.extent ++ byte d.size

/-- The override's kind and forced grade. -/
def overrideBytes : Option Override → List Byte
  | none => byte 0 ++ byte 0
  | some (.grade g) => byte 1 ++ byte g.num
  | some .reject => byte 2 ++ byte 0

/-- The disposition and the cause. -/
def dispositionBytes : Option Decision → List Byte
  | none => byte 0 ++ byte 0
  | some d => byte d.disposition.code ++ byte ((d.cause.map Cause.code).getD 0)

/-- The chosen option. -/
def choiceBytes : Option Choice → List Byte
  | none => toBytes 10 0
  | some c => byte c.grade.num ++ byte c.headStep ++ byte c.tailStep ++ toBytes 2 c.lf ++ byte c.band ++ toBytes 4 c.value

/-- The destination. -/
def destBytes : Option Destination → List Byte
  | none => toBytes 5 0
  | some d => byte (bayNum d.bay) ++ toBytes 4 d.bundle

/-- The report part. -/
def reportBytes : Option ReportPart → List Byte
  | none => toBytes 5 0
  | some q =>
    toBytes 2 q.moisture ++ byte (bit q.overflow) ++ byte q.discarded ++ byte q.defects.length
      ++ q.defects.flatMap defectBytes

/-- The wear stamp. -/
def stampBytes : Option WearStamp → List Byte
  | none => toBytes 2 0
  | some w => byte w.derate ++ byte w.cap.num

/-- The presence bits of a record. -/
def Strip.presence (r : Strip) : Nat :=
  let choice := r.decision.bind (·.choice)
  let dest := r.decision.bind (·.dest)
  bits [r.lm.isSome, r.stamp.isSome, r.serial.isSome, r.report.isSome, r.decision.isSome, choice.isSome, dest.isSome,
    r.override.isSome]

/-- GET STRIP. -/
def stripPayload (r : Strip) : List Byte :=
  toBytes 2 r.tag ++ byte r.state.code ++ byte r.presence ++ byte (bits [r.doubled, r.lateReport, r.dropPending])
    ++ byte r.size.code ++ toBytes 4 r.head.toNat ++ toBytes 2 (r.lm.getD 0)
    ++ byte r.run.number ++ byte r.run.species ++ byte r.run.profile ++ stampBytes r.stamp
    ++ toBytes 4 ((r.serial.map (·.toNat)).getD 0) ++ overrideBytes r.override ++ dispositionBytes r.decision
    ++ choiceBytes (r.decision.bind (·.choice)) ++ destBytes (r.decision.bind (·.dest)) ++ reportBytes r.report

/-! ## LIST STRIPS (Table 11-9) -/

/-- The tags in order of place on the line, furthest from the infeed first (R12). -/
def State.lineOrder (s : State) : List Nat :=
  ((List.range s.geometry.x).reverse.flatMap fun k => (s.slot (s.serialAt k)).named) ++ s.lineal.queue

/-- A record matches a selector: 0 lists all. -/
def Strip.selected (r : Strip) (selector : Nat) : Bool := selector = 0 || r.state.code = selector

/-- The records a selector lists, in order. -/
def State.listed (s : State) (selector : Nat) : List Strip :=
  (s.lineOrder.filterMap s.strip?).filter (·.selected selector)

/-- One entry. -/
def listEntry (r : Strip) : List Byte :=
  toBytes 2 r.tag ++ byte r.state.code ++ byte ((r.decision.map (·.disposition.code)).getD 0)

/-- LIST STRIPS. -/
def listPayload (s : State) (selector : Nat) : List Byte :=
  byte (s.listed selector).length ++ (s.listed selector).flatMap listEntry

/-! ## GET LUG (Table 11-10) -/

/-- Table 11-10. -/
def SlotKind.code : SlotKind → Nat
  | .empty => 0
  | .strip => 1
  | .doubled => 2
  | .unknown => 3

/-- A pending load list entry. -/
def loadBytes : LoadEntry → List Byte
  | .strip tag => byte 1 ++ toBytes 2 tag
  | .unknown => byte 2 ++ toBytes 2 0

/-- GET LUG. -/
def lugPayload (s : State) (k : Nat) : List Byte :=
  let l := s.slot (s.serialAt k)
  toBytes 4 s.chain.serial.toNat ++ toBytes 4 (s.serialAt k).toNat ++ byte l.kind.code
    ++ byte l.named.length ++ padTo 4 (l.named.flatMap (toBytes 2))
    ++ byte s.chain.load.length ++ padTo 6 (s.chain.load.flatMap loadBytes)

/-! ## GET MOULDER (Table 11-11) -/

/-- Table 11-11. -/
def MoulderState.code : MoulderState → Nat
  | .idle => 0
  | .running => 1
  | .draining => 2
  | .changeover => 3

/-- Table 11-11. -/
def SpindleState.code : SpindleState → Nat
  | .normal => 0
  | .worn => 1
  | .spent => 2

/-- A spindle record. -/
def spindleBytes (w : Spindle) : List Byte :=
  toBytes 4 w.wear ++ toBytes 4 w.warn ++ toBytes 4 w.limit ++ byte w.state.code ++ byte (bits [w.worn, w.spent])

/-- The pending run. -/
def pendingRunBytes : Option PendingRun → List Byte
  | none => toBytes 4 0
  | some q => byte 1 ++ byte q.species ++ byte q.profile ++ byte q.change.toNat

/-- GET MOULDER. -/
def moulderPayload (s : State) : List Byte :=
  let m := s.moulder
  byte m.state.code ++ byte m.current.number ++ byte m.current.species ++ byte m.current.profile
    ++ pendingRunBytes m.next ++ byte (if m.state = .draining then s.oldRunCount else 0)
    ++ spindleBytes m.top ++ spindleBytes m.bottom ++ spindleBytes m.tongue ++ spindleBytes m.groove
    ++ byte m.derateTop ++ byte m.derateBottom ++ byte m.capTongue.num ++ byte m.capGroove.num

/-! ## GET HEADS (Table 11-12) -/

/-- Table 11-12. -/
def HeadState.code : HeadState → Nat
  | .homing => 0
  | .ready => 1
  | .fault => 2

/-- A plan entry. -/
def planBytes (e : PlanEntry) : List Byte := toBytes 4 e.serial.toNat ++ byte e.step ++ byte (bit e.plunge)

/-- A head's reference. -/
def referenceBytes : Option Reference → List Byte
  | none => toBytes 5 0
  | some r => byte r.step ++ toBytes 4 r.serial.toNat

/-- A head's last executed entry. -/
def executedBytes : Option PlanEntry → List Byte
  | none => toBytes 6 0
  | some e => planBytes e

/-- A head record with the levels of its inputs. -/
def headBytes (s : State) (h : HeadId) : List Byte :=
  let r := s.head h
  byte r.state.code ++ byte r.commanded ++ byte (bit r.inPosition)
    ++ byte (bits [s.inputs.inPositionAt h, s.inputs.headFaultAt h]) ++ byte (bits [r.reference.isSome, r.executed.isSome])
    ++ referenceBytes r.reference ++ executedBytes r.executed ++ byte r.plan.length ++ r.plan.flatMap planBytes

/-- The calendar's 64 ticks in tick order. -/
def calendarBytes (s : State) : List Byte :=
  (List.range Config.calendarTicks).flatMap fun i =>
    let e := s.calEntry (s.serialAt Config.calendarPast + BitVec.ofNat 32 i)
    byte e.planned ++ byte e.made

/-- GET HEADS. -/
def headsPayload (s : State) : List Byte :=
  toBytes 4 s.chain.serial.toNat ++ headBytes s .headSide ++ headBytes s .tailSide ++ calendarBytes s

/-! ## GET BAY (Table 11-7) -/

/-- Table 11-7. -/
def BayState.code : BayState → Nat
  | .disabled => 0
  | .empty => 1
  | .filling => 2
  | .settling => 3
  | .waitStrap => 4
  | .strapping => 5
  | .labelWait => 6
  | .discharging => 7
  | .fault => 8

/-- Table 11-7. -/
def FaultOrigin.code : FaultOrigin → Nat
  | .filling => 1
  | .settling => 2
  | .strapTimeout => 3

/-- Table 11-7. -/
def StrapperState.code : StrapperState → Nat
  | .idle => 0
  | .busy => 1
  | .fault => 2

/-- A recipe copy, 18 bytes. -/
def recipeBytes (r : Recipe) : List Byte :=
  byte r.species ++ byte r.profile ++ byte r.width ++ byte r.grades.toNat ++ byte r.target
    ++ r.quotas.toList.flatMap byte ++ byte r.template.val

/-- The counts of a band. -/
def bandBytes (b : BandCounts) : List Byte := byte b.committed ++ byte b.deposited ++ byte b.unverified

/-- The bundle record with its presence byte, 76 bytes. -/
def bundleBytes : Option Bundle → List Byte
  | none => toBytes 76 0
  | some b =>
    byte 1 ++ toBytes 4 b.serial ++ toBytes 2 b.order ++ byte b.recipe.val ++ recipeBytes b.copy
      ++ toBytes 2 b.sequence ++ byte (bits [b.closing, b.short, b.uncertain])
      ++ byte b.committed ++ byte b.deposited ++ byte b.unverified ++ b.bands.toList.flatMap bandBytes
      ++ b.gradeCounts.toList.flatMap byte ++ toBytes 4 b.length

/-- The pending drop. -/
def dropBytes : Option PendingDrop → List Byte
  | none => toBytes 7 0
  | some d => byte (if d.attached then 1 else 2) ++ toBytes 4 d.serial.toNat ++ toBytes 2 d.tag

/-- The bays of a FIFO, front first, in 8 bytes. -/
def fifoBytes (l : List BayId) : List Byte := byte l.length ++ padTo 8 (l.flatMap fun k => byte (bayNum k))

/-- GET BAY. -/
def bayPayload (s : State) (k : BayId) : List Byte :=
  let b := s.bay k
  byte (bayNum k) ++ byte (s.bayOffset k) ++ toBytes 2 b.settleTime ++ byte b.state.code
    ++ byte ((b.origin.map FaultOrigin.code).getD 0)
    ++ byte (bits [s.inputs.bayFault[k], s.inputs.bayConfirm[k], s.inputs.discharge[k]])
    ++ bundleBytes b.bundle ++ dropBytes b.pendingDrop ++ toBytes 2 (b.settleTimer.getD 0)
    ++ byte s.strapper.state.code ++ byte ((s.strapper.current.map bayNum).getD 0) ++ toBytes 2 (s.strapper.timer.getD 0)
    ++ fifoBytes s.strapper.fifo ++ fifoBytes s.labelWait
    ++ byte b.planned.length ++ b.planned.flatMap fun d => toBytes 4 d.serial.toNat ++ toBytes 2 d.tag

/-! ## GET ORDER (Tables 11-13 and 11-14) -/

/-- Table 11-13. -/
def OrderState.code : OrderState → Nat
  | .loaded => 1
  | .active => 2
  | .emitted => 3
  | .complete => 4
  | .faulted => 5
  | .cancelled => 6

/-- Table 11-13. -/
def InterpreterState.code : InterpreterState → Nat
  | .idle => 0
  | .running => 1
  | .queueWait => 2
  | .held => 3
  | .paused => 4
  | .faulted => 5

/-- The order of Table 8-9, from 1. -/
def FaultCode.code : FaultCode → Nat
  | .callDepth => 1
  | .repeatDepth => 2
  | .returnEmpty => 3
  | .unmatchedEnd => 4
  | .badAddress => 5
  | .badRecipe => 6
  | .badCode => 7
  | .spin => 8

/-- GET ORDER for id 0. -/
def orderUnitPayload (s : State) : List Byte :=
  let u := s.orders
  byte u.table.length ++ u.table.flatMap (fun o => toBytes 2 o.id ++ byte o.state.code)
    ++ byte u.runList.length ++ u.runList.flatMap (toBytes 2)
    ++ byte u.interp.state.code ++ toBytes 2 (u.interp.order.getD 0)
    ++ byte u.queue.length ++ u.queue.flatMap (fun e => toBytes 2 e.order ++ byte e.recipe.val)
    ++ toBytes 4 (bits (u.recipes.toList.map Option.isSome))

/-- A repeat frame. -/
def frameBytes (f : RepeatFrame) : List Byte := toBytes 2 f.body ++ byte (f.left.getD 0)

/-- The interpreter record with its presence byte, 27 bytes. -/
def interpreterBytes (i : Interpreter) (id : Nat) : List Byte :=
  if i.order = some id then
    byte 1 ++ byte i.state.code ++ byte i.pc.val ++ byte i.calls.length ++ padTo 8 (i.calls.flatMap (toBytes 2))
      ++ byte i.repeats.length ++ padTo 12 (i.repeats.flatMap frameBytes) ++ byte i.remainder ++ byte i.spin
  else toBytes 27 0

/-- GET ORDER for a live order. -/
def orderPayload (s : State) (o : Order) : List Byte :=
  toBytes 2 o.id ++ byte o.start.val ++ byte o.state.code ++ byte ((o.faultCode.map FaultCode.code).getD 0)
    ++ toBytes 2 o.emitted ++ toBytes 2 o.opened ++ toBytes 2 o.withdrawn ++ toBytes 2 o.labelled ++ toBytes 2 o.aborted
    ++ toBytes 2 o.closedEmpty ++ byte (s.queuedCount o.id) ++ byte (bit o.settled)
    ++ interpreterBytes s.orders.interp o.id

/-! ## Labels (Tables 11-8 and 11-15) -/

/-- The three flags of a label. -/
def Label.flags (r : Label) : Nat := bits [r.truncated, r.uncertain, r.short]

/-- The state code of a label. -/
def Label.stateCode (r : Label) : Nat := bit r.fetched

/-- FETCH LABEL: the record as it stands when the request is taken. -/
def labelPayload (r : Label) : List Byte :=
  toBytes 4 r.bundle ++ toBytes 2 r.order ++ byte (bayNum r.bay) ++ byte r.recipe.val ++ byte r.template.val
    ++ byte r.flags ++ byte r.stateCode ++ toBytes 2 r.check.toNat ++ toBytes 2 r.text.length ++ r.text

/-- A label matches a selector: 0 ALL, 1 READY, 2 FETCHED. -/
def Label.selected (r : Label) (selector : Nat) : Bool := selector = 0 || r.stateCode + 1 = selector

/-- One entry of LIST LABELS. -/
def labelEntry (r : Label) : List Byte :=
  toBytes 4 r.bundle ++ toBytes 2 r.order ++ byte (bayNum r.bay) ++ byte r.stateCode ++ byte r.flags
    ++ toBytes 2 r.text.length

/-- LIST LABELS. -/
def labelsPayload (s : State) (selector : Nat) : List Byte :=
  let l := s.labels.table.filter (·.selected selector)
  byte l.length ++ byte s.labels.table.length ++ byte s.labelWait.length ++ l.flatMap labelEntry

/-! ## Supervision (Tables 11-16 and 11-17) -/

/-- READ NOTICES. -/
def noticesPayload (s : State) : List Byte := toBytes 4 s.link.notices.toNat ++ toBytes 4 s.link.mask.toNat

/-- Table 11-17. -/
def ResetCause.code : ResetCause → Nat
  | .powerOn => 1
  | .resetPin => 2
  | .tracking => 3

/-- Table 11-17. -/
def LineState.code : LineState → Nat
  | .unconfigured => 0
  | .stopped => 1
  | .running => 2

/-- GET STATUS. -/
def statusPayload (s : State) : List Byte :=
  byte s.link.cause.code ++ byte s.link.line.code
    ++ byte (bits [s.link.hold, s.lineal.infeedHold, s.gateCondition, s.gateOpen, s.attn])
    ++ toBytes 2 s.limits.watchdog ++ toBytes 2 (s.link.watchdog.getD 0)
    ++ toBytes 4 s.lineal.p.toNat ++ toBytes 4 s.chain.serial.toNat
    ++ byte s.strips.length ++ byte s.matcher.buffer.length ++ byte (bit s.matcher.matching) ++ byte s.labels.table.length
    ++ noticesPayload s ++ s.counters.toList.flatMap (toBytes 2)

end Sys2Proof.Machine
end

