-- ==== Sys2Proof/Machine/Configure.lean ====
section
/-! DEFINITION. The configuration requests: SET GEOMETRY, SET LIMITS, the two decision tables, the spindle limits, recipes,
templates and settle times. Each reads its payload in the layout of Table 11-3. -/

namespace Sys2Proof.Machine

open Sys2Proof

/-! ## SET GEOMETRY (R196, R197) -/

/-- The geometry a payload carries. -/
def geometryOf (p : List Byte) : Geometry :=
  { dm := fieldAt p 0 2, ds := fieldAt p 2 2, dt := fieldAt p 4 2, v := fieldAt p 6 1, d := fieldAt p 7 1
    e := fieldAt p 8 1, bays := Vector.ofFn fun k => fieldAt p (9 + k.val) 1, x := fieldAt p 17 1 }

/-- A list has no member twice. -/
def distinct : List Nat → Bool
  | [] => true
  | a :: rest => !rest.contains a && distinct rest

/-- The bounds of Table 10-6. -/
def Geometry.inBounds (g : Geometry) : Bool :=
  2900 ≤ g.dm && g.dm + 100 ≤ g.ds && g.ds + 100 ≤ g.dt && g.dt ≤ 65535 && g.dm + 1001 ≤ g.dt
    && 1 ≤ g.v && g.v < g.d && g.d < g.e && g.e ≤ g.d + 16
    && g.bays.toList.all (fun b => g.e < b && b < g.x && b ≤ g.d + 48) && distinct g.bays.toList && g.x ≤ 63

/-- The effects of an accepted SET GEOMETRY (R197, R121). -/
def acceptGeometry (g : Geometry) (s : State) : State :=
  let s1 := { s with geometry := g }
  let s2 := s1.updLink fun l => { l with line := if l.line = .unconfigured then .stopped else l.line }
  let s3 := (resetHead (resetHead s2 .headSide) .tailSide).clearPlanned
  let s4 := s3.updChain fun c => { c with slots := Vector.replicate 64 .clear }
  s4.setPassage (s4.lineal.passage.map fun a => { a with tag := none })

/-- SET GEOMETRY (R196). -/
def setGeometry (p : List Byte) (s : State) : Reply :=
  let g := geometryOf p
  if !g.inBounds then .error .badArgument
  else if s.link.line = .running then .error .wrongState
  else if s.strips ≠ [] then .error .wrongState
  else taken (acceptGeometry g s)

/-! ## SET LIMITS (R198, R96, R118) -/

/-- The limits a payload carries. -/
def limitsOf (p : List Byte) : Limits :=
  { moisture := fieldAt p 0 2, speed := fieldAt p 2 1, lpark := fieldAt p 3 1, boost := fieldAt p 4 1
    zone := fieldAt p 5 1, tp := fieldAt p 6 2, tl := fieldAt p 8 1, tt := fieldAt p 9 2, window := fieldAt p 11 1
    air := fieldAt p 12 1, strapTimeout := fieldAt p 13 2, watchdog := fieldAt p 15 2 }

/-- A value lies in a range. -/
def within (a b n : Nat) : Bool := a ≤ n && n ≤ b

/-- The ranges of Table 10-7. -/
def Limits.inRange (l : Limits) : Bool :=
  within 50 300 l.moisture && within 1 7 l.speed && within 8 63 l.lpark && within 0 15 l.boost && within 0 200 l.zone
    && within 0 1000 l.tp && within 0 100 l.tl && within 1 1000 l.tt && within 1 16 l.window && within 1 32 l.air
    && within 1000 60000 l.strapTimeout && (l.watchdog = 0 || within 100 10000 l.watchdog)

/-- Either plan queue holds an entry. -/
def State.planned (s : State) : Bool := !s.headSide.plan.isEmpty || !s.tailSide.plan.isEmpty

/-- SET LIMITS; the watchdog restarts with its new time once the request is taken (R198, R203). -/
def setLimits (p : List Byte) (s : State) : Reply :=
  let l := limitsOf p
  if !l.inRange then .error .badArgument
  else if l.speed < s.limits.speed && s.planned then .error .wrongState
  else if !s.airChangeFits l.window l.air then .error .wrongState
  else taken (restartWatchdog { s with limits := l })

/-! ## The decision tables (R94, R95) -/

/-- A grade entry from its 6 bytes. -/
def gradeEntryOf (p : List Byte) : Option GradeEntry :=
  match flagOf (fieldAt p 0 1) with
  | some enabled =>
    let price := fieldAt p 4 2
    if price = 0 then none
    else some { enabled := enabled, dmax := fieldAt p 1 2, forbidden := BitVec.ofNat 8 (fieldAt p 3 1), price := price }
  | none => none

/-- SET GRADE TABLE (R94). -/
def setGradeTable (p : List Byte) (s : State) : Reply :=
  match gradeEntryOf p, gradeEntryOf (p.drop 6), gradeEntryOf (p.drop 12), gradeEntryOf (p.drop 18) with
  | some a, some b, some c, some d => taken { s with grades := #v[a, b, c, d] }
  | _, _, _, _ => .error .badArgument

/-- A class entry from its 8 bytes. -/
def classPointsOf (p : List Byte) : Option ClassPoints :=
  match flagOf (fieldAt p 7 1) with
  | some sensitive =>
    let s1 := fieldAt p 0 1
    let s2 := fieldAt p 1 1
    let s3 := fieldAt p 2 1
    if s1 = 0 || s2 ≤ s1 || s3 ≤ s2 then none
    else some { s1 := s1, s2 := s2, s3 := s3, p0 := fieldAt p 3 1, p1 := fieldAt p 4 1, p2 := fieldAt p 5 1
                p3 := fieldAt p 6 1, endSensitive := sensitive }
  | none => none

/-- SET POINTS TABLE (R95). -/
def setPointsTable (p : List Byte) (s : State) : Reply :=
  match classPointsOf p, classPointsOf (p.drop 8), classPointsOf (p.drop 16), classPointsOf (p.drop 24),
    classPointsOf (p.drop 32), classPointsOf (p.drop 40), classPointsOf (p.drop 48), classPointsOf (p.drop 56) with
  | some a, some b, some c, some d, some e, some f, some g, some h =>
    taken { s with points := #v[a, b, c, d, e, f, g, h] }
  | _, _, _, _, _, _, _, _ => .error .badArgument

/-! ## SET SPINDLE LIMITS (R33) -/

/-- A spindle's warn and limit from its 8 bytes: warn at least 1, limit above it. -/
def thresholdsOf (p : List Byte) : Option (Nat × Nat) :=
  let warn := fieldAt p 0 4
  let limit := fieldAt p 4 4
  if warn = 0 || limit ≤ warn then none else some (warn, limit)

/-- A derate is 0 to 15. -/
def derateOf (n : Nat) : Option Nat := if n ≤ 15 then some n else none

/-- New thresholds for a spindle; its state is formed again (R32, R33). -/
def setThresholds (i : SpindleId) (t : Nat × Nat) (s : State) : State :=
  putSpindle s i { s.moulder.spindle i with warn := t.1, limit := t.2 }

/-- SET SPINDLE LIMITS (R33). -/
def setSpindleLimits (p : List Byte) (s : State) : Reply :=
  match thresholdsOf p, thresholdsOf (p.drop 8), thresholdsOf (p.drop 16), thresholdsOf (p.drop 24),
    derateOf (fieldAt p 32 1), derateOf (fieldAt p 33 1), Grade.ofNum (fieldAt p 34 1), Grade.ofNum (fieldAt p 35 1) with
  | some a, some b, some c, some d, some top, some bottom, some tongue, some groove =>
    let s1 := { s with moulder := { s.moulder with
      derateTop := top, derateBottom := bottom, capTongue := tongue, capGroove := groove } }
    taken (setThresholds .groove d (setThresholds .tongue c (setThresholds .bottom b (setThresholds .top a s1))))
  | _, _, _, _, _, _, _, _ => .error .badArgument

/-! ## SET RECIPE (R154) -/

/-- The recipe a payload carries, when every field lies in its range (Table 8-1). -/
def recipeOf (p : List Byte) : Option Recipe :=
  match setOf 4 (fieldAt p 4 1) with
  | some grades =>
    if h : fieldAt p 18 1 < 4 then
      let r : Recipe :=
        { species := fieldAt p 1 1, profile := fieldAt p 2 1, width := fieldAt p 3 1, grades := grades
          target := fieldAt p 5 1, quotas := Vector.ofFn fun i => fieldAt p (6 + i.val) 1, template := ⟨fieldAt p 18 1, h⟩ }
      if within 1 63 r.species && within 1 15 r.profile && within 40 200 r.width && grades ≠ 0 && within 1 64 r.target
          && r.quotas.toList.all (· ≤ 64) && r.target ≤ r.quotas.toList.sum then some r
      else none
    else none
  | none => none

/-- SET RECIPE (R154). -/
def setRecipe (p : List Byte) (s : State) : Reply :=
  match recipeOf p with
  | some r =>
    if h : fieldAt p 0 1 < 32 then
      if (s.labels.templates[r.template]).isSome then
        taken { s with orders := { s.orders with recipes := s.orders.recipes.set (fieldAt p 0 1) (some r) } }
      else .error .badArgument
    else .error .badArgument
  | none => .error .badArgument

/-! ## SET TEMPLATE (R177, R178) -/

/-- A literal printable character. -/
def isPrintable (b : Byte) : Bool := within 0x20 0x7E b.toNat

/-- A byte allowed in a template (Table 9-1). -/
def templateByte (b : Byte) : Bool := isPrintable b || b.toNat = 0x0A || within 0x80 0x8D b.toNat

/-- A template the store takes (R177). -/
def templateOk (t : List Byte) : Bool :=
  t ≠ [] && t.length ≤ 192 && t.all templateByte && t.dropLast.all (· ≠ checkField)

/-- The template form (R177). -/
def templateForm (p : List Byte) (s : State) : Reply :=
  let t := p.drop 2
  if h : fieldAt p 1 1 < 4 then
    if templateOk t then
      taken { s with labels := { s.labels with templates := s.labels.templates.set (fieldAt p 1 1) (some t) } }
    else .error .badArgument
  else .error .badArgument

/-- The mill id form (R178, R206). -/
def millIdForm (p : List Byte) (s : State) : Reply :=
  let m := p.drop 1
  if p.length = 5 && m.all isPrintable then taken { s with labels := { s.labels with millId := m } }
  else .error .badArgument

/-- SET TEMPLATE by its form byte (11.1, R206). -/
def setTemplate (p : List Byte) (s : State) : Reply :=
  match fieldAt p 0 1 with
  | 0 => templateForm p s
  | 1 => millIdForm p s
  | _ => .error .badArgument

/-! ## SET BAY (R122) -/

/-- SET BAY. -/
def setBay (p : List Byte) (s : State) : Reply :=
  match bayOfNum (fieldAt p 0 1) with
  | some k =>
    if within 50 2000 (fieldAt p 1 2) then taken (s.updBay k fun b => { b with settleTime := fieldAt p 1 2 })
    else .error .badArgument
  | none => .error .badArgument

/-! ## The rows -/

/-- SET_GEOMETRY (R196). -/
def execSetGeometry (p : List Byte) (s : State) : Host.Outcome State Fault Refusal :=
  takeEvent (request 0x01#8 (· = 18) setGeometry p) s

/-- SET_LIMITS (R198). -/
def execSetLimits (p : List Byte) (s : State) : Host.Outcome State Fault Refusal :=
  takeEvent (request 0x02#8 (· = 17) setLimits p) s

/-- SET_GRADE_TABLE (R94). -/
def execSetGradeTable (p : List Byte) (s : State) : Host.Outcome State Fault Refusal :=
  takeEvent (request 0x03#8 (· = 24) setGradeTable p) s

/-- SET_POINTS_TABLE (R95). -/
def execSetPointsTable (p : List Byte) (s : State) : Host.Outcome State Fault Refusal :=
  takeEvent (request 0x04#8 (· = 64) setPointsTable p) s

/-- SET_SPINDLE_LIMITS (R33). -/
def execSetSpindleLimits (p : List Byte) (s : State) : Host.Outcome State Fault Refusal :=
  takeEvent (request 0x05#8 (· = 36) setSpindleLimits p) s

/-- SET_RECIPE (R154). -/
def execSetRecipe (p : List Byte) (s : State) : Host.Outcome State Fault Refusal :=
  takeEvent (request 0x06#8 (· = 19) setRecipe p) s

/-- SET_TEMPLATE (R177): the request 0x07, whose form byte its payload carries (log entry 29). -/
def execSetTemplate (p : List Byte) (s : State) : Host.Outcome State Fault Refusal :=
  takeEvent (request 0x07#8 (within 2 194) setTemplate p) s

/-- SET_MILL_ID (R178): the request 0x07, whose form byte its payload carries (log entry 29). -/
def execSetMillId (p : List Byte) (s : State) : Host.Outcome State Fault Refusal :=
  takeEvent (request 0x07#8 (within 2 194) setTemplate p) s

/-- SET_BAY (R122). -/
def execSetBay (p : List Byte) (s : State) : Host.Outcome State Fault Refusal :=
  takeEvent (request 0x08#8 (· = 3) setBay p) s

end Sys2Proof.Machine
end

