-- ==== Sys2Proof/WellFormed.lean ====
section
/-! DEFINITION. The commands that something outside the part can send: a request's payload fits a frame and its form byte
names its row, a code of UNKNOWN_REQUEST names no request, a report passes the frame tests, a strap completion names a
bay. A command that is not well formed still has a meaning (R192 to R194, R41, R138). -/

namespace Sys2Proof

open Sys2Proof.Machine

/-- The request code and the payload of a request command (Table 11-3). -/
def Instr.request? : Instr → Option (Byte × List Byte)
  | .setGeometry p => some (0x01#8, p)
  | .setLimits p => some (0x02#8, p)
  | .setGradeTable p => some (0x03#8, p)
  | .setPointsTable p => some (0x04#8, p)
  | .setSpindleLimits p => some (0x05#8, p)
  | .setRecipe p => some (0x06#8, p)
  | .setTemplate p => some (0x07#8, p)
  | .setMillId p => some (0x07#8, p)
  | .setBay p => some (0x08#8, p)
  | .startLine p => some (0x10#8, p)
  | .stopLine p => some (0x11#8, p)
  | .holdInfeed p => some (0x12#8, p)
  | .releaseInfeed p => some (0x13#8, p)
  | .getStrip p => some (0x20#8, p)
  | .listStrips p => some (0x21#8, p)
  | .amendStrip p => some (0x22#8, p)
  | .purgeStrip p => some (0x23#8, p)
  | .getLug p => some (0x24#8, p)
  | .newRun p => some (0x30#8, p)
  | .toolingReady p => some (0x31#8, p)
  | .getMoulder p => some (0x32#8, p)
  | .getHeads p => some (0x38#8, p)
  | .clearHeadFault p => some (0x39#8, p)
  | .getBay p => some (0x40#8, p)
  | .closeBundle p => some (0x41#8, p)
  | .abortBundle p => some (0x42#8, p)
  | .clearBay p => some (0x43#8, p)
  | .enableBay p => some (0x44#8, p)
  | .disableBay p => some (0x45#8, p)
  | .resetStrapper p => some (0x46#8, p)
  | .loadProgram p => some (0x50#8, p)
  | .addOrder p => some (0x51#8, p)
  | .releaseOrder p => some (0x52#8, p)
  | .cancelOrder p => some (0x53#8, p)
  | .getOrder p => some (0x54#8, p)
  | .retireOrder p => some (0x55#8, p)
  | .listLabels p => some (0x60#8, p)
  | .fetchLabel p => some (0x61#8, p)
  | .retireLabel p => some (0x62#8, p)
  | .getStatus p => some (0x70#8, p)
  | .readNotices p => some (0x71#8, p)
  | .setNoticeMask p => some (0x72#8, p)
  | .clearCounters p => some (0x73#8, p)
  | .resetTracking p => some (0x74#8, p)
  | _ => none

/-- The form byte of a SET TEMPLATE payload is 1, the mill id's (11.1). -/
def isMillIdForm (p : List Byte) : Bool := p.head? = some 1#8

/-- The row that the form byte of a SET TEMPLATE frame names (log entry 29). -/
def Instr.formOk : Instr → Bool
  | .setTemplate p => !isMillIdForm p
  | .setMillId p => isMillIdForm p
  | _ => true

/-- A command that something outside the part can send. -/
def Instr.wellFormed (i : Instr) : Bool :=
  match i.request? with
  | some (_, p) => p.length ≤ Config.payloadLimit && i.formOk
  | none =>
    match i with
    | .unknownRequest c => !isRequestCode c
    | .reportReceived p => reportWellFormed p
    | .strapComplete n => within 1 8 n
    | _ => true

end Sys2Proof
end

