-- ==== Sys2Proof/Decode.lean ====
section
/-! DEFINITION. The table gives its rows no bits, so no word spells a command. What the part reads as bytes are the frames
of its two links (11.1): they are decoded to commands here, and encoded. -/

namespace Sys2Proof

open Sys2Proof.Machine

/-- The command a word of the table spells: the table gives no row any bits. -/
def decodeTableWord (_nbits _w : Nat) : Option Instr := none

/-! ## Line-link request frames (R192, Table 11-1) -/

/-- The start byte of a request frame. -/
def requestStart : Byte := 0xA5#8

/-- The start byte of a response frame. -/
def responseStart : Byte := 0x5A#8

/-- The start byte of a station-link frame. -/
def stationStart : Byte := 0xC3#8

/-- The command of a valid request frame (Table 11-3). -/
def requestCommand (code : Byte) (p : List Byte) : Instr :=
  match code.toNat with
  | 0x01 => .setGeometry p
  | 0x02 => .setLimits p
  | 0x03 => .setGradeTable p
  | 0x04 => .setPointsTable p
  | 0x05 => .setSpindleLimits p
  | 0x06 => .setRecipe p
  | 0x07 => if isMillIdForm p then .setMillId p else .setTemplate p
  | 0x08 => .setBay p
  | 0x10 => .startLine p
  | 0x11 => .stopLine p
  | 0x12 => .holdInfeed p
  | 0x13 => .releaseInfeed p
  | 0x20 => .getStrip p
  | 0x21 => .listStrips p
  | 0x22 => .amendStrip p
  | 0x23 => .purgeStrip p
  | 0x24 => .getLug p
  | 0x30 => .newRun p
  | 0x31 => .toolingReady p
  | 0x32 => .getMoulder p
  | 0x38 => .getHeads p
  | 0x39 => .clearHeadFault p
  | 0x40 => .getBay p
  | 0x41 => .closeBundle p
  | 0x42 => .abortBundle p
  | 0x43 => .clearBay p
  | 0x44 => .enableBay p
  | 0x45 => .disableBay p
  | 0x46 => .resetStrapper p
  | 0x50 => .loadProgram p
  | 0x51 => .addOrder p
  | 0x52 => .releaseOrder p
  | 0x53 => .cancelOrder p
  | 0x54 => .getOrder p
  | 0x55 => .retireOrder p
  | 0x60 => .listLabels p
  | 0x61 => .fetchLabel p
  | 0x62 => .retireLabel p
  | 0x70 => .getStatus p
  | 0x71 => .readNotices p
  | 0x72 => .setNoticeMask p
  | 0x73 => .clearCounters p
  | 0x74 => .resetTracking p
  | _ => .unknownRequest code

/-- A body with its check value (3.11). -/
def withCheck (body : List Byte) : List Byte := body ++ toBytes 2 (checkCode body).toNat

/-- The check value at the end of a frame's bytes agrees with the n bytes before it. -/
def checkAgrees (n : Nat) (l : List Byte) : Bool := l.drop n == toBytes 2 (checkCode (l.take n)).toNat

/-- The bytes of a request frame. -/
def requestFrame (code : Byte) (p : List Byte) : List Byte :=
  requestStart :: withCheck (toBytes 2 p.length ++ code :: p)

/-- What a whole line-link frame is to the part; none for bytes that are no whole frame (R192). -/
def decodeRequest (bytes : List Byte) : Option Instr :=
  match bytes with
  | [] => none
  | b :: l =>
    let n := fieldAt l 0 2
    if b ≠ requestStart then none
    else if l.length < 2 then none
    else if Config.payloadLimit < n then some .linkFrameDiscarded
    else if l.length ≠ n + 5 then none
    else if checkAgrees (n + 3) l then some (requestCommand (l.getD 2 0#8) ((l.drop 3).take n))
    else some .linkFrameDiscarded

/-- The frame of a request command. -/
def encodeRequest (i : Instr) : Option (List Byte) := i.request?.map fun q => requestFrame q.1 q.2

/-! ## Station-link frames (R41, R207) -/

/-- The bytes of a report frame. -/
def stationFrame (p : List Byte) : List Byte := stationStart :: withCheck (toBytes 2 p.length ++ p)

/-- One of the 33 payload lengths of a report (R207). -/
def reportLengthOk (n : Nat) : Bool := 9 ≤ n && n ≤ 233 && (n - 9) % 7 = 0

/-- What a whole station-link frame is to the part; none for bytes that are no whole frame (R41). -/
def decodeStation (bytes : List Byte) : Option Instr :=
  match bytes with
  | [] => none
  | b :: l =>
    let n := fieldAt l 0 2
    if b ≠ stationStart then none
    else if l.length < 2 then none
    else if !reportLengthOk n then some .stationFrameDiscarded
    else if l.length ≠ n + 4 then none
    else if checkAgrees (n + 2) l then some (.reportReceived ((l.drop 2).take n))
    else some .stationFrameDiscarded

/-! ## Response frames (Table 11-1) -/

/-- The bytes of a response. -/
def responseFrame (r : Response) : List Byte :=
  responseStart :: withCheck (toBytes 2 r.payload.length ++ r.code :: byte r.status.code ++ r.payload)

end Sys2Proof
end

