-- ==== Sys2Proof/Machine/OrderRequests.lean ====
section
/-! DEFINITION. The requests of the order unit (8.2 to 8.7) and of the label builder (9.4). -/

namespace Sys2Proof.Machine

open Sys2Proof

/-! ## LOAD PROGRAM (R155) -/

/-- A program word from its 4 bytes (Table 11-4). -/
def wordOf (p : List Byte) : ProgramWord := { code := fieldAt p 0 1, a := fieldAt p 1 1, b := fieldAt p 2 2 }

/-- n program words in a row. -/
def wordsOf : Nat → List Byte → List ProgramWord
  | 0, _ => []
  | n + 1, p => wordOf p :: wordsOf n (p.drop 4)

/-- Words are written at consecutive addresses; an address past the memory is not written. -/
def writeWords (m : Vector ProgramWord 256) : Nat → List ProgramWord → Vector ProgramWord 256
  | _, [] => m
  | a, w :: rest => writeWords (m.setIfInBounds a w) (a + 1) rest

/-- LOAD PROGRAM (R155). -/
def loadProgram (p : List Byte) (s : State) : Reply :=
  let start := fieldAt p 0 2
  let words := wordsOf ((p.length - 2) / 4) (p.drop 2)
  if 255 < start || words = [] || 128 < words.length || 256 < start + words.length then .error .badArgument
  else taken { s with orders := { s.orders with program := writeWords s.orders.program start words } }

/-! ## ADD ORDER (R157) -/

/-- An order record as ADD ORDER creates it. -/
def newOrder (id : Nat) (start : Fin 256) : Order :=
  { id := id, start := start, state := .loaded, faultCode := none, emitted := 0, opened := 0, withdrawn := 0, labelled := 0
    aborted := 0, closedEmpty := 0, settled := false }

/-- The record joins the table and the run list, and the interpreter applies R159 (R157). -/
def createOrder (s : State) (id : Nat) (start : Fin 256) : State :=
  let s1 := { s with orders := { s.orders with
    table := s.orders.table ++ [newOrder id start], runList := s.orders.runList ++ [id] } }
  takeUp (s1.bump .ordersAdded)

/-- ADD ORDER (R157). -/
def addOrder (p : List Byte) (s : State) : Reply :=
  let id := fieldAt p 0 2
  if h : fieldAt p 2 2 < 256 then
    if id = 0 then .error .badArgument
    else if (s.order? id).isSome then .error .badArgument
    else if Config.orderCapacity ≤ s.orders.table.length then .error .tableFull
    else taken (createOrder s id ⟨fieldAt p 2 2, h⟩)
  else .error .badArgument

/-! ## Requests that name a live order -/

/-- A request that carries an order id alone: 0 is BAD_ARGUMENT, an id without a live order NOT_FOUND. -/
def orderRequest (f : State → Order → Reply) (p : List Byte) (s : State) : Reply :=
  let id := fieldAt p 0 2
  if id = 0 then .error .badArgument
  else
    match s.order? id with
    | some o => f s o
    | none => .error .notFound

/-- RELEASE ORDER (R165). -/
def releaseOrder : List Byte → State → Reply :=
  orderRequest fun s o =>
    if s.orders.interp.state = .held ∧ s.orders.interp.order = some o.id then
      taken (s.updInterp fun i => { i with state := if s.pauseCondition then .paused else .running })
    else .error .wrongState

/-- Step 1 of a cancellation: the order's entries leave the queue; an interpreter on another order finds places freed
(R169). -/
def withdrawEntries (s : State) (id : Nat) : State :=
  let n := s.queuedCount id
  let s1 := s.updOrder id fun o => { o with withdrawn := o.withdrawn + n }
  let s2 := { s1 with orders := { s1.orders with queue := s1.orders.queue.filter fun e => e.order ≠ id } }
  let s3 := s2.bumpBy .entriesWithdrawn n
  if n = 0 ∨ s.orders.interp.order = some id then s3 else placeFreed s3

/-- Step 3 of a cancellation: the order leaves the run list, or the interpreter gives it up (R169). -/
def letGo (s : State) (id : Nat) : State :=
  let s1 := { s with orders := { s.orders with runList := s.orders.runList.filter (· ≠ id) } }
  if s1.orders.interp.order = some id then giveUp s1 else s1

/-- The cancellation of an order, in the five steps of R169. -/
def cancel (s : State) (id : Nat) : State :=
  let held : Bool := s.orders.interp.order = some id
  let s2 := closeForCancel id (withdrawEntries s id)
  let s4 := ((letGo s2 id).updOrder id fun o => { o with state := .cancelled }).bump .ordersCancelled
  let s5 := orderTest s4 id
  if held then takeUp s5 else s5

/-- An order that can be cancelled (R169). -/
def OrderState.cancellable : OrderState → Bool
  | .complete => false
  | .cancelled => false
  | _ => true

/-- CANCEL ORDER (R169). -/
def cancelOrder : List Byte → State → Reply :=
  orderRequest fun s o => if o.state.cancellable then taken (cancel s o.id) else .error .wrongState

/-- An order that can be retired (R172). -/
def Order.retirable (o : Order) : Bool := o.state = .complete || (o.state = .cancelled && o.settled)

/-- RETIRE ORDER (R172). -/
def retireOrder : List Byte → State → Reply :=
  orderRequest fun s o =>
    if o.retirable then
      taken { s with orders := { s.orders with table := s.orders.table.filter fun r => r.id ≠ o.id } }
    else .error .wrongState

/-- GET ORDER (R173). -/
def getOrder (p : List Byte) (s : State) : Reply :=
  if fieldAt p 0 2 = 0 then .ok (s, orderUnitPayload s)
  else
    match s.order? (fieldAt p 0 2) with
    | some o => .ok (s, orderPayload s o)
    | none => .error .notFound

/-! ## Labels (R186 to R188) -/

/-- LIST LABELS (R186). -/
def listLabels (p : List Byte) (s : State) : Reply :=
  if fieldAt p 0 1 ≤ 2 then .ok (s, labelsPayload s (fieldAt p 0 1)) else .error .badArgument

/-- The record a FETCH LABEL takes: the oldest READY one for serial 0 (R187). -/
def State.labelFor (s : State) (serial : Nat) : Option Label :=
  if serial = 0 then s.labels.table.find? fun r => r.fetched = false
  else s.labels.table.find? fun r => r.bundle = serial

/-- A label record becomes FETCHED in its place (R187). -/
def markFetched (s : State) (serial : Nat) : State :=
  { s with labels := { s.labels with
    table := s.labels.table.map fun r => if r.bundle = serial then { r with fetched := true } else r } }

/-- FETCH LABEL (R187). -/
def fetchLabel (p : List Byte) (s : State) : Reply :=
  let serial := fieldAt p 0 4
  if Config.bundleSerialLimit < serial then .error .badArgument
  else
    match s.labelFor serial with
    | some r => .ok (markFetched s r.bundle, labelPayload r)
    | none => .error .notFound

/-- A label record leaves the table, and the label-wait FIFO is served (R184, R188). -/
def removeLabel (s : State) (serial : Nat) : State :=
  let s1 := { s with labels := { s.labels with table := s.labels.table.filter fun r => r.bundle ≠ serial } }
  serveLabelWait (s1.bump .labelsRetired)

/-- RETIRE LABEL (R188). -/
def retireLabel (p : List Byte) (s : State) : Reply :=
  let serial := fieldAt p 0 4
  if serial = 0 || Config.bundleSerialLimit < serial then .error .badArgument
  else
    match s.labels.table.find? fun r => r.bundle = serial with
    | none => .error .notFound
    | some r => if r.fetched then taken (removeLabel s serial) else .error .notFetched

/-! ## The rows -/

/-- LOAD_PROGRAM (R155). -/
def execLoadProgram (p : List Byte) (s : State) : Host.Outcome State Fault Refusal :=
  takeEvent (request 0x50#8 (fun n => within 2 514 n && n % 4 = 2) loadProgram p) s

/-- ADD_ORDER (R157). -/
def execAddOrder (p : List Byte) (s : State) : Host.Outcome State Fault Refusal :=
  takeEvent (request 0x51#8 (· = 4) addOrder p) s

/-- RELEASE_ORDER (R165). -/
def execReleaseOrder (p : List Byte) (s : State) : Host.Outcome State Fault Refusal :=
  takeEvent (request 0x52#8 (· = 2) releaseOrder p) s

/-- CANCEL_ORDER (R169). -/
def execCancelOrder (p : List Byte) (s : State) : Host.Outcome State Fault Refusal :=
  takeEvent (request 0x53#8 (· = 2) cancelOrder p) s

/-- GET_ORDER (R173). -/
def execGetOrder (p : List Byte) (s : State) : Host.Outcome State Fault Refusal :=
  takeEvent (request 0x54#8 (· = 2) getOrder p) s

/-- RETIRE_ORDER (R172). -/
def execRetireOrder (p : List Byte) (s : State) : Host.Outcome State Fault Refusal :=
  takeEvent (request 0x55#8 (· = 2) retireOrder p) s

/-- LIST_LABELS (R186). -/
def execListLabels (p : List Byte) (s : State) : Host.Outcome State Fault Refusal :=
  takeEvent (request 0x60#8 (· = 1) listLabels p) s

/-- FETCH_LABEL (R187). -/
def execFetchLabel (p : List Byte) (s : State) : Host.Outcome State Fault Refusal :=
  takeEvent (request 0x61#8 (· = 4) fetchLabel p) s

/-- RETIRE_LABEL (R188). -/
def execRetireLabel (p : List Byte) (s : State) : Host.Outcome State Fault Refusal :=
  takeEvent (request 0x62#8 (· = 4) retireLabel p) s

/-- LABEL_FORMATION (R182): the front bay of the label-wait FIFO is served when a place is free. -/
def execLabelFormation (s : State) : Host.Outcome State Fault Refusal := takeEvent serveLabelWait s

end Sys2Proof.Machine
end

