-- ==== Sys2Proof/Machine/Purge.lean ====
section
/-! DEFINITION. The strip requests: GET STRIP, LIST STRIPS, AMEND STRIP, PURGE STRIP (1.7), and GET LUG (4.8). -/

namespace Sys2Proof.Machine

open Sys2Proof

/-! ## Reading -/

/-- GET STRIP (R11). -/
def getStrip (p : List Byte) (s : State) : Reply :=
  let tag := fieldAt p 0 2
  if tag = 0 then .error .badArgument
  else
    match s.strip? tag with
    | some r => .ok (s, stripPayload r)
    | none => .error .notFound

/-- LIST STRIPS (R12). -/
def listStrips (p : List Byte) (s : State) : Reply :=
  if fieldAt p 0 1 ≤ 5 then .ok (s, listPayload s (fieldAt p 0 1)) else .error .badArgument

/-- GET LUG (R69). -/
def getLug (p : List Byte) (s : State) : Reply :=
  if fieldAt p 0 1 < s.geometry.x then .ok (s, lugPayload s (fieldAt p 0 1)) else .error .badArgument

/-! ## AMEND STRIP (R13) -/

/-- The override a payload's kind and grade bytes give: the override to set, or none when malformed (R206). -/
def overrideOf (kind grade : Nat) : Option (Option Override) :=
  match kind with
  | 0 => some none
  | 1 => (Grade.ofNum grade).map fun g => some (.grade g)
  | 2 => some (some .reject)
  | _ => none

/-- LINEAL or LOADED. -/
def Strip.amendable (r : Strip) : Bool := r.state = .lineal || r.state = .loaded

/-- AMEND STRIP (R13). -/
def amendStrip (p : List Byte) (s : State) : Reply :=
  let tag := fieldAt p 0 2
  match overrideOf (fieldAt p 2 1) (fieldAt p 3 1) with
  | none => .error .badArgument
  | some v =>
    if tag = 0 then .error .badArgument
    else
      match s.strip? tag with
      | none => .error .notFound
      | some r => if r.amendable then taken (s.updStrip tag fun r => { r with override := v }) else .error .wrongState

/-! ## PURGE STRIP (R14 to R17) -/

/-- The passage no longer feeds a record (R15). -/
def untrackPassage (s : State) (tag : Nat) : State :=
  s.setPassage (s.lineal.passage.map fun a => if a.tag = some tag then { a with tag := none } else a)

/-- The pending load list's entry of a strip becomes UNKNOWN (R15, R61). -/
def forgetLoad (s : State) (tag : Nat) : State :=
  s.updChain fun c => { c with load := c.load.map fun e => if e = .strip tag then .unknown else e }

/-- The record retires PURGED and the drain test follows (R14, R15, R30). -/
def retirePurged (s : State) (tag : Nat) : State := drainTest (s.retire tag .purged)

/-- A purge on the lineal section (R15); a strip that it has made the watched one is lost where its deadline is past
(R27). -/
def purgeLineal (s : State) (r : Strip) : State :=
  loseNewlyWatched s.watchedTag? (retirePurged (forgetLoad (untrackPassage s r.tag) r.tag) r.tag)

/-- A DECIDED strip has a cut planned: SORT or OVERFLOW (Table 1-4). -/
def Strip.cutPlanned (r : Strip) : Bool :=
  r.state = .decided && (r.decision.map (·.disposition) = some .sort || r.decision.map (·.disposition) = some .overflow)

/-- The plan entries and the plunge starts of a purged strip (R16). -/
def purgePlans (s : State) (r : Strip) (n : Serial) : State :=
  let s1 := if r.state = .decided then noPlunge (noPlunge s .headSide n) .tailSide n else s
  if r.cutPlanned then s1.freeStarts (n + BitVec.ofNat 32 s.geometry.e) 2 else s1

/-- The bay whose pending drop is the strip's. -/
def State.droppingBay (s : State) (tag : Nat) : Option BayId :=
  allBays.find? fun k => ((s.bay k).pendingDrop.map (·.tag)) = some tag

/-- The pending confirmation of a purged strip is cancelled; an attached drop releases its commitment (R17). -/
def cancelPending (s : State) (r : Strip) (k : BayId) : State × Option BayId :=
  let attached := ((s.bay k).pendingDrop.map (·.attached)) = some true
  let s1 := s.updBay k fun b => { b with pendingDrop := none }
  if attached then (releaseCommitment s1 k r.band, some k) else (s1, none)

/-- The commitment of a purged strip is released (R17); with it the bay that applies its completion test. -/
def purgeCommitment (s : State) (r : Strip) : State × Option BayId :=
  if r.dropPending then
    match s.droppingBay r.tag with
    | some k => cancelPending s r k
    | none => (s, none)
  else cancelDrop s r.tag

/-- The slot of a purged strip: UNKNOWN when it names no other strip and the strip still rides the lug (R16). -/
def purgeSlot (s : State) (r : Strip) (n : Serial) : State :=
  if r.dropPending then s else if (s.slot n).named = [] then s.setKind n .unknown else s

/-- A purge on the chain (R16, R17). -/
def purgeChain (s : State) (r : Strip) (n : Serial) : State :=
  let (s1, bay) := purgeCommitment (purgePlans s r n) r
  testAfterCancel (purgeSlot (retirePurged s1 r.tag) r n) bay

/-- The purge of a live strip: a strip with a lug serial rides the chain (R14). -/
def purge (s : State) (r : Strip) : State :=
  match r.serial with
  | some n => purgeChain s r n
  | none => purgeLineal s r

/-- PURGE STRIP (R14). -/
def purgeStrip (p : List Byte) (s : State) : Reply :=
  let tag := fieldAt p 0 2
  if tag = 0 then .error .badArgument
  else
    match s.strip? tag with
    | some r => taken (purge s r)
    | none => .error .notFound

/-! ## The rows -/

/-- GET_STRIP (R11). -/
def execGetStrip (p : List Byte) (s : State) : Host.Outcome State Fault Refusal :=
  takeEvent (request 0x20#8 (· = 2) getStrip p) s

/-- LIST_STRIPS (R12). -/
def execListStrips (p : List Byte) (s : State) : Host.Outcome State Fault Refusal :=
  takeEvent (request 0x21#8 (· = 1) listStrips p) s

/-- AMEND_STRIP (R13). -/
def execAmendStrip (p : List Byte) (s : State) : Host.Outcome State Fault Refusal :=
  takeEvent (request 0x22#8 (· = 4) amendStrip p) s

/-- PURGE_STRIP (R14). -/
def execPurgeStrip (p : List Byte) (s : State) : Host.Outcome State Fault Refusal :=
  takeEvent (request 0x23#8 (· = 2) purgeStrip p) s

/-- GET_LUG (R69). -/
def execGetLug (p : List Byte) (s : State) : Host.Outcome State Fault Refusal :=
  takeEvent (request 0x24#8 (· = 1) getLug p) s

end Sys2Proof.Machine
end

