-- ==== Sys2Proof/Machine/BayRequests.lean ====
section
/-! DEFINITION. The requests and the inputs of bays and the strapper (7.8 to 7.11). -/

namespace Sys2Proof.Machine

open Sys2Proof

/-! ## Requests -/

/-- A request that carries a bay number (1 to 8) alone. -/
def bayRequest (f : State → BayId → Reply) (p : List Byte) (s : State) : Reply :=
  match bayOfNum (fieldAt p 0 1) with
  | some k => f s k
  | none => .error .badArgument

/-- GET BAY (R148). -/
def getBay : List Byte → State → Reply := bayRequest fun s k => .ok (s, bayPayload s k)

/-- CLOSE BUNDLE (R134). -/
def closeBundle : List Byte → State → Reply :=
  bayRequest fun s k =>
    if (s.bay k).state = .filling then
      taken (completionTest (s.updBundle k fun b => { b with closing := true }) k true)
    else .error .wrongState

/-- A bay whose bundle may be aborted (R146). -/
def BayState.abortable : BayState → Bool
  | .filling => true
  | .settling => true
  | .waitStrap => true
  | .fault => true
  | _ => false

/-- ABORT BUNDLE (R146). -/
def abortBundleRequest : List Byte → State → Reply :=
  bayRequest fun s k => if (s.bay k).state.abortable then taken (abortBundle s k) else .error .wrongState

/-- A bay in FAULT returns to where its fault came from (Table 7-7). -/
def clearBayFault (s : State) (k : BayId) : State :=
  match (s.bay k).origin with
  | some .filling => completionTest (s.updBay k fun b => { b with state := .filling, origin := none }) k true
  | some .settling => startSettle s k
  | some .strapTimeout => rejoinStrapper s k
  | none => s

/-- CLEAR BAY (R145). -/
def clearBay : List Byte → State → Reply :=
  bayRequest fun s k =>
    if (s.bay k).state = .fault ∧ s.inputs.bayFault[k] = false then taken (clearBayFault s k) else .error .wrongState

/-- ENABLE BAY (R147). -/
def enableBay : List Byte → State → Reply :=
  bayRequest fun s k => if (s.bay k).state = .disabled then taken (enterEmpty s k) else .error .wrongState

/-- DISABLE BAY (R147). -/
def disableBay : List Byte → State → Reply :=
  bayRequest fun s k =>
    if (s.bay k).state = .empty then taken (s.updBay k fun b => { b with state := .disabled, starved := false })
    else .error .wrongState

/-- RESET STRAPPER (R140). -/
def resetStrapper (_ : List Byte) (s : State) : Reply :=
  match s.strapper.state with
  | .fault => taken (arbitrate { s with strapper := { s.strapper with state := .idle } })
  | _ => .error .wrongState

/-! ## Inputs -/

/-- An activation of a bay's confirm input (R130, R131). -/
def confirm (k : BayId) (s : State) : State :=
  match (s.bay k).pendingDrop with
  | some _ => resolveDrop s k true
  | none => s.bump .strayConfirm

/-- An activation of the strap complete input with a bay number (R138). -/
def strapComplete (n : Nat) (s : State) : State :=
  match s.strapper.state, s.strapper.current with
  | .busy, some k => if bayNum k = n then strapDone s k else s.bump .strayStrap
  | _, _ => s.bump .strayStrap

/-- The level of a bay's input is written. -/
def Inputs.setConfirm (k : BayId) (v : Bool) (i : Inputs) : Inputs := { i with bayConfirm := i.bayConfirm.set k v }

/-- The level of a bay's fault input is written. -/
def Inputs.setBayFault (k : BayId) (v : Bool) (i : Inputs) : Inputs := { i with bayFault := i.bayFault.set k v }

/-- The level of a bay's discharge complete input is written. -/
def Inputs.setDischarge (k : BayId) (v : Bool) (i : Inputs) : Inputs := { i with discharge := i.discharge.set k v }

/-! ## The rows -/

/-- GET_BAY (R148). -/
def execGetBay (p : List Byte) (s : State) : Host.Outcome State Fault Refusal :=
  takeEvent (request 0x40#8 (· = 1) getBay p) s

/-- CLOSE_BUNDLE (R134). -/
def execCloseBundle (p : List Byte) (s : State) : Host.Outcome State Fault Refusal :=
  takeEvent (request 0x41#8 (· = 1) closeBundle p) s

/-- ABORT_BUNDLE (R146). -/
def execAbortBundle (p : List Byte) (s : State) : Host.Outcome State Fault Refusal :=
  takeEvent (request 0x42#8 (· = 1) abortBundleRequest p) s

/-- CLEAR_BAY (R145). -/
def execClearBay (p : List Byte) (s : State) : Host.Outcome State Fault Refusal :=
  takeEvent (request 0x43#8 (· = 1) clearBay p) s

/-- ENABLE_BAY (R147). -/
def execEnableBay (p : List Byte) (s : State) : Host.Outcome State Fault Refusal :=
  takeEvent (request 0x44#8 (· = 1) enableBay p) s

/-- DISABLE_BAY (R147). -/
def execDisableBay (p : List Byte) (s : State) : Host.Outcome State Fault Refusal :=
  takeEvent (request 0x45#8 (· = 1) disableBay p) s

/-- RESET_STRAPPER (R140). -/
def execResetStrapper (p : List Byte) (s : State) : Host.Outcome State Fault Refusal :=
  takeEvent (request 0x46#8 (· = 0) resetStrapper p) s

/-- BAY_CONFIRM (R130, R131). -/
def execBayConfirm (k : BayId) (active : Bool) (s : State) : Host.Outcome State Fault Refusal :=
  takeEdge (Inputs.setConfirm k active) (fun s => if active then confirm k s else s) s

/-- BAY_FAULT_INPUT (R144). -/
def execBayFaultInput (k : BayId) (active : Bool) (s : State) : Host.Outcome State Fault Refusal :=
  takeEdge (Inputs.setBayFault k active) (fun s => if active then bayFaultActive s k else s) s

/-- DISCHARGE_COMPLETE (R143). -/
def execDischargeComplete (k : BayId) (active : Bool) (s : State) : Host.Outcome State Fault Refusal :=
  takeEdge (Inputs.setDischarge k active) (fun s => if active then dischargeDone s k else s) s

/-- BUNDLE_OPEN (R126): an EMPTY bay takes the oldest entry that waits. -/
def execBundleOpen (s : State) : Host.Outcome State Fault Refusal := takeEvent offerEntry s

/-- SETTLE_EXPIRY (R136). -/
def execSettleExpiry (k : BayId) (s : State) : Host.Outcome State Fault Refusal :=
  takeEvent (fun s => settleExpire s k) s

/-- STRAPPER_TAKES_BAY (R137). -/
def execStrapperTakesBay (s : State) : Host.Outcome State Fault Refusal := takeEvent arbitrate s

/-- STRAP_COMPLETE (R138). -/
def execStrapComplete (n : Nat) (s : State) : Host.Outcome State Fault Refusal := takeEvent (strapComplete n) s

/-- STRAP_TIMEOUT (R139). -/
def execStrapTimeout (s : State) : Host.Outcome State Fault Refusal := takeEvent strapExpire s

end Sys2Proof.Machine
end

