-- ==== Sys2Proof/Machine/LineRequests.lean ====
section
/-! DEFINITION. The requests on the line state, the infeed, the moulder and the heads (10.3, 2.4, 2.7, 6.4, 6.5). -/

namespace Sys2Proof.Machine

open Sys2Proof

/-! ## The line state (R195) and the infeed hold (R37) -/

/-- The line state changes, and with it the pause condition (R195, R159, R166). -/
def setLine (v : LineState) (s : State) : State := pauseChanged (s.updLink fun l => { l with line := v })

/-- START LINE (R195). -/
def startLine (_ : List Byte) (s : State) : Reply :=
  match s.link.line with
  | .unconfigured => .error .notConfigured
  | .stopped => taken (setLine .running s)
  | .running => .error .wrongState

/-- STOP LINE (R195). -/
def stopLine (_ : List Byte) (s : State) : Reply :=
  match s.link.line with
  | .unconfigured => .error .notConfigured
  | .stopped => .error .wrongState
  | .running => taken (setLine .stopped s)

/-- HOLD INFEED (R37). -/
def holdInfeed (_ : List Byte) (s : State) : Reply := taken (setInfeedHold true s)

/-- RELEASE INFEED (R37). -/
def releaseInfeed (_ : List Byte) (s : State) : Reply := taken (setInfeedHold false s)

/-! ## Moulder runs (R29, R31, R35) -/

/-- A pending run is recorded and the moulder goes to a state (Table 2-6). -/
def recordRun (s : State) (q : PendingRun) (m : MoulderState) : State :=
  { s with moulder := { s.moulder with state := m, next := some q } }

/-- The pending run a payload carries, when its values are in range (R29, R206). -/
def pendingRunOf (p : List Byte) : Option PendingRun :=
  match setOf 4 (fieldAt p 2 1) with
  | some change =>
    let species := fieldAt p 0 1
    let profile := fieldAt p 1 1
    if within 1 63 species && within 1 15 profile then
      some { species := species, profile := profile, change := change }
    else none
  | none => none

/-- NEW RUN (R29, R30). -/
def newRun (p : List Byte) (s : State) : Reply :=
  match pendingRunOf p with
  | none => .error .badArgument
  | some q =>
    match s.moulder.state with
    | .idle => if q.change ≠ 0 then taken (recordRun s q .changeover) else taken (installRun s q)
    | .running => taken (drainTest (recordRun s q .draining))
    | .draining => .error .wrongState
    | .changeover => .error .wrongState

/-- TOOLING READY (R31). -/
def toolingReady (_ : List Byte) (s : State) : Reply :=
  match s.moulder.state, s.moulder.next with
  | .changeover, some q =>
    taken (installRun { s with moulder := allSpindles.foldl (retool q.change) s.moulder } q)
  | _, _ => .error .wrongState

/-- GET MOULDER (R35). -/
def getMoulder (_ : List Byte) (s : State) : Reply := .ok (s, moulderPayload s)

/-! ## Heads (R109, R112) -/

/-- GET HEADS (R112). -/
def getHeads (_ : List Byte) (s : State) : Reply := .ok (s, headsPayload s)

/-- CLEAR HEAD FAULT (R109). -/
def clearHeadFault (p : List Byte) (s : State) : Reply :=
  match headOfNum (fieldAt p 0 1) with
  | none => .error .badArgument
  | some h =>
    match (s.head h).state with
    | .fault => if s.inputs.headFaultAt h then .error .wrongState else taken (homeHead s h)
    | .ready => .error .wrongState
    | .homing => .error .wrongState

/-! ## The rows -/

/-- START_LINE (R195). -/
def execStartLine (p : List Byte) (s : State) : Host.Outcome State Fault Refusal :=
  takeEvent (request 0x10#8 (· = 0) startLine p) s

/-- STOP_LINE (R195). -/
def execStopLine (p : List Byte) (s : State) : Host.Outcome State Fault Refusal :=
  takeEvent (request 0x11#8 (· = 0) stopLine p) s

/-- HOLD_INFEED (R37). -/
def execHoldInfeed (p : List Byte) (s : State) : Host.Outcome State Fault Refusal :=
  takeEvent (request 0x12#8 (· = 0) holdInfeed p) s

/-- RELEASE_INFEED (R37). -/
def execReleaseInfeed (p : List Byte) (s : State) : Host.Outcome State Fault Refusal :=
  takeEvent (request 0x13#8 (· = 0) releaseInfeed p) s

/-- NEW_RUN (R29). -/
def execNewRun (p : List Byte) (s : State) : Host.Outcome State Fault Refusal :=
  takeEvent (request 0x30#8 (· = 3) newRun p) s

/-- TOOLING_READY (R31). -/
def execToolingReady (p : List Byte) (s : State) : Host.Outcome State Fault Refusal :=
  takeEvent (request 0x31#8 (· = 0) toolingReady p) s

/-- GET_MOULDER (R35). -/
def execGetMoulder (p : List Byte) (s : State) : Host.Outcome State Fault Refusal :=
  takeEvent (request 0x32#8 (· = 0) getMoulder p) s

/-- GET_HEADS (R112). -/
def execGetHeads (p : List Byte) (s : State) : Host.Outcome State Fault Refusal :=
  takeEvent (request 0x38#8 (· = 0) getHeads p) s

/-- CLEAR_HEAD_FAULT (R109). -/
def execClearHeadFault (p : List Byte) (s : State) : Host.Outcome State Fault Refusal :=
  takeEvent (request 0x39#8 (· = 1) clearHeadFault p) s

end Sys2Proof.Machine
end

