-- ==== Sys2Proof/Machine/Matcher.lean ====
section
/-! DEFINITION. The report matcher and the station link receiver (chapter 3). Frames are taken whole (log entry 9). -/

namespace Sys2Proof.Machine

open Sys2Proof

/-- The matcher's record is changed. -/
def State.updMatcher (s : State) (f : Matcher → Matcher) : State := { s with matcher := f s.matcher }

/-! ## Reception (3.1, 3.2) -/

/-- The receiver returns to HUNT with its timer stopped (R40). -/
def stationHunt (s : State) : State := s.updMatcher fun m => { m with receiving := false, frameTimer := none }

/-- A start byte in HUNT begins a frame; in RECEIVING it is data (R40). -/
def stationBegin (s : State) : State :=
  if s.matcher.receiving then s
  else s.updMatcher fun m => { m with receiving := true, frameTimer := some Config.stationFrameTime }

/-- A frame is discarded and counted (R41). -/
def stationDiscard (s : State) : State := (stationHunt s).bump .reportBadFrame

/-- The frame timer runs out before the frame is complete (R41). -/
def stationTimeout (s : State) : State := if s.matcher.receiving then stationDiscard s else s

/-- A report that passed every test joins the buffer, or is dropped under REPORT_OVERRUN (R42, R43). -/
def joinBuffer (r : Report) (s : State) : State :=
  if s.matcher.buffer.length < Config.bufferCapacity then
    s.updMatcher fun m => { m with buffer := m.buffer ++ [r], matching := true }
  else s.bump .reportOverrun

/-- A whole frame whose check value agrees: its length and entry count are tested, then it joins the buffer (R41,
R42). -/
def reportReceived (p : List Byte) (s : State) : State :=
  if reportWellFormed p then joinBuffer (readReport p) (stationHunt s) else stationDiscard s

/-! ## Matching (3.4) -/

/-- The position distance of a report and a strip. -/
def State.posDistance (s : State) (q : Report) (r : Strip) : Nat := distance q.head (s.scanTarget r)

/-- The length distance of a report and a measured length. -/
def lengthDistance (q : Report) (lm : Nat) : Nat := max q.length lm - min q.length lm

/-- A strip fits a report: both windows hold (3.4). -/
def State.fits (s : State) (q : Report) (r : Strip) : Bool :=
  match r.lm with
  | some lm => r.state ≠ .entering && s.posDistance q r ≤ s.limits.tp && lengthDistance q lm ≤ s.limits.tl
  | none => false

/-- A candidate: LINEAL or LOADED without a report part (R45). -/
def Strip.isCandidate (r : Strip) : Bool := (r.state = .lineal || r.state = .loaded) && r.report = none

/-- DECIDED or TRIMMED without a report part (R46). -/
def Strip.isLate (r : Strip) : Bool := (r.state = .decided || r.state = .trimmed) && r.report = none

/-- Any state after ENTERING with a report part (R46). -/
def Strip.isDuplicate (r : Strip) : Bool := r.state ≠ .entering && r.report.isSome

/-- The nearest of the strips, and the earlier of two equally near: the records stand in the order they entered. -/
def State.nearest (s : State) (q : Report) : List Strip → Option Strip
  | [] => none
  | r :: rest =>
    match s.nearest q rest with
    | some b => if s.posDistance q b < s.posDistance q r then some b else some r
    | none => some r

/-- A pass over the live records (R45, R46). -/
def State.pass (s : State) (q : Report) (set : Strip → Bool) : Option Strip :=
  s.nearest q (s.strips.filter fun r => set r && s.fits q r)

/-! ## Normalisation (3.5) -/

/-- An entry that passes the tests of R48 with its extent clamped; none for an entry that is discarded. -/
def normalise (lm : Nat) (e : RawEntry) : Option Defect :=
  match DefectClass.ofNum e.cls, Face.ofNum e.face with
  | some c, some f =>
    if 1 ≤ e.extent ∧ 1 ≤ e.size ∧ e.x < lm then
      some { cls := c, face := f, x := e.x, extent := min e.extent (lm - e.x), size := e.size }
    else none
  | _, _ => none

/-- The entries that survive, in report order (R48). -/
def survivors (lm : Nat) (q : Report) : List Defect := q.entries.filterMap (normalise lm)

/-- How many entries are discarded (R48). -/
def discardedCount (lm : Nat) (q : Report) : Nat := q.entries.length - (survivors lm q).length

/-- The report part of a matched report (R44, R49, R50). -/
def reportPart (lm : Nat) (q : Report) : ReportPart :=
  { moisture := min q.moisture 999
    defects := (survivors lm q).take Config.defectCapacity
    overflow := Config.defectCapacity < (survivors lm q).length
    discarded := discardedCount lm q }

/-! ## The outcomes (R47) -/

/-- MATCHED (R45, R50). -/
def matched (q : Report) (r : Strip) (s : State) : State :=
  let part := reportPart (r.lm.getD 0) q
  let s1 := (s.updStrip r.tag fun r => { r with report := some part }).bump .reportMatched
  let s2 := s1.bumpBy .defectsDiscarded part.discarded
  if part.overflow then s2.bump .reportOverflow else s2

/-- LATE (R46). -/
def lateReport (r : Strip) (s : State) : State :=
  ((s.updStrip r.tag fun r => { r with lateReport := true }).bump .reportLate).raise .reportLate

/-- The outcome of a match against the table as it stands (R45 to R47). -/
def matchOutcome (q : Report) (s : State) : State :=
  match s.pass q Strip.isCandidate with
  | some r => matched q r s
  | none =>
    match s.pass q Strip.isLate with
    | some r => lateReport r s
    | none =>
      match s.pass q Strip.isDuplicate with
      | some _ => s.bump .reportDuplicate
      | none => (s.bump .reportOrphan).raise .reportOrphan

/-- The report that has been matched leaves the buffer; the matcher takes up the next or goes IDLE (R43). -/
def leaveBuffer (s : State) : State :=
  s.updMatcher fun m => { m with buffer := m.buffer.drop 1, matching := !(m.buffer.drop 1).isEmpty }

/-- A match completes (R43); an IDLE matcher has nothing to complete (log entry 2). -/
def matchCompletion (s : State) : State :=
  if s.matcher.matching then
    match s.matcher.buffer with
    | q :: _ => leaveBuffer (matchOutcome q s)
    | [] => s
  else s

/-! ## The rows -/

/-- STATION_FRAME_BEGIN (R40). -/
def execStationFrameBegin (s : State) : Host.Outcome State Fault Refusal := takeEvent stationBegin s

/-- STATION_FRAME_DISCARDED (R41). -/
def execStationFrameDiscarded (s : State) : Host.Outcome State Fault Refusal := takeEvent stationDiscard s

/-- STATION_FRAME_TIMEOUT (R41). -/
def execStationFrameTimeout (s : State) : Host.Outcome State Fault Refusal := takeEvent stationTimeout s

/-- REPORT_RECEIVED (R42). -/
def execReportReceived (payload : List Byte) (s : State) : Host.Outcome State Fault Refusal :=
  takeEvent (reportReceived payload) s

/-- MATCH_COMPLETION (R43). -/
def execMatchCompletion (s : State) : Host.Outcome State Fault Refusal := takeEvent matchCompletion s

end Sys2Proof.Machine
end

