-- ==== Sys2Proof/Machine/Supervision.lean ====
section
/-! DEFINITION. Supervision: notices, counters, GET STATUS, the three resets and the millisecond timers (10.6 to 10.9). -/

namespace Sys2Proof.Machine

open Sys2Proof

/-! ## Notices, counters and status (R199 to R202) -/

/-- GET STATUS (R202). The payload does not yet count its own response (log entry 19). -/
def getStatus (_ : List Byte) (s : State) : Reply := .ok (s, statusPayload s)

/-- READ NOTICES: what is returned is cleared (R200, log entry 20). -/
def readNotices (_ : List Byte) (s : State) : Reply := .ok (s.updLink fun l => { l with notices := 0 }, noticesPayload s)

/-- SET NOTICE MASK (R200). -/
def setNoticeMask (p : List Byte) (s : State) : Reply :=
  match setOf 17 (fieldAt p 0 4) with
  | some m => taken (s.updLink fun l => { l with mask := m })
  | none => .error .badArgument

/-- CLEAR COUNTERS (R201); its own response is counted after it. -/
def clearCounters (_ : List Byte) (s : State) : Reply := taken { s with counters := Vector.replicate 63 0 }

/-! ## RESET TRACKING (R204) -/

/-- The strip table, the lineal tracker and the moulder (R19, R39). -/
def resetLineal (s : State) : State :=
  let s1 := { s with strips := [], lineal := { s.lineal with
    queue := [], passage := s.lineal.passage.map fun a => { a with tag := none } } }
  drainTest s1

/-- The report matcher (R54). -/
def resetMatcher (s : State) : State := s.updMatcher fun m => { m with buffer := [], matching := false }

/-- The chain tracker (R72). -/
def resetChain (s : State) : State := s.updChain fun c => { c with slots := Vector.replicate 64 .clear, load := [] }

/-- The heads and the calendar (R120). -/
def resetHeads (s : State) : State := (resetHead (resetHead s .headSide) .tailSide).clearPlanned

/-- A bundle's commitments are zeroed (R151). -/
def Bundle.uncommitted (b : Bundle) : Bundle :=
  { b with committed := 0, bands := Vector.ofFn fun i => { b.bands[i] with committed := 0 } }

/-- A bay's planned and pending drops are removed and its bundle's commitments zeroed (R151). -/
def dropCommitments (s : State) (k : BayId) : State :=
  s.updBay k fun b => { b with planned := [], pendingDrop := none, bundle := b.bundle.map Bundle.uncommitted }

/-- The bay controller: every bay first, then the completion tests (R151). -/
def resetBays (s : State) : State :=
  testBays true allBays (allBays.foldl dropCommitments s)

/-- RESET TRACKING, one step over the blocks of Table 10-11 (R204). -/
def trackingReset (s : State) : State :=
  let s1 := resetBays (resetHeads (resetChain (resetMatcher (resetLineal s))))
  s1.updLink fun l => { l with cause := .tracking }

/-- RESET TRACKING (R204). -/
def resetTracking (_ : List Byte) (s : State) : Reply := taken (trackingReset s)

/-! ## Power-on and the reset pin (R205) -/

/-- The machine's own fields and the field inputs of one state with the reset values of another (log entries 11 and
25). -/
def keepOutside (s r : State) : State :=
  { r with pending := s.pending, freeCount := s.freeCount, inputs := s.inputs }

/-- An active positioner fault input is taken as the part leaves reset (R119). -/
def faultAtReset (s : State) (h : HeadId) : State := if s.inputs.headFaultAt h then faultHead h s else s

/-- An active bay fault input raises BAY_FAULT as the part leaves reset (R205, log entry 12). -/
def bayFaultAtReset (s : State) (k : BayId) : State := if s.inputs.bayFault[k] then bayFaultActive s k else s

/-- The part leaves reset with a cause (R205). -/
def leaveReset (cause : ResetCause) (s : State) : State :=
  let s1 := (keepOutside s State.reset).updLink fun l => { l with cause := cause }
  allBays.foldl bayFaultAtReset (faultAtReset (faultAtReset s1 .headSide) .tailSide)

/-- The supply rises: the part leaves reset, or waits in reset for the pin (R205, log entry 24). -/
def powerOn (s : State) : State :=
  if s.resetPin then { (keepOutside s State.reset) with resetPin := true, supplyRisen := true, pulses := [] }
  else leaveReset .powerOn s

/-- The reset pin is released: POWER_ON when the supply has risen since the part last ran, otherwise RESET_PIN (R205). -/
def releasePin (s : State) : State := leaveReset (if s.supplyRisen then .powerOn else .resetPin) s

/-- The reset pin is asserted: no event is taken and every output is inactive until the release (R205). -/
def assertPin (s : State) : State := { s.clearPulses with resetPin := true }

/-! ## The millisecond timers (log entry 7) -/

/-- A timer counts one millisecond down. -/
def countDown (t : Option Nat) : Option Nat := t.map (· - 1)

/-- The frame timer of the line link counts one millisecond down, in tenths of a bit time (R192). -/
def countLink (t : Option Nat) : Option Nat := t.map (· - Config.linkMillisecond)

/-- A timer has run out. -/
def runOut (t : Option Nat) : Bool := t = some 0

/-- Every timer counts down. -/
def countTimers (s : State) : State :=
  { s with
    link := { s.link with frameTimer := countLink s.link.frameTimer, watchdog := countDown s.link.watchdog }
    matcher := { s.matcher with frameTimer := countDown s.matcher.frameTimer }
    strapper := { s.strapper with timer := countDown s.strapper.timer }
    bays := Vector.ofFn fun k => { s.bays[k] with settleTimer := countDown s.bays[k].settleTimer } }

/-- The bays whose settle timer has run out. -/
def State.settled (s : State) : List BayId := allBays.filter fun k => runOut (s.bay k).settleTimer

/-- One millisecond: the timers count down and those that run out expire; several settle timers expire in a free order
(log entry 8). -/
def millisecond (s : State) : State :=
  let s1 := countTimers s
  let s2 := if runOut s1.link.frameTimer then linkDeadline s1 else s1
  let s3 := if runOut s2.link.watchdog then watchdogExpire s2 else s2
  let s4 := if runOut s3.matcher.frameTimer then stationTimeout s3 else s3
  let s5 := if runOut s4.strapper.timer then strapExpire s4 else s4
  inFreeOrder s5.settled (fun k s => settleExpire s k) s5

/-- What the part does when no command waits: one millisecond passes, unless the reset pin is asserted (log entry 7). -/
def idleTick (s : State) : State := if s.resetPin then s.clearPulses else millisecond s.clearPulses

/-! ## The rows -/

/-- GET_STATUS (R202). -/
def execGetStatus (p : List Byte) (s : State) : Host.Outcome State Fault Refusal :=
  takeEvent (request 0x70#8 (· = 0) getStatus p) s

/-- READ_NOTICES (R200). -/
def execReadNotices (p : List Byte) (s : State) : Host.Outcome State Fault Refusal :=
  takeEvent (request 0x71#8 (· = 0) readNotices p) s

/-- SET_NOTICE_MASK (R200). -/
def execSetNoticeMask (p : List Byte) (s : State) : Host.Outcome State Fault Refusal :=
  takeEvent (request 0x72#8 (· = 4) setNoticeMask p) s

/-- CLEAR_COUNTERS (R201). -/
def execClearCounters (p : List Byte) (s : State) : Host.Outcome State Fault Refusal :=
  takeEvent (request 0x73#8 (· = 0) clearCounters p) s

/-- RESET_TRACKING (R204). -/
def execResetTracking (p : List Byte) (s : State) : Host.Outcome State Fault Refusal :=
  takeEvent (request 0x74#8 (· = 0) resetTracking p) s

/-- POWER_ON (R205). -/
def execPowerOn (s : State) : Host.Outcome State Fault Refusal := .next (powerOn s)

/-- RESET_PIN: the pin is released (R205). -/
def execResetPin (s : State) : Host.Outcome State Fault Refusal := .next (releasePin s)

/-- RESET_PIN_ASSERTED (R205). -/
def execResetPinAsserted (s : State) : Host.Outcome State Fault Refusal := .next (assertPin s)

end Sys2Proof.Machine
end

