-- ==== Sys2Proof/Machine/Words.lean ====
section
/-! DEFINITION. The interpreter: program words and emissions (8.4). Each word is executed by the command that names its
code (log entry 5). -/

namespace Sys2Proof.Machine

open Sys2Proof

/-- The word at the program counter. -/
def State.word (s : State) : ProgramWord := s.orders.program[s.orders.interp.pc]

/-- The interpreter may execute a word: RUNNING, an order held, no emission in progress (R160). -/
def State.executes (s : State) : Bool :=
  s.orders.interp.state = .running && s.orders.interp.order.isSome && s.orders.interp.remainder = 0

/-- The program counter moves to an address and what is left is done; address 256 faults the order (R160, log entry
17). -/
def moveTo (a : Nat) (andThen : State → State) (s : State) : State :=
  if h : a < 256 then andThen (s.updInterp fun i => { i with pc := ⟨a, h⟩ }) else faultOrder s .badAddress

/-- The address after the word at the program counter. -/
def State.nextAddress (s : State) : Nat := s.orders.interp.pc.val + 1

/-- The spin count is incremented; at 64 the order faults with SPIN (R160). -/
def spinStep (s : State) : State :=
  let s1 := s.updInterp fun i => { i with spin := i.spin + 1 }
  if s1.orders.interp.spin = Config.spinLimit then faultOrder s1 .spin else s1

/-! ## Emissions (R162, R168) -/

/-- One emission for order id (R162): an EMPTY bay may take the new entry at once (R168). -/
def emitOne (id : Nat) (s : State) : State :=
  let e : QueueEntry := { order := id, recipe := s.orders.interp.recipe }
  let s1 := s.updOrder id fun o => { o with emitted := o.emitted + 1 }
  let s2 := s1.updInterp fun i => { i with remainder := i.remainder - 1, spin := 0 }
  offerEntry { s2 with orders := { s2.orders with queue := s2.orders.queue ++ [e] } }

/-- The order's emitted count. -/
def State.emittedCount (s : State) (id : Nat) : Nat := ((s.order? id).map (·.emitted)).getD 0

/-- An emission that finds the emitted count at 65535: the order ends and ORDER_FAULT is raised (R162). -/
def endShort (s : State) : State := (endOrder s).raise .orderFault

/-- The emission of the current BUNDLE word: to its end, to a full queue, or to an emitted count of 65535 (R162, log
entry 18). -/
def emitLoop (id : Nat) : Nat → State → State
  | 0, s => s
  | fuel + 1, s =>
    if s.orders.interp.remainder = 0 then moveTo s.nextAddress (fun s => s) s
    else if Config.queueCapacity ≤ s.orders.queue.length then s.updInterp fun i => { i with state := .queueWait }
    else if s.emittedCount id = Config.emittedLimit then endShort s
    else emitLoop id fuel (emitOne id s)

/-- The emission goes on from where it stands; the remainder bounds the entries. -/
def emit (s : State) : State :=
  match s.orders.interp.order with
  | some id => emitLoop id (s.orders.interp.remainder + 1) s
  | none => s

/-- The emission may resume: entries left, a place in the queue (R162). -/
def emissionDue (s : State) : Bool :=
  (s.orders.interp.state = .running || s.orders.interp.state = .queueWait) && 0 < s.orders.interp.remainder
    && s.orders.queue.length < Config.queueCapacity

/-- A waiting emission resumes (R162). -/
def emissionResume (s : State) : State :=
  if emissionDue s then emit (s.updInterp fun i => { i with state := .running }) else s

/-! ## The words (R160 to R165) -/

/-- A count is 1 to 255 (R160). -/
def countOk (n : Nat) : Bool := 1 ≤ n && n ≤ 255

/-- A recipe index that names a defined place (R160). -/
def State.recipeAt (s : State) (n : Nat) : Option (Fin 32) :=
  if h : n < 32 then if (s.orders.recipes[n]).isSome then some ⟨n, h⟩ else none else none

/-- END (R161). -/
def endEffect (_ : ProgramWord) (s : State) : State := endOrder s

/-- BUNDLE (R160, R162). A word whose count and recipe are both bad faults BAD_CODE: R160 and Table 8-9 order the two
checks nowhere, and the model takes the count first (DESIGN CHOICE, log entry 34). -/
def bundleEffect (w : ProgramWord) (s : State) : State :=
  if countOk w.b = false then faultOrder s .badCode
  else
    match s.recipeAt w.a with
    | none => faultOrder s .badRecipe
    | some r => emit (s.updInterp fun i => { i with remainder := w.b, recipe := r })

/-- A frame is pushed on the repeat stack (R163). -/
def pushRepeat (left : Option Nat) (s : State) : State :=
  if s.orders.interp.repeats.length < Config.stackCapacity then
    let a := s.nextAddress
    moveTo a spinStep (s.updInterp fun i => { i with repeats := i.repeats ++ [{ body := a, left := left }] })
  else faultOrder s .repeatDepth

/-- REPEAT (R160, R163). -/
def repeatEffect (w : ProgramWord) (s : State) : State :=
  if countOk w.b then pushRepeat (some w.b) s else faultOrder s .badCode

/-- REPEAT_ALWAYS (R163). -/
def repeatAlwaysEffect (_ : ProgramWord) (s : State) : State := pushRepeat none s

/-- ENDREPEAT (R163). -/
def endRepeatEffect (_ : ProgramWord) (s : State) : State :=
  match s.orders.interp.repeats.getLast? with
  | none => faultOrder s .unmatchedEnd
  | some f =>
    match f.left with
    | none => moveTo f.body spinStep s
    | some n =>
      if 1 < n then
        moveTo f.body spinStep
          (s.updInterp fun i => { i with repeats := i.repeats.dropLast ++ [{ f with left := some (n - 1) }] })
      else moveTo s.nextAddress spinStep (s.updInterp fun i => { i with repeats := i.repeats.dropLast })

/-- CALL (R160, R164). -/
def callEffect (w : ProgramWord) (s : State) : State :=
  if 255 < w.b then faultOrder s .badAddress
  else if s.orders.interp.calls.length < Config.stackCapacity then
    moveTo w.b spinStep (s.updInterp fun i => { i with calls := i.calls ++ [s.nextAddress] })
  else faultOrder s .callDepth

/-- RETURN (R164). -/
def returnEffect (_ : ProgramWord) (s : State) : State :=
  match s.orders.interp.calls.getLast? with
  | none => faultOrder s .returnEmpty
  | some a => moveTo a spinStep (s.updInterp fun i => { i with calls := i.calls.dropLast })

/-- HOLD (R165). -/
def holdEffect (_ : ProgramWord) (s : State) : State :=
  moveTo s.nextAddress (fun s => s)
    ((s.updInterp fun i => { i with state := .held, spin := 0 }).raise .orderHeld)

/-- A word whose code is none of the eight (R160). -/
def unknownCodeEffect (_ : ProgramWord) (s : State) : State := faultOrder s .badCode

/-- A word row: the word at the program counter is executed when the interpreter executes and the word has the row's
code; otherwise nothing happens (log entries 2 and 5). -/
def wordRow (codes : Nat → Bool) (effect : ProgramWord → State → State) (s : State) : State :=
  if s.executes && codes s.word.code then effect s.word s else s

/-! ## The rows -/

/-- END, code 0. -/
def execEndWord (s : State) : Host.Outcome State Fault Refusal := takeEvent (wordRow (· = 0) endEffect) s

/-- BUNDLE, code 1. -/
def execBundleWord (s : State) : Host.Outcome State Fault Refusal := takeEvent (wordRow (· = 1) bundleEffect) s

/-- REPEAT, code 2. -/
def execRepeatWord (s : State) : Host.Outcome State Fault Refusal := takeEvent (wordRow (· = 2) repeatEffect) s

/-- ENDREPEAT, code 3. -/
def execEndRepeatWord (s : State) : Host.Outcome State Fault Refusal := takeEvent (wordRow (· = 3) endRepeatEffect) s

/-- REPEAT_ALWAYS, code 4. -/
def execRepeatAlwaysWord (s : State) : Host.Outcome State Fault Refusal :=
  takeEvent (wordRow (· = 4) repeatAlwaysEffect) s

/-- CALL, code 5. -/
def execCallWord (s : State) : Host.Outcome State Fault Refusal := takeEvent (wordRow (· = 5) callEffect) s

/-- RETURN, code 6. -/
def execReturnWord (s : State) : Host.Outcome State Fault Refusal := takeEvent (wordRow (· = 6) returnEffect) s

/-- HOLD, code 7. -/
def execHoldWord (s : State) : Host.Outcome State Fault Refusal := takeEvent (wordRow (· = 7) holdEffect) s

/-- UNKNOWN_CODE_WORD, codes above 7. -/
def execUnknownCodeWord (s : State) : Host.Outcome State Fault Refusal :=
  takeEvent (wordRow (7 < ·) unknownCodeEffect) s

/-- EMISSION_RESUME (R162). -/
def execEmissionResume (s : State) : Host.Outcome State Fault Refusal := takeEvent emissionResume s

/-- ORDER_TAKE_UP (R159). -/
def execOrderTakeUp (s : State) : Host.Outcome State Fault Refusal := takeEvent takeUp s

/-- INTERPRETER_RESUME (R166). -/
def execInterpreterResume (s : State) : Host.Outcome State Fault Refusal :=
  takeEvent (fun s => if resumeDue s then resumePaused s else s) s

end Sys2Proof.Machine
end

