-- ==== Sys2Proof/Machine/Dispatch.lean ====
section
/-! DEFINITION. One arm per command. -/

namespace Sys2Proof.Machine

open Sys2Proof

def exec (i : Instr) (s : State) : Host.Outcome State Fault Refusal :=
  match i with
  | .powerOn => Sys2Proof.Machine.execPowerOn s
  | .resetPin => Sys2Proof.Machine.execResetPin s
  | .linkFrameDiscarded => Sys2Proof.Machine.execLinkFrameDiscarded s
  | .linkFrameDeadline => Sys2Proof.Machine.execLinkFrameDeadline s
  | .unknownRequest c => Sys2Proof.Machine.execUnknownRequest c s
  | .responseComplete => Sys2Proof.Machine.execResponseComplete s
  | .linkWatchdogExpiry => Sys2Proof.Machine.execLinkWatchdogExpiry s
  | .setGeometry p => Sys2Proof.Machine.execSetGeometry p s
  | .setLimits p => Sys2Proof.Machine.execSetLimits p s
  | .setGradeTable p => Sys2Proof.Machine.execSetGradeTable p s
  | .setPointsTable p => Sys2Proof.Machine.execSetPointsTable p s
  | .setSpindleLimits p => Sys2Proof.Machine.execSetSpindleLimits p s
  | .setRecipe p => Sys2Proof.Machine.execSetRecipe p s
  | .setTemplate p => Sys2Proof.Machine.execSetTemplate p s
  | .setMillId p => Sys2Proof.Machine.execSetMillId p s
  | .setBay p => Sys2Proof.Machine.execSetBay p s
  | .startLine p => Sys2Proof.Machine.execStartLine p s
  | .stopLine p => Sys2Proof.Machine.execStopLine p s
  | .holdInfeed p => Sys2Proof.Machine.execHoldInfeed p s
  | .releaseInfeed p => Sys2Proof.Machine.execReleaseInfeed p s
  | .getStrip p => Sys2Proof.Machine.execGetStrip p s
  | .listStrips p => Sys2Proof.Machine.execListStrips p s
  | .amendStrip p => Sys2Proof.Machine.execAmendStrip p s
  | .purgeStrip p => Sys2Proof.Machine.execPurgeStrip p s
  | .getLug p => Sys2Proof.Machine.execGetLug p s
  | .newRun p => Sys2Proof.Machine.execNewRun p s
  | .toolingReady p => Sys2Proof.Machine.execToolingReady p s
  | .getMoulder p => Sys2Proof.Machine.execGetMoulder p s
  | .getHeads p => Sys2Proof.Machine.execGetHeads p s
  | .clearHeadFault p => Sys2Proof.Machine.execClearHeadFault p s
  | .getBay p => Sys2Proof.Machine.execGetBay p s
  | .closeBundle p => Sys2Proof.Machine.execCloseBundle p s
  | .abortBundle p => Sys2Proof.Machine.execAbortBundle p s
  | .clearBay p => Sys2Proof.Machine.execClearBay p s
  | .enableBay p => Sys2Proof.Machine.execEnableBay p s
  | .disableBay p => Sys2Proof.Machine.execDisableBay p s
  | .resetStrapper p => Sys2Proof.Machine.execResetStrapper p s
  | .loadProgram p => Sys2Proof.Machine.execLoadProgram p s
  | .addOrder p => Sys2Proof.Machine.execAddOrder p s
  | .releaseOrder p => Sys2Proof.Machine.execReleaseOrder p s
  | .cancelOrder p => Sys2Proof.Machine.execCancelOrder p s
  | .getOrder p => Sys2Proof.Machine.execGetOrder p s
  | .retireOrder p => Sys2Proof.Machine.execRetireOrder p s
  | .listLabels p => Sys2Proof.Machine.execListLabels p s
  | .fetchLabel p => Sys2Proof.Machine.execFetchLabel p s
  | .retireLabel p => Sys2Proof.Machine.execRetireLabel p s
  | .getStatus p => Sys2Proof.Machine.execGetStatus p s
  | .readNotices p => Sys2Proof.Machine.execReadNotices p s
  | .setNoticeMask p => Sys2Proof.Machine.execSetNoticeMask p s
  | .clearCounters p => Sys2Proof.Machine.execClearCounters p s
  | .resetTracking p => Sys2Proof.Machine.execResetTracking p s
  | .encoderCount => Sys2Proof.Machine.execEncoderCount s
  | .infeedEyeBlock => Sys2Proof.Machine.execInfeedEyeBlock s
  | .infeedEyeUnblock => Sys2Proof.Machine.execInfeedEyeUnblock s
  | .tailConfirmed => Sys2Proof.Machine.execTailConfirmed s
  | .passageLong => Sys2Proof.Machine.execPassageLong s
  | .moulderExit => Sys2Proof.Machine.execMoulderExit s
  | .moulderClear => Sys2Proof.Machine.execMoulderClear s
  | .drainCompletion => Sys2Proof.Machine.execDrainCompletion s
  | .lostAtTransfer => Sys2Proof.Machine.execLostAtTransfer s
  | .stationFrameDiscarded => Sys2Proof.Machine.execStationFrameDiscarded s
  | .stationFrameTimeout => Sys2Proof.Machine.execStationFrameTimeout s
  | .reportReceived p => Sys2Proof.Machine.execReportReceived p s
  | .matchCompletion => Sys2Proof.Machine.execMatchCompletion s
  | .transferClear => Sys2Proof.Machine.execTransferClear s
  | .verifyEyeBlock => Sys2Proof.Machine.execVerifyEyeBlock s
  | .lugTick => Sys2Proof.Machine.execLugTick s
  | .dropUnverified k => Sys2Proof.Machine.execDropUnverified k s
  | .inPositionActive h => Sys2Proof.Machine.execInPositionActive h s
  | .inPositionInactive h => Sys2Proof.Machine.execInPositionInactive h s
  | .homingComplete h => Sys2Proof.Machine.execHomingComplete h s
  | .positionerFault h v => Sys2Proof.Machine.execPositionerFault h v s
  | .bayConfirm k v => Sys2Proof.Machine.execBayConfirm k v s
  | .bayFaultInput k v => Sys2Proof.Machine.execBayFaultInput k v s
  | .bundleOpen => Sys2Proof.Machine.execBundleOpen s
  | .settleExpiry k => Sys2Proof.Machine.execSettleExpiry k s
  | .strapperTakesBay => Sys2Proof.Machine.execStrapperTakesBay s
  | .strapComplete n => Sys2Proof.Machine.execStrapComplete n s
  | .strapTimeout => Sys2Proof.Machine.execStrapTimeout s
  | .labelFormation => Sys2Proof.Machine.execLabelFormation s
  | .dischargeComplete k v => Sys2Proof.Machine.execDischargeComplete k v s
  | .orderTakeUp => Sys2Proof.Machine.execOrderTakeUp s
  | .endWord => Sys2Proof.Machine.execEndWord s
  | .bundleWord => Sys2Proof.Machine.execBundleWord s
  | .repeatWord => Sys2Proof.Machine.execRepeatWord s
  | .repeatAlwaysWord => Sys2Proof.Machine.execRepeatAlwaysWord s
  | .endRepeatWord => Sys2Proof.Machine.execEndRepeatWord s
  | .callWord => Sys2Proof.Machine.execCallWord s
  | .returnWord => Sys2Proof.Machine.execReturnWord s
  | .holdWord => Sys2Proof.Machine.execHoldWord s
  | .unknownCodeWord => Sys2Proof.Machine.execUnknownCodeWord s
  | .emissionResume => Sys2Proof.Machine.execEmissionResume s
  | .interpreterResume => Sys2Proof.Machine.execInterpreterResume s
  | .linkFrameBegin n => Sys2Proof.Machine.execLinkFrameBegin s n
  | .stationFrameBegin => Sys2Proof.Machine.execStationFrameBegin s
  | .resetPinAsserted => Sys2Proof.Machine.execResetPinAsserted s

end Sys2Proof.Machine
end

