-- ==== Sys2Proof/Safety.lean ====
section
/-! DEFINITION. What a safe state is: the bounds the spec gives the part's counters, tables, queues and stacks, the
uniqueness of tags, the order books, and the law of the two plunges. -/

namespace Sys2Proof.Machine

open Sys2Proof

/-- Every event counter is at most 65535 (R201). -/
def State.CountersBounded (s : State) : Prop := ∀ c : Counter, s.count c ≤ 65535

/-- The strip table, the receive buffer, the pending load list, the order table, the stacks, the recipe queue and the label
table hold at most what the spec gives them places for (R6, R42, R60, R156, R163, R164, R168,
R185). -/
structure State.WithinCapacity (s : State) : Prop where
  strips : s.strips.length ≤ 96
  buffer : s.matcher.buffer.length ≤ 4
  load : s.chain.load.length ≤ 2
  orders : s.orders.table.length ≤ 8
  calls : s.orders.interp.calls.length ≤ 4
  repeats : s.orders.interp.repeats.length ≤ 4
  queue : s.orders.queue.length ≤ 16
  labels : s.labels.table.length ≤ 16

/-- The strapper FIFO names bays in WAIT_STRAP, each once, the label-wait FIFO bays in LABEL_WAIT, each once, and the bay the
strapper serves is STRAPPING (R136, R137, R141). -/
structure State.BayQueuesSound (s : State) : Prop where
  fifoOnce : s.strapper.fifo.Nodup
  fifo : ∀ k ∈ s.strapper.fifo, (s.bay k).state = .waitStrap
  labelsOnce : s.labelWait.Nodup
  labels : ∀ k ∈ s.labelWait, (s.bay k).state = .labelWait
  current : ∀ k, s.strapper.current = some k → (s.bay k).state = .strapping

/-- How many lug ticks ago the lug of serial n stood at D. -/
def State.ticksSinceD (s : State) (n : Serial) : Nat := (s.serialAt s.geometry.d - n).toNat

/-- The entries of each plan queue are for serials that have passed D and have not reached E, the oldest first and one for
each, E is 1 to 16 beyond D, and a READY head with entries is commanded to the step of its front entry (R101, R196). -/
structure State.PlansInWindow (s : State) : Prop where
  geometry : s.geometry.d < s.geometry.e ∧ s.geometry.e ≤ s.geometry.d + 16
  ahead : ∀ h : HeadId, ∀ e ∈ (s.head h).plan, s.ticksSinceD e.serial < s.geometry.e - s.geometry.d
  oldestFirst : ∀ h : HeadId, (s.head h).plan.Pairwise fun a b => s.ticksSinceD b.serial < s.ticksSinceD a.serial
  commanded : ∀ h : HeadId, (s.head h).state = .ready → ∀ e ∈ (s.head h).plan.head?, e.step = (s.head h).commanded

/-- The planned drops of each bay are of serials that have passed D and have not reached the bay, the oldest first and one
for each, and the bay stands 1 to 48 beyond D (R128, R129, R196). -/
structure State.PlannedInWindow (s : State) : Prop where
  geometry : ∀ k : BayId, s.geometry.d < s.bayOffset k ∧ s.bayOffset k ≤ s.geometry.d + 48
  ahead : ∀ k : BayId, ∀ e ∈ (s.bay k).planned, s.ticksSinceD e.serial < s.bayOffset k - s.geometry.d
  oldestFirst : ∀ k : BayId, (s.bay k).planned.Pairwise fun a b => s.ticksSinceD b.serial < s.ticksSinceD a.serial

/-- No two live records carry the same tag, the table is within its capacity, and the tag counter is 1 to 65535 (R5,
R6). -/
structure State.TagsUnique (s : State) : Prop where
  tags : (s.strips.map (·.tag)).Nodup
  strips : s.strips.length ≤ 96
  counterLow : 1 ≤ s.lineal.tagCounter
  counterHigh : s.lineal.tagCounter ≤ 65535

/-- The order books (R158): ids are unique; every queue entry names a live order that is neither COMPLETE nor CANCELLED;
each order's emitted count is its queued plus its opened plus its withdrawn count; the run list names LOADED orders, each
once; the order the interpreter holds is ACTIVE or FAULTED. -/
structure State.BooksBalance (s : State) : Prop where
  ids : (s.orders.table.map (·.id)).Nodup
  queued : ∀ e ∈ s.orders.queue, ∃ o, s.order? e.order = some o ∧ o.state ≠ .complete ∧ o.state ≠ .cancelled
  balance : ∀ o ∈ s.orders.table, o.emitted = s.queuedCount o.id + o.opened + o.withdrawn
  runOnce : s.orders.runList.Nodup
  loaded : ∀ id ∈ s.orders.runList, ∃ o, s.order? id = some o ∧ o.state = .loaded
  held : ∀ id, s.orders.interp.order = some id → ∃ o, s.order? id = some o ∧ (o.state = .active ∨ o.state = .faulted)

/-- One plunge output pulses when and only when the other does (R104). -/
def State.PlungesTogether (s : State) : Prop :=
  Pulse.plunge .headSide ∈ s.pulses ↔ Pulse.plunge .tailSide ∈ s.pulses

/-- The outputs of the part are inactive (R205). -/
structure State.OutputsInactive (s : State) : Prop where
  gate : s.gateOpen = false
  attention : s.attn = false
  strap : s.strapCommand = none
  discharge : ∀ k : BayId, s.dischargeOutput k = false
  transmitter : s.transmitting = false
  pulses : s.pulses = []

end Sys2Proof.Machine
end

