-- ==== Sys2Proof/Certificates/Slice0/Obligations.lean ====
section
/-! DEFINITION. What the model claims of the spec. -/

open Sys2Proof Sys2Proof.Machine

namespace Sys2Proof.Claims

/-- The state in which an event finds the part: the old pulses over, the homings completed before it in the past. -/
def entered (s : State) : State := { s with pulses := [], homed := [] }

/-- A request frame with this payload is received: outside reset, not in ANSWERING, of a length a frame may have. -/
def Receives (s : State) (p : List Byte) : Prop :=
  s.resetPin = false ∧ s.link.receiver ≠ .answering ∧ p.length ≤ 600

/-- The state in which the owning block finds the part: the request heard. -/
def found (s : State) : State := heard (entered s)

/-- `h` with the response OK and its payload being sent, and counted. -/
def okOf (code : Byte) (payload : List Byte) (h : State) : State :=
  { h with
    link := { h.link with receiver := .answering, frameTimer := none
                          response := some { code := code, status := .ok, payload := payload } }
    counters := h.counters.set Counter.linkAnsweredOk.idx (min 65535 (h.count .linkAnsweredOk + 1)) }

/-- `h` with a refusal being sent, and counted. -/
def refusedOf (code : Byte) (status : Status) (h : State) : State :=
  { h with
    link := { h.link with receiver := .answering, frameTimer := none
                          response := some { code := code, status := status, payload := [] } }
    counters := h.counters.set Counter.linkRefused.idx (min 65535 (h.count .linkRefused + 1)) }

/-- The payload of SET GEOMETRY (Table 11-3). -/
def geometryBytes (g : Geometry) : List Byte :=
  toBytes 2 g.dm ++ toBytes 2 g.ds ++ toBytes 2 g.dt ++ toBytes 1 g.v ++ toBytes 1 g.d ++ toBytes 1 g.e
    ++ g.bays.toList.flatMap (toBytes 1) ++ toBytes 1 g.x

/-- The bounds of R196. -/
structure GeometryBounds (g : Geometry) : Prop where
  dm : 2900 ≤ g.dm
  ds : g.dm + 100 ≤ g.ds
  dt : g.ds + 100 ≤ g.dt ∧ g.dt ≤ 65535 ∧ g.dm + 1001 ≤ g.dt
  chain : 1 ≤ g.v ∧ g.v < g.d ∧ g.d < g.e ∧ g.e - g.d ≤ 16 ∧ g.x ≤ 63
  bays : ∀ k : BayId, g.e < g.bays[k] ∧ g.bays[k] < g.x ∧ g.bays[k] ≤ g.d + 48
  distinct : ∀ j k : BayId, j ≠ k → g.bays[j] ≠ g.bays[k]

/-- The payload of SET LIMITS (Table 11-3). -/
def limitsBytes (l : Limits) : List Byte :=
  toBytes 2 l.moisture ++ toBytes 1 l.speed ++ toBytes 1 l.lpark ++ toBytes 1 l.boost ++ toBytes 1 l.zone
    ++ toBytes 2 l.tp ++ toBytes 1 l.tl ++ toBytes 2 l.tt ++ toBytes 1 l.window ++ toBytes 1 l.air
    ++ toBytes 2 l.strapTimeout ++ toBytes 2 l.watchdog

/-- The ranges of Table 10-7. -/
structure LimitsRanges (l : Limits) : Prop where
  moisture : 50 ≤ l.moisture ∧ l.moisture ≤ 300
  speed : 1 ≤ l.speed ∧ l.speed ≤ 7
  lpark : 8 ≤ l.lpark ∧ l.lpark ≤ 63
  boost : l.boost ≤ 15
  zone : l.zone ≤ 200
  tp : l.tp ≤ 1000
  tl : l.tl ≤ 100
  tt : 1 ≤ l.tt ∧ l.tt ≤ 1000
  window : 1 ≤ l.window ∧ l.window ≤ 16
  air : 1 ≤ l.air ∧ l.air ≤ 32
  strapTimeout : 1000 ≤ l.strapTimeout ∧ l.strapTimeout ≤ 60000
  watchdog : l.watchdog = 0 ∨ (100 ≤ l.watchdog ∧ l.watchdog ≤ 10000)

/-- A grade entry as SET GRADE TABLE carries it. -/
def gradeBytes (g : GradeEntry) : List Byte :=
  toBytes 1 (if g.enabled then 1 else 0) ++ toBytes 2 g.dmax ++ toBytes 1 g.forbidden.toNat ++ toBytes 2 g.price

/-- A class entry as SET POINTS TABLE carries it. -/
def pointsBytes (c : ClassPoints) : List Byte :=
  toBytes 1 c.s1 ++ toBytes 1 c.s2 ++ toBytes 1 c.s3 ++ toBytes 1 c.p0 ++ toBytes 1 c.p1 ++ toBytes 1 c.p2 ++ toBytes 1 c.p3
    ++ toBytes 1 (if c.endSensitive then 1 else 0)

/-- The bounds of R95. -/
def PointsBounds (c : ClassPoints) : Prop :=
  1 ≤ c.s1 ∧ c.s1 < c.s2 ∧ c.s2 < c.s3 ∧ c.s3 ≤ 255 ∧ c.p0 ≤ 255 ∧ c.p1 ≤ 255 ∧ c.p2 ≤ 255 ∧ c.p3 ≤ 255

/-- The payload of SET SPINDLE LIMITS for a warn and a limit of each spindle, the derates and the caps. -/
def spindleBytes (w l : SpindleId → Nat) (top bottom : Nat) (tongue groove : Grade) : List Byte :=
  toBytes 4 (w .top) ++ toBytes 4 (l .top) ++ toBytes 4 (w .bottom) ++ toBytes 4 (l .bottom)
    ++ toBytes 4 (w .tongue) ++ toBytes 4 (l .tongue) ++ toBytes 4 (w .groove) ++ toBytes 4 (l .groove)
    ++ toBytes 1 top ++ toBytes 1 bottom ++ toBytes 1 tongue.num ++ toBytes 1 groove.num

/-- The payload of SET RECIPE (Table 11-3). -/
def recipePayload (i : Fin 32) (r : Recipe) : List Byte :=
  toBytes 1 i.val ++ toBytes 1 r.species ++ toBytes 1 r.profile ++ toBytes 1 r.width ++ toBytes 1 r.grades.toNat
    ++ toBytes 1 r.target ++ r.quotas.toList.flatMap (toBytes 1) ++ toBytes 1 r.template.val

/-- The ranges of Table 8-1. -/
structure RecipeRanges (r : Recipe) : Prop where
  species : 1 ≤ r.species ∧ r.species ≤ 63
  profile : 1 ≤ r.profile ∧ r.profile ≤ 15
  width : 40 ≤ r.width ∧ r.width ≤ 200
  grades : r.grades ≠ 0
  target : 1 ≤ r.target ∧ r.target ≤ 64
  quotas : ∀ i : Fin 12, r.quotas[i] ≤ 64
  room : r.target ≤ r.quotas.toList.sum

/-- A byte a template may hold (Table 9-1). -/
def AllowedByte (b : Byte) : Prop :=
  (0x20 ≤ b.toNat ∧ b.toNat ≤ 0x7E) ∨ b = 0x0A#8 ∨ (0x80 ≤ b.toNat ∧ b.toNat ≤ 0x8D)

/-- No drain is in progress and no LINEAL strip is past its transfer deadline: a retirement has no further
consequences (R27, R30). -/
def Quiet (s : State) : Prop :=
  s.moulder.state ≠ .draining ∧ ∀ r ∈ s.strips, r.state = .lineal → passed s.lineal.p (s.transferLast r) = false

/-- A record as the head edge creates it (R1). -/
def created (s : State) (tag : Nat) : Strip :=
  { tag := tag, state := .entering, head := s.lineal.p, lm := none, size := .normal, run := s.moulder.current
    stamp := none, serial := none, doubled := false, report := none, decision := none, override := none
    lateReport := false, dropPending := false }

/-- The payload of NEW RUN (Table 11-3). -/
def runBytes (q : PendingRun) : List Byte := toBytes 1 q.species ++ toBytes 1 q.profile ++ toBytes 1 q.change.toNat

/-- The run that a pending run becomes (R28). -/
def installed (s : State) (q : PendingRun) : Run :=
  { number := if s.moulder.current.number = 255 then 1 else s.moulder.current.number + 1
    species := q.species, profile := q.profile }

/-- The lug tick as it begins: the serial advanced, the calendar's oldest entry cleared (R55, R114). -/
def ticked (s : State) : State :=
  { entered s with
    chain := { s.chain with serial := s.chain.serial + 1 }
    calendar := s.calendar.set (ringIdx (s.chain.serial + 1 - 16)) { planned := 0, made := 0 } }

/-- The serial of the lug that the next tick brings to offset k. -/
def lugAt (s : State) (k : Nat) : Serial := s.chain.serial + 1 - BitVec.ofNat 32 k

/-- A chain with the spec's geometry on which nothing but the lug that the next tick brings to offset k may carry wood,
and no bay but the one of `dropping` has a planned or pending drop; no homing has been completed right before. -/
structure AloneAt (s : State) (k : Nat) (dropping : Option BayId) : Prop where
  homed : s.homed = []
  geometry : GeometryBounds s.geometry
  slots : ∀ m : Serial, ringIdx m ≠ ringIdx (lugAt s k) → s.slot m = { kind := .empty, named := [] }
  bays : ∀ j : BayId, some j ≠ dropping → (s.bay j).planned = [] ∧ (s.bay j).pendingDrop = none

/-- No head meets the park test for the lug that the next tick brings to D (R80). -/
def NoPark (s : State) : Prop :=
  ∀ h : HeadId, (s.head h).state = .ready → ∀ ref, (s.head h).reference = some ref →
    (lugAt s s.geometry.d - ref.serial).toNat < s.limits.lpark

/-- The plan queues are empty and no head parks at the next tick. -/
def HeadsIdle (s : State) : Prop := NoPark s ∧ ∀ h : HeadId, (s.head h).plan = []

/-- A lug tick that loads nothing and at which nothing else happens. -/
def bareTick (s : State) : State :=
  { ticked s with
    chain := { s.chain with
      serial := s.chain.serial + 1
      slots := s.chain.slots.set (ringIdx (lugAt s 0)) { kind := .empty, named := [] } } }

/-- The front entry of a plan queue when it is for serial n (R103). -/
def frontOn (r : Head) (n : Serial) : Option PlanEntry := r.plan.head?.filter fun e => e.serial = n

/-- A head after the end-match tick for serial n: its front entry for n is the last executed one, and a READY head is sent
the step of the next entry when that differs from the commanded step (R100, R101, R103). -/
def tookFront (r : Head) (n : Serial) : Head :=
  match frontOn r n with
  | none => r
  | some e =>
    let q := { r with plan := r.plan.drop 1, executed := some e }
    match r.state, q.plan with
    | .ready, f :: _ => if f.step = r.commanded then q else { q with commanded := f.step, inPosition := false }
    | _, _ => q

/-- A head to which an entry has been handed: the entry is the newest and the reference, and a READY head with an empty
queue is sent its step when that differs from the commanded step (R90, R100, R101, R102). -/
def handed (r : Head) (e : PlanEntry) : Head :=
  let q := { r with plan := r.plan ++ [e], reference := some { step := e.step, serial := e.serial } }
  if r.state = .ready ∧ r.plan = [] ∧ e.step ≠ r.commanded then { q with commanded := e.step, inPosition := false } else q

/-- A head after the park test for the lug that the next tick brings to D: a READY head whose reference is Lpark or more
behind is handed a park (R80). -/
def parked (s : State) (h : HeadId) : Head :=
  match (s.head h).state, (s.head h).reference with
  | .ready, some ref =>
    if s.limits.lpark ≤ (lugAt s s.geometry.d - ref.serial).toNat then
      handed (s.head h) { serial := lugAt s s.geometry.d, step := 0, plunge := false }
    else s.head h
  | _, _ => s.head h

/-- The strobe of a head whose commanded step has changed (R100). -/
def strobe (h : HeadId) (before after : Head) : List Pulse :=
  if after.commanded = before.commanded then [] else [.step h after.commanded]

/-- A head whose homing came together with the next tick when it is one of `heads`: READY, with reference step 0 at the
serial of the lug that the tick brings to D (R76). -/
def homedWith (s : State) (heads : List HeadId) (h : HeadId) : Head :=
  if h ∈ heads ∧ (s.head h).state = .ready then
    { s.head h with reference := some { step := 0, serial := lugAt s s.geometry.d } }
  else s.head h

/-- The counts of a bundle after the resolution of an attached drop of the chosen option c (R130). -/
def resolved (b : Bundle) (c : Choice) (confirmed : Bool) : Bundle :=
  let band := b.bands[bandIdx c.band]
  let one := fun v : Bool => if v then 1 else 0
  { b with
    committed := b.committed - 1
    deposited := b.deposited + one confirmed
    unverified := b.unverified + one !confirmed
    bands := b.bands.set (bandIdx c.band) { committed := band.committed - 1
                                            deposited := band.deposited + one confirmed
                                            unverified := band.unverified + one !confirmed }
    gradeCounts := b.gradeCounts.set (gradeIdx c.grade) (b.gradeCounts[gradeIdx c.grade] + 1)
    length := b.length + c.lf
    uncertain := b.uncertain || !confirmed }

/-- Bay k of t comes to hold `bay` with the bundle record b and applies its completion test, where that does not close the
bundle empty (R133, Table 7-4). -/
def tested (t : State) (k : BayId) (bay : Bay) (b : Bundle) : State :=
  let put := fun r : Bay => { t with bays := t.bays.set k r }
  let settles := fun b : Bundle => put { bay with
    state := .settling, origin := none, settleTimer := some bay.settleTime, bundle := some b }
  let total := b.deposited + b.unverified
  if bay.state ≠ .filling ∨ 0 < b.committed ∨ (total ≠ b.copy.target ∧ b.closing = false) then
    put { bay with bundle := some b }
  else if total = b.copy.target then settles b
  else State.bump (settles { b with short := true }) .bundlesShort

/-- The completion test closes the bundle empty: FILLING, no commitment, no strip, closing (Table 7-4); a target is 1 or more
(Table 8-1). -/
def ClosesEmpty (bay : Bay) (b : Bundle) : Prop :=
  bay.state = .filling ∧ b.committed = 0 ∧ b.deposited = 0 ∧ b.unverified = 0 ∧ b.closing = true ∧ 0 < b.copy.target

/-- u after a bundle of order id has closed empty: the order counts it, and with its last bundle ended it becomes COMPLETE
when it is EMITTED and no entry of it is queued, or is marked settled when it is CANCELLED and not marked yet, either one
noticed (R133, R171). -/
def emptyClosed (u : State) (id : Nat) : State :=
  let last := fun o : Order => decide (o.opened = o.labelled + o.aborted + (o.closedEmpty + 1))
  let completes := (u.order? id).any fun o =>
    decide (o.state = .emitted) && last o && u.orders.queue.all fun e => decide (e.order ≠ id)
  let settles := (u.order? id).any fun o => decide (o.state = .cancelled) && last o && !o.settled
  let t := State.bump { u with orders := { u.orders with table := u.orders.table.map fun x => if x.id = id then { x with
    closedEmpty := x.closedEmpty + 1
    state := if completes then .complete else x.state
    settled := x.settled || settles } else x } } .bundlesClosedEmpty
  let told := if completes then t.bump .ordersCompleted else t
  if completes || settles then told.raise .orderComplete else told

/-- A bundle serial from 1 to 999999 that no bundle of another bay and no label record carries (R125). -/
def FreshSerial (v : State) (k : BayId) (serial : Nat) : Prop :=
  1 ≤ serial ∧ serial ≤ 999999 ∧ (∀ j b, j ≠ k → (v.bay j).bundle = some b → b.serial ≠ serial) ∧
    ∀ r ∈ v.labels.table, r.bundle ≠ serial

/-- v after bay k, with the record `bay` before, has entered EMPTY and taken the oldest entry e, of the order whose record is
o: a bundle with this serial is opened, and a QUEUE_WAIT interpreter goes on (R126, R162). -/
def entryTaken (v : State) (k : BayId) (bay : Bay) (e : QueueEntry) (rest : List QueueEntry) (copy : Recipe) (o : Order)
    (serial : Nat) : State :=
  State.bump { v with
    bays := v.bays.set k { bay with
      state := .filling, origin := none, settleTimer := none, starved := false
      bundle := some (newBundle serial e.order e.recipe copy (o.opened + 1)) }
    bundleSerial := if serial = 999999 then 1 else serial + 1
    orders := { v.orders with
      queue := rest
      table := v.orders.table.map fun x => if x.id = e.order then { x with opened := x.opened + 1 } else x
      interp := if v.orders.interp.state = .queueWait then { v.orders.interp with state := .running }
        else v.orders.interp } } .bundlesOpened

/-- t is v after bay k, with the record `bay` before, has entered EMPTY: with no entry waiting it is EMPTY and starved,
RECIPE_STARVED raised once for the stay, and otherwise it takes the oldest entry in the same step (R126). That the order of
the entry has no more ended bundles than opened ones, that the serial counter is in its range and that the label table holds
16 records or fewer are invariants of the machine. -/
def EntersEmpty (v : State) (k : BayId) (bay : Bay) (t : State) : Prop :=
  let starved := { v with bays := v.bays.set k { bay with
    state := .empty, origin := none, bundle := none, settleTimer := none, starved := true } }
  (v.orders.queue = [] → t = if bay.starved then starved else starved.raise .recipeStarved) ∧
  ∀ e rest copy o, v.orders.queue = e :: rest → v.orders.recipes[e.recipe] = some copy → v.order? e.order = some o →
    o.labelled + o.aborted + o.closedEmpty ≤ o.opened → 1 ≤ v.bundleSerial → v.bundleSerial ≤ 999999 →
    v.labels.table.length ≤ 16 → ∃ serial, FreshSerial v k serial ∧ t = entryTaken v k bay e rest copy o serial

/-- t is u after bay k has come to hold `bay` with the bundle record b and has applied its completion test (R133). -/
def AfterTest (u : State) (k : BayId) (bay : Bay) (b : Bundle) (t : State) : Prop :=
  (¬ ClosesEmpty bay b → t = tested u k bay b) ∧
  (ClosesEmpty bay b → EntersEmpty (emptyClosed u b.order) k bay t)

/-- A bundle record whose commitment of a strip of the chosen option c has been released (R128). -/
def without (b : Bundle) (c : Choice) : Bundle :=
  let band := b.bands[bandIdx c.band]
  { b with
    committed := b.committed - 1
    bands := b.bands.set (bandIdx c.band) { band with committed := band.committed - 1 } }

/-- A program word as LOAD PROGRAM carries it (Table 11-4). -/
def wordBytes (w : ProgramWord) : List Byte := toBytes 1 w.code ++ toBytes 1 w.a ++ toBytes 2 w.b

/-- The interpreter executes words of order id: RUNNING, outside reset, no emission in progress (R160). -/
def Executes (s : State) (id : Nat) : Prop :=
  s.resetPin = false ∧ s.orders.interp.state = .running ∧ s.orders.interp.order = some id ∧
    s.orders.interp.remainder = 0

/-- The state of a word row's command with its interpreter replaced. -/
def interpreter (s : State) (i : Interpreter) : State := { entered s with orders := { s.orders with interp := i } }

/-- The fault of the held order (R167). -/
def orderFaulted (s : State) (id : Nat) (code : FaultCode) : State :=
  State.bump (State.raise { entered s with orders := { s.orders with
    table := s.orders.table.map fun o => if o.id = id then { o with state := .faulted, faultCode := some code } else o
    interp := { s.orders.interp with state := .faulted } } } .orderFault) .orderFaults

/-- An interpreter that has given up its order (R161). -/
def gaveUp (i : Interpreter) : Interpreter :=
  { i with state := .idle, order := none, calls := [], repeats := [], remainder := 0, spin := 0 }

/-- An interpreter that has taken up an order (R159). -/
def tookUp (i : Interpreter) (id : Nat) (start : Fin 256) : Interpreter :=
  { i with state := .running, order := some id, pc := start, calls := [], repeats := [], remainder := 0, spin := 0 }

/-- u with order id, whose record is o, ended: COMPLETE, noticed and counted, when none of its entries is queued and every
bundle it opened has ended, and otherwise EMITTED; the interpreter has given it up (R161, R171). -/
def ended (u : State) (id : Nat) (o : Order) : State :=
  let complete := o.labelled + o.aborted + o.closedEmpty = o.opened ∧ ∀ e ∈ u.orders.queue, e.order ≠ id
  let t := { u with orders := { u.orders with
    table := u.orders.table.map fun x => if x.id = id then
      { x with state := if complete then .complete else .emitted } else x
    interp := gaveUp u.orders.interp } }
  if complete then (t.raise .orderComplete).bump .ordersCompleted else t

/-- u after the interpreter has taken up order id, the front of a run list that goes on with `rest` (R159). -/
def takenUp (u : State) (id : Nat) (rest : List Nat) (start : Fin 256) : State :=
  { u with orders := { u.orders with
    table := u.orders.table.map fun x => if x.id = id then { x with state := .active } else x
    runList := rest
    interp := tookUp u.orders.interp id start } }

/-- What the end of an order leaves, outside a pause: t, or with a run list its front order taken up (R161, R159). -/
def FrontTaken (t : State) (p : State → Prop) : Prop :=
  (t.orders.runList = [] → p t) ∧
  ∀ id rest o, t.orders.runList = id :: rest → t.link.line = .running → t.link.hold = false → t.order? id = some o →
    p (takenUp t id rest o.start)

/-- s with the wood on the line forgotten at RESET TRACKING, before the bays apply their completion tests: no strip, report,
lug slot, load entry, plan entry, planned start, planned or pending drop and commitment is left; a drain completes, the READY
heads go to HOMING with step 0 sent, and the cause is recorded. Everything else is as the request finds it (R19, R39, R54,
R72, R98, R120, R151, R176, R191, R204). -/
def forgotten (s : State) : State :=
  let home := fun r : Head => if r.state = .ready then
    { r with state := .homing, commanded := 0, inPosition := false, plan := [], reference := none } else { r with plan := [] }
  let sent := fun h : HeadId => if (s.head h).state = .ready then [Pulse.step h 0] else []
  let uncommitted := fun b : Bundle => { b with
    committed := 0, bands := Vector.ofFn fun j => { b.bands[j] with committed := 0 } }
  { found s with
    strips := []
    lineal := { s.lineal with queue := [], passage := s.lineal.passage.map fun a => { a with tag := none } }
    matcher := { s.matcher with buffer := [], matching := false }
    chain := { s.chain with slots := Vector.replicate 64 { kind := .empty, named := [] }, load := [] }
    moulder := match s.moulder.state, s.moulder.next with
      | .draining, some q => if q.change = 0 then
          { s.moulder with state := .running, current := installed s q, next := none }
        else { s.moulder with state := .changeover }
      | _, _ => s.moulder
    headSide := home s.headSide
    tailSide := home s.tailSide
    pulses := sent .headSide ++ sent .tailSide
    calendar := Vector.ofFn fun i => { s.calendar[i] with planned := 0 }
    bays := Vector.ofFn fun k => { s.bays[k] with
      planned := [], pendingDrop := none, bundle := s.bays[k].bundle.map uncommitted }
    link := { (found s).link with cause := .tracking } }

/-- t differs from u at most in its bays, the order table, the recipe queue, the interpreter, the bundle serial counter, the
notices RECIPE_STARVED and ORDER_COMPLETE, of which none is lost, and the counters named. -/
structure KeptBut (counters : List Counter) (u t : State) : Prop where
  frame : t = { u with
    bays := t.bays, bundleSerial := t.bundleSerial, counters := t.counters, link := { u.link with notices := t.link.notices }
    orders := { u.orders with table := t.orders.table, queue := t.orders.queue, interp := t.orders.interp } }
  noneLost : ∀ n, u.isPending n = true → t.isPending n = true
  noneElse : ∀ n, n ≠ .recipeStarved → n ≠ .orderComplete → t.isPending n = u.isPending n
  counts : ∀ c, c ∉ counters → t.count c = u.count c

/-- The state at the next encoder count, before its position events (R20). -/
def nextCount (s : State) : State := { entered s with lineal := { s.lineal with p := s.lineal.p + 1 } }

/-- x with every spindle's record w become f i w, and its state formed again: a spindle that has become WORN or SPENT takes
the mark, and a mark that was clear raises its notice (R32). -/
def respun (x : State) (f : SpindleId → Spindle → Spindle) : State :=
  let old := fun i => f i (x.moulder.spindle i)
  let new := fun i => let w := old i
    { w with worn := w.worn || decide (w.warn ≤ w.wear)
             spent := w.spent || decide (w.warn ≤ w.wear ∧ w.limit ≤ w.wear) }
  let raised := fun (n : Notice) (mark : Spindle → Bool) =>
    if ∃ i ∈ allSpindles, mark (old i) = false ∧ mark (new i) = true then n.bit else 0
  { x with
    moulder := { x.moulder with top := new .top, bottom := new .bottom, tongue := new .tongue, groove := new .groove }
    link := { x.link with
      notices := x.link.notices ||| raised .spindleWorn (·.worn) ||| raised .spindleSpent (·.spent) } }

/-- x after the moulder exit of the strip with this tag and length: the stamp from the spindles as they stand is written,
and then the length is added to the four wear counters (R25, R32, R34). -/
def exited (x : State) (tag lm : Nat) : State :=
  let m := x.moulder
  let worn := fun i => decide ((m.spindle i).warn ≤ (m.spindle i).wear)
  let stamp : WearStamp :=
    { derate := (if worn .top then m.derateTop else 0) + (if worn .bottom then m.derateBottom else 0)
      cap := Grade.worse (if worn .tongue then m.capTongue else .g1) (if worn .groove then m.capGroove else .g1) }
  respun { x with strips := x.strips.map fun r => if r.tag = tag then { r with stamp := some stamp } else r }
    fun _ w => { w with wear := min 4294967295 (w.wear + lm) }

/-- A millisecond later, before any expiry: each running timer is one less, the link frame timer by 4608 tenths of a bit
time (log entry 7). -/
def aged (s : State) : State :=
  let less := fun (n : Nat) (t : Option Nat) => t.map (· - n)
  { entered s with
    link := { s.link with frameTimer := less 4608 s.link.frameTimer, watchdog := less 1 s.link.watchdog }
    matcher := { s.matcher with frameTimer := less 1 s.matcher.frameTimer }
    strapper := { s.strapper with timer := less 1 s.strapper.timer }
    bays := Vector.ofFn fun k => { s.bays[k] with settleTimer := less 1 s.bays[k].settleTimer } }

/-- The commands taken in turn from s, each to its next state. -/
def inTurn (rows : List Instr) (s : State) : State :=
  rows.foldl (fun s c => match exec c s with
    | .next t => t
    | _ => s) s

end Sys2Proof.Claims

open Sys2Proof.Claims

/-! ## The machine -/

/-- One step takes the command at the front of the queue and is that command's meaning on the state with the queue's
rest (log entry 1). With no command waiting and the reset pin released, a step is a millisecond (log entry 7: the model's
choice of what an empty queue does): the running timers count down, and those that run out expire as their rows do, which
are LINK_FRAME_DEADLINE, LINK_WATCHDOG_EXPIRY, STATION_FRAME_TIMEOUT, STRAP_TIMEOUT and SETTLE_EXPIRY, in that order
(R192, R203, R41, R139, R136); several settle timers of one millisecond expire in an order that is left free (log entry 8).
With no timer running it ends the old pulses and changes nothing else; with the reset pin asserted no time passes (log entry
7). -/
def Obligations.StepRunsFrontCommand : Prop :=
  ∀ s : State,
    (∀ (c : Instr) (rest : List Instr), s.pending = c :: rest → step s = exec c { s with pending := rest }) ∧
    (s.pending = [] → s.resetPin = false → s.link.frameTimer = none → s.link.watchdog = none →
      s.matcher.frameTimer = none → s.strapper.timer = none → (∀ k : BayId, (s.bay k).settleTimer = none) →
      step s = .next (entered s)) ∧
    (s.pending = [] → s.resetPin = true → step s = .next (entered s)) ∧
    (s.pending = [] → s.resetPin = false →
      let t := aged s
      let due := fun (timer : Option Nat) (row : Instr) => if timer = some 0 then [row] else []
      ∃ settling : List BayId, settling.Perm (allBays.filter fun k => (t.bay k).settleTimer = some 0) ∧
        step s = .next { inTurn
          (due t.link.frameTimer .linkFrameDeadline ++ due t.link.watchdog .linkWatchdogExpiry ++
            due t.matcher.frameTimer .stationFrameTimeout ++ due t.strapper.timer .strapTimeout ++
            settling.map .settleExpiry) t with freeCount := s.freeCount + (settling.length - 1) })

/-- Every command answers a next state, on every state: no rule of the spec stops the part. In that state one plunge output
has pulsed when and only when the other has (R104). -/
def Obligations.EveryCommandCompletes : Prop :=
  ∀ (c : Instr) (s : State), ∃ t, exec c s = .next t ∧ t.PlungesTogether

/-! ## Resets (10.9) -/

/-- The values after power-on that the spec states: the line link, the counters, the infeed and the moulder with its
spindles, derates and caps, the geometry, limits, grade and points tables, the station link, the chain, the heads with the two
step 0 strobes, the calendar, the bays, the strapper, the orders and the labels. -/
def Obligations.ResetLeavesStatedValues : Prop :=
  let s := State.reset
  s.link.line = .unconfigured ∧ s.link.hold = false ∧ s.link.notices = 0 ∧ s.link.mask = 0 ∧ s.link.receiver = .hunt ∧
    s.link.cause = .powerOn ∧ s.link.frameTimer = none ∧ s.link.watchdog = none ∧ s.link.response = none ∧
    s.attn = false ∧ s.gateOpen = false ∧ (∀ c : Counter, s.count c = 0) ∧
    s.lineal.p = 0 ∧ s.lineal.passage = none ∧ s.lineal.queue = [] ∧ s.lineal.tagCounter = 1 ∧
    s.lineal.infeedHold = false ∧ s.strips = [] ∧
    s.moulder.state = .idle ∧ s.moulder.current = { number := 255, species := 1, profile := 1 } ∧ s.moulder.next = none ∧
    (∀ i : SpindleId, s.moulder.spindle i =
      { wear := 0, warn := 20000000, limit := 25000000, worn := false, spent := false }) ∧
    s.moulder.derateTop = 4 ∧ s.moulder.derateBottom = 2 ∧ s.moulder.capTongue = .g3 ∧ s.moulder.capGroove = .g3 ∧
    s.grades = #v[{ enabled := true, dmax := 6, forbidden := 0x5E#8, price := 900 },
      { enabled := true, dmax := 14, forbidden := 0x4C#8, price := 700 },
      { enabled := true, dmax := 30, forbidden := 0x40#8, price := 520 },
      { enabled := true, dmax := 80, forbidden := 0#8, price := 360 }] ∧
    s.points.map (fun c => ([c.s1, c.s2, c.s3, c.p0, c.p1, c.p2, c.p3], c.endSensitive)) =
      #v[([5, 10, 20, 0, 2, 4, 8], false), ([3, 8, 15, 2, 6, 10, 20], false), ([10, 30, 60, 8, 16, 30, 60], true),
        ([5, 15, 30, 4, 10, 20, 40], false), ([10, 50, 100, 6, 12, 24, 40], false), ([10, 30, 60, 1, 3, 6, 12], false),
        ([1, 2, 4, 6, 12, 24, 48], false), ([10, 30, 60, 2, 6, 12, 24], true)] ∧
    s.geometry = { dm := 6000, ds := 9000, dt := 12000, v := 2, d := 4, e := 10
                   bays := #v[14, 18, 22, 26, 30, 34, 38, 42], x := 46 } ∧
    s.limits = { moisture := 110, speed := 2, lpark := 15, boost := 8, zone := 50, tp := 40, tl := 8, tt := 200
                 window := 4, air := 12, strapTimeout := 20000, watchdog := 0 } ∧
    s.matcher.receiving = false ∧ s.matcher.frameTimer = none ∧ s.matcher.buffer = [] ∧ s.matcher.matching = false ∧
    s.chain.serial = 0 ∧ s.chain.load = [] ∧ s.chain.lastClear = none ∧ s.chain.latch = false ∧
    (∀ n : Serial, s.slot n = { kind := .empty, named := [] }) ∧
    (∀ h : HeadId, (s.head h).state = .homing ∧ (s.head h).plan = [] ∧ (s.head h).reference = none ∧
      (s.head h).executed = none ∧ (s.head h).commanded = 0 ∧ (s.head h).inPosition = false) ∧
    s.pulses = [.step .headSide 0, .step .tailSide 0] ∧
    (∀ t : Serial, s.calEntry t = { planned := 0, made := 0 }) ∧
    (∀ k : BayId, (s.bay k).state = .disabled ∧ (s.bay k).bundle = none ∧ (s.bay k).planned = [] ∧
      (s.bay k).pendingDrop = none ∧ (s.bay k).settleTime = 400 ∧ (s.bay k).origin = none ∧
      (s.bay k).settleTimer = none ∧ (s.bay k).starved = false) ∧
    s.strapper.state = .idle ∧ s.strapper.fifo = [] ∧ s.strapper.current = none ∧ s.strapper.timer = none ∧
    s.labelWait = [] ∧ s.bundleSerial = 1 ∧
    (∀ i : Fin 32, s.orders.recipes[i] = none) ∧ (∀ a : Fin 256, s.orders.program[a] = { code := 0, a := 0, b := 0 }) ∧
    s.orders.table = [] ∧ s.orders.runList = [] ∧ s.orders.queue = [] ∧ s.orders.interp.state = .idle ∧
    s.orders.interp.order = none ∧ s.orders.interp.calls = [] ∧ s.orders.interp.repeats = [] ∧
    s.orders.interp.remainder = 0 ∧ s.orders.interp.spin = 0 ∧
    (∀ i : Fin 4, s.labels.templates[i] = none) ∧ s.labels.millId = [0x30#8, 0x30#8, 0x30#8, 0x30#8] ∧
    s.labels.table = []

/-- RESET_PIN_ASSERTED makes every output inactive; until the release every other command leaves the part as it stands,
but for the levels of the field inputs, which follow the pins (log entry 11). -/
def Obligations.ResetPinStopsThePart : Prop :=
  (∀ s : State, ∃ t, exec .resetPinAsserted s = .next t ∧ t = { entered s with resetPin := true } ∧
    t.OutputsInactive) ∧
  ∀ (s : State) (c : Instr), s.resetPin = true → c ≠ .powerOn → c ≠ .resetPin → c ≠ .resetPinAsserted →
    ∃ t, exec c s = .next t ∧ t = { entered s with inputs := t.inputs } ∧ t.OutputsInactive

/-- POWER_ON with the pin released, and RESET_PIN. With no fault input active the part stands at its reset values, with
its cause; the queue, the field inputs and the model's counter of free choices are kept (log entry 25). With either command
an active positioner fault input puts its head in FAULT, raises HEAD_FAULT and counts one fault (R119), an active bay fault
input raises BAY_FAULT and leaves its bay DISABLED (R205, log entry 12), and nothing else differs from the reset values.
POWER_ON under an asserted pin leaves the part at its reset values, waiting for the release with the rise of the supply
remembered (R205, log entry 24: the model's reading). -/
def Obligations.ResetCommandsLeaveReset : Prop :=
  ∀ s : State,
    let r := { State.reset with pending := s.pending, freeCount := s.freeCount, inputs := s.inputs }
    (s.inputs.faultHead = false → s.inputs.faultTail = false → (∀ k : BayId, s.inputs.bayFault[k] = false) →
      (s.resetPin = false → exec .powerOn s = .next r) ∧
      (s.supplyRisen = false → exec .resetPin s = .next { r with link := { r.link with cause := .resetPin } }) ∧
      (s.supplyRisen = true → exec .resetPin s = .next r)) ∧
    (s.resetPin = true → exec .powerOn s = .next { r with resetPin := true, supplyRisen := true, pulses := [] }) ∧
    ∀ c ∈ [Instr.powerOn, .resetPin], (c = .powerOn → s.resetPin = false) → ∃ t, exec c s = .next t ∧
      t = { r with link := t.link, counters := t.counters, headSide := t.headSide, tailSide := t.tailSide } ∧
      t.link = { r.link with cause := t.link.cause, notices := t.link.notices } ∧
      t.link.cause = (if c = .resetPin ∧ s.supplyRisen = false then .resetPin else .powerOn) ∧
      t.headSide = (if s.inputs.faultHead then { r.headSide with state := .fault } else r.headSide) ∧
      t.tailSide = (if s.inputs.faultTail then { r.tailSide with state := .fault } else r.tailSide) ∧
      (∀ x : Counter, t.count x = match x with
        | .faultsHeadSide => if s.inputs.faultHead then 1 else 0
        | .faultsTailSide => if s.inputs.faultTail then 1 else 0
        | _ => 0) ∧
      (∀ n : Notice, t.isPending n = true ↔
        (n = .headFault ∧ (s.inputs.faultHead = true ∨ s.inputs.faultTail = true)) ∨
        (n = .bayFault ∧ ∃ k : BayId, s.inputs.bayFault[k] = true)) ∧
      ∀ k : BayId, (t.bay k).state = .disabled

/-! ## The line link (10.1, 10.2, 10.8) -/

/-- The receiver: a start byte in HUNT begins a frame and is data in RECEIVING; the frame's deadline is 5 ms after it, or,
where the frame comes to complete a length field of at most 600, 5 ms plus 10 bit times for each of its
1 + 2 + 1 + length + 2 bytes after it (log entries 9 and 30: the command of the start byte carries the length field, since
no command gives a byte, and the moved deadline stands from the start byte on). A discarded frame is counted and
returns the receiver to HUNT; the deadline discards a frame that is being received, as the row LINK_FRAME_DEADLINE and as
the millisecond in which the frame timer runs out (log entry 7: time passes in steps on an empty queue, and the timer counts
tenths of a bit time, 4608 in a millisecond); the end of a response returns the receiver to HUNT; in ANSWERING frames are
not received. A valid frame whose code names no request is answered UNKNOWN_REQUEST and counted under LINK_REFUSED (R192,
R193). -/
def Obligations.LinkReception : Prop :=
  ∀ s : State, s.resetPin = false →
    let q := entered s
    let dropped := { q with
      link := { s.link with receiver := .hunt, frameTimer := none }
      counters := s.counters.set Counter.linkDiscarded.idx (min 65535 (s.count .linkDiscarded + 1)) }
    let begun := fun time => { q with link := { s.link with receiver := .receiving, frameTimer := some time } }
    (s.link.receiver = .hunt → exec (.linkFrameBegin none) s = .next (begun (5 * 4608)) ∧
      ∀ length : Fin 601, exec (.linkFrameBegin (some length)) s =
        .next (begun (5 * 4608 + 100 * (1 + 2 + 1 + length.val + 2)))) ∧
    (s.link.receiver ≠ .hunt → ∀ length, exec (.linkFrameBegin length) s = .next q) ∧
    (s.link.receiver ≠ .answering → exec .linkFrameDiscarded s = .next dropped) ∧
    (s.link.receiver = .receiving → exec .linkFrameDeadline s = .next dropped) ∧
    (∀ time, s.pending = [] → s.link.receiver = .receiving → s.link.frameTimer = some time → s.link.watchdog = none →
      s.matcher.frameTimer = none → s.strapper.timer = none → (∀ k : BayId, (s.bay k).settleTimer = none) →
      step s = .next (if time ≤ 4608 then dropped else begun (time - 4608))) ∧
    (s.link.receiver = .answering → exec .linkFrameDiscarded s = .next q ∧
      exec .responseComplete s = .next { q with link := { s.link with receiver := .hunt, response := none } }) ∧
    (∀ code : Byte, s.link.receiver ≠ .answering → isRequestCode code = false →
      exec (.unknownRequest code) s = .next (refusedOf code .unknownRequest (found s)))

/-- The watchdog and LINK_HOLD. A valid request outside LINK_HOLD restarts the watchdog with the time in force and leaves
the rest; inside LINK_HOLD it clears the hold, and the interpreter resumes, or takes up the front order, when the line is
RUNNING. At the watchdog's expiry with LINK_HOLD clear, LINK_HOLD is set, noticed and counted, the timer stopped, the gate
condition false, and a RUNNING or QUEUE_WAIT interpreter PAUSED (R193, R203, R166). -/
def Obligations.WatchdogAndLinkHold : Prop :=
  ∀ s : State,
    let timer := if s.limits.watchdog = 0 then none else some s.limits.watchdog
    let l := { s.link with watchdog := timer, hold := false }
    (s.link.hold = false → heard s = { s with link := l }) ∧
    (s.link.hold = true → (heard s).link = l ∧
      (s.link.line = .running → s.orders.interp.state = .paused →
        (heard s).orders.interp.state =
          if 0 < s.orders.interp.remainder ∧ 16 ≤ s.orders.queue.length then .queueWait else .running) ∧
      (s.link.line = .running → s.orders.interp.state = .idle → ∀ (id : Nat) (rest : List Nat),
        s.orders.runList = id :: rest → (heard s).orders.interp.order = some id ∧ (heard s).orders.runList = rest)) ∧
    (∀ n : Nat, s.resetPin = false → s.link.watchdog = some n → s.link.hold = false →
      ∃ t, exec .linkWatchdogExpiry s = .next t ∧ t.link.hold = true ∧ t.link.watchdog = none ∧
        t.isPending .linkHold = true ∧ t.count .linkHolds = min 65535 (s.count .linkHolds + 1) ∧ t.gateCondition = false ∧
        t.orders.interp =
          (if s.orders.interp.state = .running ∨ s.orders.interp.state = .queueWait then
            { s.orders.interp with state := .paused } else s.orders.interp) ∧
        t = { entered s with link := t.link, counters := t.counters, orders := t.orders })

/-- A request that is received in ANSWERING is ignored. Any other is answered at once: the receiver goes to ANSWERING with
a response that echoes the code, and LINK_HOLD is clear (R193). -/
def Obligations.EveryValidRequestIsAnswered : Prop :=
  ∀ (i : Instr) (code : Byte) (p : List Byte) (s : State), i.request? = some (code, p) → s.resetPin = false →
    p.length ≤ 600 →
    (s.link.receiver = .answering → exec i s = .next (entered s)) ∧
    (s.link.receiver ≠ .answering → ∃ t r, exec i s = .next t ∧ t.link.receiver = .answering ∧ t.link.hold = false ∧
      t.link.response = some r ∧ r.code = code ∧ (r.status ≠ .ok → r.payload = []))

/-- A refused request changes nothing but the restart of the watchdog, the clearing of LINK_HOLD, the count of the
refusal and the response (R194). -/
def Obligations.RefusedRequestChangesNothing : Prop :=
  ∀ (i : Instr) (code : Byte) (p : List Byte) (s t : State) (st : Status) (b : List Byte), i.request? = some (code, p) →
    Receives s p → exec i s = .next t → t.link.response = some { code := code, status := st, payload := b } → st ≠ .ok →
    t = refusedOf code st (found s)

/-! ## Configuration (10.4, 10.5, 5.8, 2.5, 8.1, 9.1, 7.1) -/

/-- A SET GEOMETRY inside its bounds, with the line not RUNNING and no strip live, is accepted: the geometry is replaced
as one whole, UNCONFIGURED becomes STOPPED, READY heads go to HOMING, the plan queues are emptied, the calendar keeps its
made counts alone, every slot reads EMPTY and a passage in progress is untracked (R196, R197, R121). -/
def Obligations.SetGeometryAccepted : Prop :=
  ∀ (s : State) (g : Geometry), Receives s (geometryBytes g) → GeometryBounds g → s.link.line ≠ .running → s.strips = [] →
    ∃ t, exec (.setGeometry (geometryBytes g)) s = .next t ∧ t.geometry = g ∧
      t.link.response = some { code := 0x01#8, status := .ok, payload := [] } ∧
      t.link.line = .stopped ∧
      (∀ h : HeadId, (t.head h).plan = [] ∧ ((s.head h).state = .ready → (t.head h).state = .homing ∧
        (t.head h).commanded = 0 ∧ (t.head h).inPosition = false ∧ (t.head h).reference = none) ∧
        ((s.head h).state ≠ .ready → t.head h = { s.head h with plan := [] })) ∧
      (∀ n : Serial, t.calEntry n = { s.calEntry n with planned := 0 }) ∧
      (∀ n : Serial, t.slot n = { kind := .empty, named := [] }) ∧
      t.chain = { s.chain with slots := t.chain.slots } ∧
      t.lineal = { s.lineal with passage := s.lineal.passage.map fun a => { a with tag := none } } ∧
      t = { found s with
        link := t.link, counters := t.counters, geometry := t.geometry, headSide := t.headSide, tailSide := t.tailSide
        calendar := t.calendar, chain := t.chain, lineal := t.lineal, pulses := t.pulses }

/-- SET GRADE TABLE with no price 0, and SET POINTS TABLE with size limits that rise from 1, replace their whole table
(R94, R95). -/
def Obligations.SetDecisionTables : Prop :=
  ∀ s : State,
    (∀ a b c d : GradeEntry,
      let p := gradeBytes a ++ gradeBytes b ++ gradeBytes c ++ gradeBytes d
      Receives s p → (∀ g ∈ [a, b, c, d], g.dmax ≤ 65535 ∧ 1 ≤ g.price ∧ g.price ≤ 65535) →
      exec (.setGradeTable p) s = .next (okOf 0x03#8 [] { found s with grades := #v[a, b, c, d] })) ∧
    (∀ a b c d e f g h : ClassPoints,
      let p := [a, b, c, d, e, f, g, h].flatMap pointsBytes
      Receives s p → (∀ q ∈ [a, b, c, d, e, f, g, h], PointsBounds q) →
      exec (.setPointsTable p) s = .next (okOf 0x04#8 [] { found s with points := #v[a, b, c, d, e, f, g, h] }))

/-- SET SPINDLE LIMITS takes all values at once, forms the spindle states again, and raises SPINDLE_WORN and
SPINDLE_SPENT under clear marks; the wear counters, the moulder state, the runs and everything else are kept (R33, R32). -/
def Obligations.SetSpindleLimitsReforms : Prop :=
  ∀ (s : State) (w l : SpindleId → Nat) (top bottom : Nat) (tongue groove : Grade),
    let p := spindleBytes w l top bottom tongue groove
    Receives s p → (∀ i, 1 ≤ w i ∧ w i < l i ∧ l i ≤ 4294967295) → top ≤ 15 → bottom ≤ 15 →
    exec (.setSpindleLimits p) s = .next (okOf 0x05#8 [] (respun
      { found s with moulder := { s.moulder with
          derateTop := top, derateBottom := bottom, capTongue := tongue, capGroove := groove } }
      fun i spindle => { spindle with warn := w i, limit := l i }))

/-- A SET LIMITS inside its ranges that does not lower S over a queued entry replaces all the limits together, and the
watchdog restarts with its new time; but when it raises W or lowers A while a window of the new length in the ring holds
more than the new A, it is refused with WRONG_STATE (R198, R203, R96, R118). -/
def Obligations.SetLimitsReplacesAll : Prop :=
  ∀ (s : State) (l : Limits), Receives s (limitsBytes l) → LimitsRanges l →
    (l.speed < s.limits.speed ∧ (s.headSide.plan ≠ [] ∨ s.tailSide.plan ≠ []) →
      exec (.setLimits (limitsBytes l)) s = .next (refusedOf 0x02#8 .wrongState (found s))) ∧
    ((s.limits.speed ≤ l.speed ∨ (s.headSide.plan = [] ∧ s.tailSide.plan = [])) →
      ((l.window ≤ s.limits.window ∧ s.limits.air ≤ l.air) ∨
        (∀ i, i + l.window ≤ 64 → s.windowStarts (s.serialAt 15 + BitVec.ofNat 32 i) l.window ≤ l.air) →
        exec (.setLimits (limitsBytes l)) s = .next (okOf 0x02#8 [] { found s with
          limits := l
          link := { (found s).link with watchdog := if l.watchdog = 0 then none else some l.watchdog } })) ∧
      (∀ i, (s.limits.window < l.window ∨ l.air < s.limits.air) → i + l.window ≤ 64 →
        l.air < s.windowStarts (s.serialAt 15 + BitVec.ofNat 32 i) l.window →
        exec (.setLimits (limitsBytes l)) s = .next (refusedOf 0x02#8 .wrongState (found s))))

/-- SET RECIPE inside its ranges, naming a defined template, defines its place; naming an undefined one it is refused
with BAD_ARGUMENT (R154). SET BAY replaces the settle time of a bay and leaves a running settle timer (R122). SET TEMPLATE
in its template form defines a place; in its mill id form it replaces the mill id. Both rows of the table carry the form
byte in their payload (R177, R178, log entry 29). -/
def Obligations.SetRecipesBaysAndTemplates : Prop :=
  ∀ s : State,
    (∀ (i : Fin 32) (r : Recipe), Receives s (recipePayload i r) → RecipeRanges r →
      exec (.setRecipe (recipePayload i r)) s =
        if (s.labels.templates[r.template]).isSome then
          .next (okOf 0x06#8 [] { found s with
            orders := { (found s).orders with recipes := (found s).orders.recipes.set i (some r) } })
        else .next (refusedOf 0x06#8 .badArgument (found s))) ∧
    (∀ (k : BayId) (n : Nat),
      let p := toBytes 1 (bayNum k) ++ toBytes 2 n
      Receives s p → 50 ≤ n → n ≤ 2000 →
      exec (.setBay p) s = .next (okOf 0x08#8 [] { found s with
        bays := s.bays.set k { s.bay k with settleTime := n } })) ∧
    (∀ (i : Fin 4) (b : List Byte), Receives s (0#8 :: BitVec.ofNat 8 i.val :: b) → b ≠ [] → b.length ≤ 192 →
      (∀ x ∈ b, AllowedByte x) → (∀ x ∈ b.dropLast, x ≠ 0x8B#8) →
      let p := 0#8 :: BitVec.ofNat 8 i.val :: b
      let t := okOf 0x07#8 [] { found s with labels := { s.labels with templates := s.labels.templates.set i (some b) } }
      exec (.setTemplate p) s = .next t ∧ exec (.setMillId p) s = .next t) ∧
    (∀ m : List Byte, Receives s (1#8 :: m) → m.length = 4 → (∀ x ∈ m, 0x20 ≤ x.toNat ∧ x.toNat ≤ 0x7E) →
      let t := okOf 0x07#8 [] { found s with labels := { s.labels with millId := m } }
      exec (.setMillId (1#8 :: m)) s = .next t ∧ exec (.setTemplate (1#8 :: m)) s = .next t)

/-! ## The line, the infeed and the reads (10.3, 2.7, 11.3) -/

/-- START LINE, STOP LINE, HOLD INFEED and RELEASE INFEED: the line state and the hold they set, and the line states they
are refused in. At START LINE a PAUSED interpreter resumes, an IDLE one takes up the front of the run list, and any other
stays; at STOP LINE a RUNNING or QUEUE_WAIT one is PAUSED (R195, R37, R159, R166). -/
def Obligations.LineAndInfeedRequests : Prop :=
  ∀ s : State, Receives s [] →
    let h := found s
    let i := h.orders.interp
    let answers := fun (c : Instr) (t : State) (code : Byte) (line : LineState) => exec c s = .next t ∧
      t = { okOf code [] h with link := { (okOf code [] h).link with line := line }, orders := t.orders }
    (s.link.line = .stopped → ∃ t, answers (.startLine []) t 0x10#8 .running ∧
      (i.state = .paused → t.orders = { h.orders with interp := { i with
        state := if 0 < i.remainder ∧ 16 ≤ h.orders.queue.length then .queueWait else .running } }) ∧
      (∀ id rest o, i.state = .idle → h.orders.runList = id :: rest → h.order? id = some o →
        t.orders = (takenUp h id rest o.start).orders) ∧
      (i.state ≠ .paused → i.state ≠ .idle ∨ h.orders.runList = [] → t.orders = h.orders)) ∧
    (s.link.line = .running → ∃ t, answers (.stopLine []) t 0x11#8 .stopped ∧ t.gateCondition = false ∧
      t.orders = { h.orders with interp :=
        if i.state = .running ∨ i.state = .queueWait then { i with state := .paused } else i }) ∧
    (s.link.line = .unconfigured → exec (.startLine []) s = .next (refusedOf 0x10#8 .notConfigured h) ∧
      exec (.stopLine []) s = .next (refusedOf 0x11#8 .notConfigured h)) ∧
    (s.link.line = .running → exec (.startLine []) s = .next (refusedOf 0x10#8 .wrongState h)) ∧
    (s.link.line = .stopped → exec (.stopLine []) s = .next (refusedOf 0x11#8 .wrongState h)) ∧
    exec (.holdInfeed []) s = .next (okOf 0x12#8 [] { h with lineal := { s.lineal with infeedHold := true } }) ∧
    exec (.releaseInfeed []) s = .next (okOf 0x13#8 [] { h with lineal := { s.lineal with infeedHold := false } })

/-- The reading requests are answered OK, with the payloads of chapter 11, and change nothing but the line link unit's
own record and count. The payload of GET STATUS is formed before its own response is counted, which is the model's choice
(log entry 19) (R11, R12, R69, R35, R112, R148, R173, R186, R202). -/
def Obligations.ReadsChangeNothing : Prop :=
  ∀ s : State,
    let h := found s
    (∀ (tag : Nat) (r : Strip), Receives s (toBytes 2 tag) → 1 ≤ tag → tag ≤ 65535 → s.strip? tag = some r →
      exec (.getStrip (toBytes 2 tag)) s = .next (okOf 0x20#8 (stripPayload r) h)) ∧
    (∀ n : Nat, Receives s [0#8] → n ≤ 5 → exec (.listStrips (toBytes 1 n)) s = .next (okOf 0x21#8 (listPayload h n) h)) ∧
    (∀ k : Nat, Receives s [0#8] → k < s.geometry.x → k ≤ 255 →
      exec (.getLug (toBytes 1 k)) s = .next (okOf 0x24#8 (lugPayload h k) h)) ∧
    (Receives s [] → exec (.getMoulder []) s = .next (okOf 0x32#8 (moulderPayload h) h) ∧
      exec (.getHeads []) s = .next (okOf 0x38#8 (headsPayload h) h) ∧
      exec (.getStatus []) s = .next (okOf 0x70#8 (statusPayload h) h)) ∧
    (∀ k : BayId, Receives s [0#8] → exec (.getBay (toBytes 1 (bayNum k))) s = .next (okOf 0x40#8 (bayPayload h k) h)) ∧
    (Receives s [0#8, 0#8] → exec (.getOrder [0#8, 0#8]) s = .next (okOf 0x54#8 (orderUnitPayload h) h)) ∧
    (∀ (id : Nat) (o : Order), Receives s (toBytes 2 id) → 1 ≤ id → id ≤ 65535 → h.order? id = some o →
      exec (.getOrder (toBytes 2 id)) s = .next (okOf 0x54#8 (orderPayload h o) h)) ∧
    (∀ n : Nat, Receives s [0#8] → n ≤ 2 → exec (.listLabels (toBytes 1 n)) s = .next (okOf 0x60#8 (labelsPayload h n) h))

/-- The response payloads have the lengths of their tables, for the lists they carry (R208). -/
def Obligations.ResponsePayloadLengths : Prop :=
  (∀ r : Strip, (stripPayload r).length = 45 + 7 * ((r.report.map (·.defects.length)).getD 0)) ∧
  (∀ (s : State) (n : Nat), (listPayload s n).length = 1 + 4 * (s.listed n).length) ∧
  (∀ (s : State) (k : Nat), (s.slot (s.serialAt k)).named.length ≤ 2 → s.chain.load.length ≤ 2 →
    (lugPayload s k).length = 21) ∧
  (∀ s : State, (moulderPayload s).length = 69) ∧
  (∀ s : State, (headsPayload s).length = 166 + 6 * (s.headSide.plan.length + s.tailSide.plan.length)) ∧
  (∀ (s : State) (k : BayId), s.strapper.fifo.length ≤ 8 → s.labelWait.length ≤ 8 →
    (bayPayload s k).length = 115 + 6 * (s.bay k).planned.length) ∧
  (∀ s : State, (orderUnitPayload s).length =
    10 + 3 * s.orders.table.length + 2 * s.orders.runList.length + 3 * s.orders.queue.length) ∧
  (∀ (s : State) (o : Order), s.orders.interp.calls.length ≤ 4 → s.orders.interp.repeats.length ≤ 4 →
    (orderPayload s o).length = 46) ∧
  (∀ r : Label, (labelPayload r).length = 15 + r.text.length) ∧
  (∀ (s : State) (n : Nat), (labelsPayload s n).length = 3 + 11 * (s.labels.table.filter (·.selected n)).length) ∧
  (∀ s : State, (noticesPayload s).length = 8) ∧
  (∀ s : State, (statusPayload s).length = 153)

/-- A raised notice becomes pending and the others stay as they are. READ NOTICES returns the pending set and the mask and
then clears the set; SET NOTICE MASK replaces the mask and leaves the set; CLEAR COUNTERS zeroes every counter, so that
LINK_ANSWERED_OK reads 1 after it (R200, R201). ATTN is asserted exactly while an unmasked notice is pending (R199), and the
gate output follows the gate condition, which is the conjunction of its six inputs (R36). -/
def Obligations.NoticesCountersAttnAndGate : Prop :=
  ∀ s : State,
    (∀ n m : Notice, (s.raise n).isPending m = true ↔ s.isPending m = true ∨ m = n) ∧
    (Receives s [] → exec (.readNotices []) s = .next
      (okOf 0x71#8 (toBytes 4 s.link.notices.toNat ++ toBytes 4 s.link.mask.toNat)
        { found s with link := { (found s).link with notices := 0 } })) ∧
    (∀ m : BitVec 17, Receives s (toBytes 4 m.toNat) → exec (.setNoticeMask (toBytes 4 m.toNat)) s = .next
      (okOf 0x72#8 [] { found s with link := { (found s).link with mask := m } })) ∧
    (∀ n : Nat, Receives s (toBytes 4 n) → 2 ^ 17 ≤ n → n < 2 ^ 32 → ∃ t, exec (.setNoticeMask (toBytes 4 n)) s = .next t ∧
      t.link.mask = s.link.mask ∧ t.link.response = some { code := 0x72#8, status := .badArgument, payload := [] }) ∧
    (Receives s [] → ∃ t, exec (.clearCounters []) s = .next t ∧ t.count .linkAnsweredOk = 1 ∧
      (∀ c : Counter, c ≠ .linkAnsweredOk → t.count c = 0) ∧
      t = { found s with link := t.link, counters := t.counters }) ∧
    (s.resetPin = false →
      (s.attn = true ↔ ∃ n : Notice, s.isPending n = true ∧ s.link.mask.getLsbD n.idx = false) ∧
      s.gateOpen = s.gateCondition ∧
      (s.gateCondition = true ↔
        s.link.line = .running ∧ s.moulder.state = .running ∧
          (∀ i : SpindleId, (s.moulder.spindle i).wear < (s.moulder.spindle i).warn ∨
            (s.moulder.spindle i).wear < (s.moulder.spindle i).limit) ∧
          s.strips.length < 92 ∧ s.link.hold = false ∧ s.lineal.infeedHold = false))

/-! ## Strip requests (1.7) -/

/-- AMEND STRIP sets, replaces or removes the override of a LINEAL or LOADED strip; tag 0, a tag no record carries and a
strip in another state are refused (R13). -/
def Obligations.AmendStripSetsOverride : Prop :=
  ∀ (s : State) (tag : Nat) (v : Option Override),
    let p := toBytes 2 tag ++ overrideBytes v
    Receives s p → tag ≤ 65535 →
    (tag = 0 → exec (.amendStrip p) s = .next (refusedOf 0x22#8 .badArgument (found s))) ∧
    (tag ≠ 0 → s.strip? tag = none → exec (.amendStrip p) s = .next (refusedOf 0x22#8 .notFound (found s))) ∧
    (∀ r, tag ≠ 0 → s.strip? tag = some r →
      (r.state = .lineal ∨ r.state = .loaded → exec (.amendStrip p) s = .next (okOf 0x22#8 [] { found s with
        strips := s.strips.map fun q => if q.tag = tag then { q with override := v } else q })) ∧
      (r.state ≠ .lineal → r.state ≠ .loaded →
        exec (.amendStrip p) s = .next (refusedOf 0x22#8 .wrongState (found s))))

/-- PURGE STRIP of a strip without a lug serial: the record retires PURGED and leaves the lineal queue, its passage
becomes untracked, and its pending load list entry becomes UNKNOWN (R14, R15). Where another strip is the watched one,
overdue or not, or no LINEAL strip is past its deadline, that is all with no drain in progress, and a drain whose last
old-run strip it was completes (R30): a strip that was watched before the purge is lost at a count alone (R27, R198). Where
the purged strip was the watched one and the next strip of the queue is past its deadline, that strip is lost in the purge
(R27). -/
def Obligations.PurgeStripOnLinealSection : Prop :=
  ∀ (s : State) (tag : Nat) (r : Strip), Receives s (toBytes 2 tag) → 1 ≤ tag → tag ≤ 65535 → s.strip? tag = some r →
    r.serial = none →
    let h := found s
    let h' : State := { h with
      strips := s.strips.filter fun q => q.tag ≠ tag
      lineal := { s.lineal with
        queue := s.lineal.queue.filter (· ≠ tag)
        passage := s.lineal.passage.map fun a => if a.tag = some tag then { a with tag := none } else a }
      chain := { s.chain with load := s.chain.load.map fun e => if e = .strip tag then .unknown else e }
      counters := s.counters.set Counter.purged.idx (min 65535 (s.count .purged + 1)) }
    ((∃ w, s.watched? = some w ∧ w.tag ≠ tag) ∨
        (∀ q ∈ s.strips, q.state = .lineal → passed s.lineal.p (s.transferLast q) = false) →
      (s.moulder.state ≠ .draining →
        exec (.purgeStrip (toBytes 2 tag)) s = .next (okOf 0x23#8 [] h')) ∧
      (∀ q, s.moulder.state = .draining → s.moulder.next = some q → q.change ≠ 0 →
        (∀ x ∈ s.strips, x.tag ≠ tag → s.isOldRun x = false) →
        exec (.purgeStrip (toBytes 2 tag)) s =
          .next (okOf 0x23#8 [] { h' with moulder := { s.moulder with state := .changeover } }))) ∧
    (∀ x, s.watched? = some r → s.lineal.queue = [tag, x.tag] → x.tag ≠ tag → s.strip? x.tag = some x →
      x.state = .lineal → x.serial = none → s.chain.load = [] → passed s.lineal.p (s.transferLast x) = true →
      s.moulder.state ≠ .draining →
      exec (.purgeStrip (toBytes 2 tag)) s = .next (okOf 0x23#8 [] (State.raise (State.bump { h' with
        strips := s.strips.filter fun q => q.tag ≠ tag ∧ q.tag ≠ x.tag
        lineal := { h'.lineal with queue := [] } } .lostTransfer) .stripLost)))

/-- PURGE STRIP of a strip on a lug (R16, R17), with no drain in progress. No strip of the lineal section is touched,
whatever its deadline (R27). The slot becomes UNKNOWN when it names no other strip, and that is all for a LOADED strip and
for a TRIMMED one without a destination. A DECIDED strip leaves its plan entries without their plunge, and with a cut
planned, SORT or OVERFLOW, frees its two plunge starts. A SORT strip whose flap has not pulsed, DECIDED or TRIMMED, loses
its planned drop, frees its drop start and releases its commitment. A strip whose drop is pending releases the commitment
of an attached drop, and its slot names no strip and keeps its kind. At a release a FILLING bay applies its completion test,
by which it may settle, settle short or close empty (R132, R133). -/
def Obligations.PurgeStripOnChain : Prop :=
  ∀ (s : State) (tag : Nat) (r : Strip) (n : Serial), Receives s (toBytes 2 tag) → 1 ≤ tag → tag ≤ 65535 →
    s.strip? tag = some r → r.serial = some n → s.moulder.state ≠ .draining →
    let left := (s.slot n).named.filter (· ≠ tag)
    let purged := fun slot : LugSlot => ({ found s with
      strips := s.strips.filter fun q => q.tag ≠ tag
      lineal := { s.lineal with queue := s.lineal.queue.filter (· ≠ tag) }
      chain := { s.chain with slots := s.chain.slots.set (ringIdx n) slot }
      counters := s.counters.set Counter.purged.idx (min 65535 (s.count .purged + 1)) } : State)
    let onLug := purged { kind := if left = [] then .unknown else (s.slot n).kind, named := left }
    let plunge := n + BitVec.ofNat 32 s.geometry.e
    let dropAt := fun k : BayId => n + BitVec.ofNat 32 (s.bayOffset k)
    let fewer := fun (t : Serial) (m : Nat) => { s.calEntry t with planned := (s.calEntry t).planned - m }
    let moves := fun e : PlanEntry => if e.serial = n then { e with plunge := false } else e
    let decided := fun freed : Vector CalendarEntry 64 => { onLug with
      headSide := { s.headSide with plan := s.headSide.plan.map moves }
      tailSide := { s.tailSide with plan := s.tailSide.plan.map moves }
      calendar := freed }
    let uncut := s.calendar.set (ringIdx plunge) (fewer plunge 2)
    (r.dropPending = false →
      (r.state = .loaded → r.decision = none → exec (.purgeStrip (toBytes 2 tag)) s = .next (okOf 0x23#8 [] onLug)) ∧
      (∀ d, r.state = .trimmed → r.decision = some d → d.dest = none →
        exec (.purgeStrip (toBytes 2 tag)) s = .next (okOf 0x23#8 [] onLug)) ∧
      (∀ d, r.state = .decided → r.decision = some d → d.disposition ≠ .sort → d.dest = none →
        exec (.purgeStrip (toBytes 2 tag)) s = .next (okOf 0x23#8 []
          (decided (if d.disposition = .overflow then uncut else s.calendar)))) ∧
      (∀ (k : BayId) (b : Bundle) (c : Choice) (q : PlannedDrop), GeometryBounds s.geometry →
        r.decision = some { disposition := .sort, cause := none, choice := some c
                            dest := some { bay := k, bundle := b.serial } } →
        (s.bay k).state = .filling → (s.bay k).bundle = some b →
        (s.bay k).planned.find? (fun d => d.tag = tag) = some q → q.serial = n →
        let bay := { s.bay k with planned := (s.bay k).planned.filter fun d => d.tag ≠ tag }
        let undropped := fun cal : Vector CalendarEntry 64 => cal.set (ringIdx (dropAt k)) (fewer (dropAt k) 1)
        (r.state = .decided → ∃ u, exec (.purgeStrip (toBytes 2 tag)) s = .next (okOf 0x23#8 [] u) ∧
          AfterTest (decided (undropped uncut)) k bay (without b c) u) ∧
        (r.state = .trimmed → ∃ u, exec (.purgeStrip (toBytes 2 tag)) s = .next (okOf 0x23#8 [] u) ∧
          AfterTest { onLug with calendar := undropped s.calendar } k bay (without b c) u))) ∧
    (∀ (k : BayId) (dest : Destination) (c : Choice) (d : PendingDrop), r.state = .trimmed → r.dropPending = true →
      r.decision = some { disposition := .sort, cause := none, choice := some c, dest := some dest } →
      (s.bay k).pendingDrop = some d → d.tag = tag →
      (∀ j, j ≠ k → ∀ e, (s.bay j).pendingDrop = some e → e.tag ≠ tag) →
      let bay := { s.bay k with pendingDrop := none }
      let t := purged { s.slot n with named := left }
      (d.attached = false → exec (.purgeStrip (toBytes 2 tag)) s =
        .next (okOf 0x23#8 [] { t with bays := s.bays.set k bay })) ∧
      (∀ b, d.attached = true → (s.bay k).bundle = some b →
        ∃ u, exec (.purgeStrip (toBytes 2 tag)) s = .next (okOf 0x23#8 [] u) ∧ AfterTest t k bay (without b c) u))

/-! ## The infeed and the moulder (chapter 2) -/

/-- An encoder count advances P by one; when no position event is due at the new value it changes nothing else. The rows
that name a position event are the next count when theirs is due there and not at P, and do nothing when it is due at
neither (R20, log entry 3); the row LOST_AT_TRANSFER is the next count when the watched strip is past its deadline there, and
otherwise does nothing (R27). -/
def Obligations.EncoderCountAdvancesP : Prop :=
  ∀ s : State, s.resetPin = false →
    let c := nextCount s
    (∃ t, exec .encoderCount s = .next t ∧ t.lineal.p = s.lineal.p + 1) ∧
    (c.tailDue = false → c.longDue = false → c.exitsDue = false → c.clearDue = false → c.overdue? = none →
      exec .encoderCount s = .next c) ∧
    (s.tailDue = false → exec .tailConfirmed s = if c.tailDue then exec .encoderCount s else .next (entered s)) ∧
    (s.longDue = false → exec .passageLong s = if c.longDue then exec .encoderCount s else .next (entered s)) ∧
    (s.exitsDue = false → exec .moulderExit s = if c.exitsDue then exec .encoderCount s else .next (entered s)) ∧
    (s.clearDue = false → exec .moulderClear s = if c.clearDue then exec .encoderCount s else .next (entered s)) ∧
    (c.overdue? = none → exec .lostAtTransfer s = .next (entered s)) ∧
    (∀ r, c.overdue? = some r → exec .lostAtTransfer s = exec .encoderCount s)

/-- The infeed eye. A block of an IDLE eye is a head edge: with fewer than 96 live records it creates a record with a
tag no live record carries, the counter's own when that is free; with 96 it is counted under UNTRACKED and noticed. An
unblock of a BLOCKED passage sets u, and a block of a CLEARING one is a flicker. A block in phase BLOCKED and an unblock in
phase CLEARING change nothing, which the model infers (log entry 2) (R21, R22, R24, R1, R5, R6). -/
def Obligations.InfeedEyePassages : Prop :=
  ∀ s : State, s.resetPin = false →
    let q := entered s
    (s.lineal.passage = none → s.strips.length < 96 → s.TagsUnique →
      ∃ tag, exec .infeedEyeBlock s = .next { q with
          strips := s.strips ++ [created s tag]
          lineal := { s.lineal with
            passage := some { phase := .blocked, tag := some tag, h := s.lineal.p, u := none, long := false }
            queue := s.lineal.queue ++ [tag]
            tagCounter := if tag = 65535 then 1 else tag + 1 } } ∧
        1 ≤ tag ∧ tag ≤ 65535 ∧ (∀ r ∈ s.strips, r.tag ≠ tag) ∧
        ((∀ r ∈ s.strips, r.tag ≠ s.lineal.tagCounter) → tag = s.lineal.tagCounter)) ∧
    (s.lineal.passage = none → s.strips.length = 96 →
      exec .infeedEyeBlock s = .next { q with
        lineal := { s.lineal with
          passage := some { phase := .blocked, tag := none, h := s.lineal.p, u := none, long := false } }
        counters := s.counters.set Counter.untracked.idx (min 65535 (s.count .untracked + 1))
        link := { s.link with notices := s.link.notices ||| Notice.tableFull.bit } }) ∧
    (∀ a, s.lineal.passage = some a → a.phase = .blocked →
      exec .infeedEyeUnblock s = .next { q with
        lineal := { s.lineal with passage := some { a with phase := .clearing, u := some s.lineal.p } } } ∧
      exec .infeedEyeBlock s = .next q) ∧
    (∀ a, s.lineal.passage = some a → a.phase = .clearing → exec .infeedEyeUnblock s = .next q ∧
      ((s.lineal.p - a.h).toNat < 2801 ∨ a.long = true → exec .infeedEyeBlock s = .next { q with
        lineal := { s.lineal with passage := some { a with phase := .blocked } } }) ∧
      (2801 ≤ (s.lineal.p - a.h).toNat → a.long = false → exec .infeedEyeBlock s = .next { q with
        lineal := { s.lineal with passage := some { a with phase := .blocked, long := true } }
        strips := match a.tag with
          | some tag => s.strips.map fun r => if r.tag = tag then { r with size := .long } else r
          | none => s.strips }))

/-- The position events of one strip, at the count that brings P to them, as ENCODER_COUNT takes them, and by the row of
their name where they are due at P. TAIL_CONFIRMED, u + 20: Lm from the blocked counts, 1401 for a LONG passage, SHORT below
200 mm, LINEAL, the passage closed, and the moulder exit that a strip has passed while ENTERING (R23, R25). PASSAGE_LONG:
the long mark, and LONG on a tracked record (R24). MOULDER_EXIT, h + Dm: the stamp from the spindles as they stand, then Lm
on each wear counter (R25, R32, R34). MOULDER_CLEAR of the last old-run strip completes the drain (R30). The count that
brings P to the deadline e + Tt + 1 of the watched strip, or past it after Tt was lowered (R198), retires it LOST, counted
and noticed, as ENCODER_COUNT and as the row LOST_AT_TRANSFER (R27). That a row takes an event due at P, which no count has
left there, and that each row is the count when its event is due at the next, is the model's choice (log entry 3). -/
def Obligations.LinealPositionEvents : Prop :=
  ∀ s : State, s.resetPin = false →
    let q := entered s
    let c := nextCount s
    let other := fun (x : State) (e : Instr) (p : Prop) => e = .encoderCount → x.overdue? = none ∧ p
    (∀ a u, s.lineal.passage = some a → a.phase = .clearing → a.u = some u →
      let lm := if a.long then 1401 else max 1 (((u - a.h).toNat + 1) / 2)
      ∀ x e, (x, e) ∈ [(q, Instr.tailConfirmed), (c, .encoderCount)] → x.lineal.p = u + 20 → Quiet x →
      (∀ r ∈ s.strips, x.exitDue none r = false) →
      (∀ r ∈ s.strips, a.tag = some r.tag → passed x.lineal.p (r.head + BitVec.ofNat 32 (s.geometry.dt + 2 * lm)
        + BitVec.ofNat 32 s.limits.tt) = false) →
      let closed : State := { x with
        lineal := { x.lineal with passage := none }
        strips := match a.tag with
          | some tag => s.strips.map fun r => if r.tag = tag then
              { r with state := .lineal, lm := some lm
                       size := if a.long then r.size else if lm < 200 then .short else r.size } else r
          | none => s.strips }
      ((∀ r ∈ s.strips, a.tag = some r.tag → reached x.lineal.p (s.exitTarget r) = false) → exec e s = .next closed) ∧
      (∀ r, a.tag = some r.tag → s.strips.filter (fun y => y.tag = r.tag) = [r] → r.stamp = none →
        reached x.lineal.p (s.exitTarget r) = true → exec e s = .next (exited closed r.tag lm))) ∧
    (∀ a, s.lineal.passage = some a → a.phase = .blocked → a.long = false →
      ∀ x e, (x, e) ∈ [(q, Instr.passageLong), (c, .encoderCount)] → 2801 ≤ (x.lineal.p - a.h).toNat →
      other x e (x.exitsDue = false ∧ x.clearDue = false) →
      exec e s = .next { x with
        lineal := { x.lineal with passage := some { a with long := true } }
        strips := match a.tag with
          | some tag => s.strips.map fun r => if r.tag = tag then { r with size := .long } else r
          | none => s.strips }) ∧
    (∀ r lm x e, (x, e) ∈ [(q, Instr.moulderExit), (c, .encoderCount)] → s.strips.filter (x.exitDue none) = [r] →
      r.lm = some lm → other x e (x.tailDue = false ∧ x.longDue = false ∧ x.clearDue = false) →
      exec e s = .next (exited x r.tag lm)) ∧
    (∀ n x e, (x, e) ∈ [(q, Instr.moulderClear), (c, .encoderCount)] → x.clearDue = true → s.moulder.state = .draining →
      s.moulder.next = some n → (∀ r ∈ s.strips, x.isOldRun r = false) →
      other x e (x.tailDue = false ∧ x.longDue = false ∧ x.exitsDue = false) →
      exec e s = .next { x with moulder := if n.change = 0 then
        { s.moulder with state := .running, current := installed s n, next := none }
        else { s.moulder with state := .changeover } }) ∧
    (∀ r, s.lineal.queue = [r.tag] → s.strip? r.tag = some r → r.state = .lineal → s.chain.load = [] →
      r.serial = none → passed (s.lineal.p + 1) (s.transferLast r) = true → s.moulder.state ≠ .draining →
      s.lineal.passage = none → (∀ x ∈ s.strips, x.stamp ≠ none) →
      ∀ e ∈ [Instr.encoderCount, .lostAtTransfer], exec e s = .next { c with
        strips := s.strips.filter fun x => x.tag ≠ r.tag
        lineal := { c.lineal with queue := [] }
        counters := s.counters.set Counter.lostTransfer.idx (min 65535 (s.count .lostTransfer + 1))
        link := { s.link with notices := s.link.notices ||| Notice.stripLost.bit } })

/-- NEW RUN, the drain and TOOLING READY: the pending run is recorded or installed as the moulder state and the change
set give, and refused with a species, profile or change set outside its range; a drain completes when no old-run strip
stands before moulder exit; TOOLING READY in CHANGEOVER installs and removes the pending run and makes the spindles of the
change set new, with their thresholds, the derates and the caps kept, and is refused in every other state (R28 to R31). -/
def Obligations.MoulderRuns : Prop :=
  (∀ (s : State) (q : PendingRun), 1 ≤ q.species → q.species ≤ 63 → 1 ≤ q.profile → q.profile ≤ 15 →
    let h := found s
    let next := fun m : MoulderState => { h with moulder := { s.moulder with state := m, next := some q } }
    let run := { h with moulder := { s.moulder with state := .running, current := installed s q, next := none } }
    (Receives s (runBytes q) →
      (s.moulder.state = .idle → exec (.newRun (runBytes q)) s =
        .next (okOf 0x30#8 [] (if q.change = 0 then run else next .changeover))) ∧
      (s.moulder.state = .running → (∃ r ∈ s.strips, s.isOldRun r = true) →
        exec (.newRun (runBytes q)) s = .next (okOf 0x30#8 [] (next .draining))) ∧
      (s.moulder.state = .running → (∀ r ∈ s.strips, s.isOldRun r = false) → exec (.newRun (runBytes q)) s =
        .next (okOf 0x30#8 [] (if q.change = 0 then run else next .changeover))) ∧
      (s.moulder.state = .draining ∨ s.moulder.state = .changeover →
        exec (.newRun (runBytes q)) s = .next (refusedOf 0x30#8 .wrongState h))) ∧
    (s.resetPin = false → s.moulder.state = .draining → s.moulder.next = some q →
      ((∀ r ∈ s.strips, s.isOldRun r = false) → exec .drainCompletion s = .next { entered s with
        moulder := if q.change = 0 then { s.moulder with state := .running, current := installed s q, next := none }
          else { s.moulder with state := .changeover } }) ∧
      ((∃ r ∈ s.strips, s.isOldRun r = true) → exec .drainCompletion s = .next (entered s))) ∧
    (Receives s [] → s.moulder.next = some q → s.moulder.state = .changeover →
      let fresh := fun i => if q.change.getLsbD i.bit then
        { s.moulder.spindle i with wear := 0, worn := false, spent := false } else s.moulder.spindle i
      exec (.toolingReady []) s = .next (okOf 0x31#8 [] { h with moulder := { s.moulder with
        state := .running, current := installed s q, next := none, top := fresh .top, bottom := fresh .bottom
        tongue := fresh .tongue, groove := fresh .groove } }))) ∧
  ∀ s : State,
    (∀ a b c : Nat,
      let p := toBytes 1 a ++ toBytes 1 b ++ toBytes 1 c
      Receives s p → a ≤ 255 → b ≤ 255 → c ≤ 255 → (a = 0 ∨ 63 < a ∨ b = 0 ∨ 15 < b ∨ 15 < c) →
      exec (.newRun p) s = .next (refusedOf 0x30#8 .badArgument (found s))) ∧
    (Receives s [] → s.moulder.state ≠ .changeover →
      exec (.toolingReady []) s = .next (refusedOf 0x31#8 .wrongState (found s)))

/-! ## The station link and the matcher (chapter 3) -/

/-- The station link receiver: a start byte in HUNT begins a frame with a 10 ms timer and is data in RECEIVING; a discarded
frame is counted and nothing else changes; a report that passes every test joins the buffer and starts an IDLE matcher, or
is dropped under REPORT_OVERRUN when the buffer holds 4; a payload whose entry count disagrees is a bad frame. A frame
timeout in HUNT changes nothing (log entry 2), and a discard is counted in HUNT too, as frames are taken whole (log entry
9): both are the model's (R40 to R43, R207). -/
def Obligations.StationLinkReception : Prop :=
  ∀ s : State, s.resetPin = false →
    let q := entered s
    let hunt : Matcher := { s.matcher with receiving := false, frameTimer := none }
    let dropped : State := { q with
      matcher := hunt
      counters := s.counters.set Counter.reportBadFrame.idx (min 65535 (s.count .reportBadFrame + 1)) }
    (s.matcher.receiving = false → exec .stationFrameBegin s =
      .next { q with matcher := { s.matcher with receiving := true, frameTimer := some 10 } }) ∧
    (s.matcher.receiving = true → exec .stationFrameBegin s = .next q) ∧
    exec .stationFrameDiscarded s = .next dropped ∧
    (s.matcher.receiving = true → exec .stationFrameTimeout s = .next dropped) ∧
    (s.matcher.receiving = false → exec .stationFrameTimeout s = .next q) ∧
    (∀ p : List Byte, fieldAt p 8 1 ≤ 32 → p.length = 9 + 7 * fieldAt p 8 1 →
      exec (.reportReceived p) s = if s.matcher.buffer.length < 4 then
          .next { q with matcher := { hunt with
            buffer := s.matcher.buffer ++ [{ head := BitVec.ofNat 32 (fieldAt p 0 4), length := fieldAt p 4 2
                                             moisture := fieldAt p 6 2
                                             entries := (List.range (fieldAt p 8 1)).map fun i =>
                                               rawEntry (p.drop (9 + 7 * i)) }]
            matching := true } }
        else .next { q with
          matcher := hunt
          counters := s.counters.set Counter.reportOverrun.idx (min 65535 (s.count .reportOverrun + 1)) }) ∧
    (∀ p : List Byte, 32 < fieldAt p 8 1 ∨ p.length ≠ 9 + 7 * fieldAt p 8 1 →
      exec (.reportReceived p) s = .next dropped)

/-- A pass picks the strip of its set that fits with the smallest position distance, the one that entered first among
equals, and none when none fits (R45). -/
def Obligations.PassPicksNearestStrip : Prop :=
  ∀ (s : State) (q : Report) (set : Strip → Bool),
    (∀ r, s.pass q set = some r ↔ ∃ l1 l2, s.strips = l1 ++ r :: l2 ∧ set r = true ∧ s.fits q r = true ∧
      (∀ x ∈ l1, set x = true → s.fits q x = true → s.posDistance q r < s.posDistance q x) ∧
      (∀ x ∈ l2, set x = true → s.fits q x = true → s.posDistance q r ≤ s.posDistance q x)) ∧
    (s.pass q set = none ↔ ∀ x ∈ s.strips, set x = true → s.fits q x = false) ∧
    (∀ r, s.fits q r = true ↔ r.state ≠ .entering ∧ ∃ lm, r.lm = some lm ∧
      (q.head - s.scanTarget r).toInt.natAbs ≤ s.limits.tp ∧ q.length ≤ lm + s.limits.tl ∧ lm ≤ q.length + s.limits.tl)

/-- A match completes with the outcome of the first pass that finds a strip: candidates, then strips decided without a
report, then strips with one, and ORPHAN otherwise; its counter and notice follow, the report leaves the buffer, and the
matcher goes on while the buffer is not empty. The part written is the moisture up to 999, the first 12 entries that pass
the tests of R48 with their extents clamped, the overflow flag and the discarded count (R43 to R50). -/
def Obligations.MatchOutcomes : Prop :=
  ∀ (s : State) (q : Report) (rest : List Report), s.resetPin = false → s.matcher.matching = true →
    s.matcher.buffer = q :: rest →
    let after : State := { entered s with matcher := { s.matcher with buffer := rest, matching := !rest.isEmpty } }
    let candidate := fun r : Strip => (r.state == .lineal || r.state == .loaded) && r.report.isNone
    let late := fun r : Strip => (r.state == .decided || r.state == .trimmed) && r.report.isNone
    let again := fun r : Strip => r.state != .entering && r.report.isSome
    let kept := fun lm => q.entries.filterMap fun e =>
      match DefectClass.ofNum e.cls, Face.ofNum e.face with
      | some c, some f => if 1 ≤ e.extent ∧ 1 ≤ e.size ∧ e.x < lm then
          some ({ cls := c, face := f, x := e.x, extent := min e.extent (lm - e.x), size := e.size } : Defect) else none
      | _, _ => none
    let part := fun lm => ({ moisture := min q.moisture 999, defects := (kept lm).take 12
                             overflow := decide (12 < (kept lm).length)
                             discarded := q.entries.length - (kept lm).length } : ReportPart)
    (∀ r lm, s.pass q candidate = some r → r.lm = some lm →
      let t : State := { after with
        strips := s.strips.map fun x => if x.tag = r.tag then { x with report := some (part lm) } else x }
      let t := (t.bump .reportMatched).bumpBy .defectsDiscarded (part lm).discarded
      exec .matchCompletion s = .next (if (part lm).overflow then t.bump .reportOverflow else t)) ∧
    (∀ r, s.pass q candidate = none → s.pass q late = some r →
      exec .matchCompletion s = .next ((State.bump { after with
        strips := s.strips.map fun x => if x.tag = r.tag then { x with lateReport := true } else x }
          .reportLate).raise .reportLate)) ∧
    (∀ r, s.pass q candidate = none → s.pass q late = none → s.pass q again = some r →
      exec .matchCompletion s = .next (after.bump .reportDuplicate)) ∧
    (s.pass q candidate = none → s.pass q late = none → s.pass q again = none →
      exec .matchCompletion s = .next ((after.bump .reportOrphan).raise .reportOrphan))

/-! ## The transfer and the chain (chapter 4) -/

/-- The transfer eye and the verify eye. An unblock less than 20 counts after the last clear is a flicker. Any other is a
clear at P: it clears the watched strip when P lies within Tt of its expectation, and otherwise joins UNKNOWN wood to the
list and leaves the watched strip watched, overdue or not; with two entries in the list it is an overload, and a strip it
matches is LOST (R59, R60, R62). A strip that a clear makes the watched one is lost at once when P has passed its deadline
(R27). A block of the verify eye sets the latch (R65). -/
def Obligations.TransferClears : Prop :=
  ∀ s : State, s.resetPin = false →
    let q := entered s
    let clear := fun l : List LoadEntry => { q with chain := { s.chain with load := l, lastClear := some s.lineal.p } }
    let near := fun r => (s.lineal.p - s.transferTarget r).toInt.natAbs ≤ s.limits.tt
    (∀ p0, s.chain.lastClear = some p0 → (s.lineal.p - p0).toNat < 20 → exec .transferClear s = .next q) ∧
    ((∀ p0, s.chain.lastClear = some p0 → 20 ≤ (s.lineal.p - p0).toNat) →
      (s.chain.load.length < 2 →
        (∀ r, Quiet s → s.watched? = some r → near r →
          exec .transferClear s = .next (clear (s.chain.load ++ [.strip r.tag]))) ∧
        ((∀ r, s.watched? = some r → ¬ near r) →
          exec .transferClear s = .next ((clear (s.chain.load ++ [.unknown])).bump .transferUnknown)) ∧
        (∀ r x, s.watched? = some r → near r → s.lineal.queue = [r.tag, x.tag] → x.tag ≠ r.tag →
          s.strip? x.tag = some x → x.state = .lineal → x.serial = none → s.chain.load = [] →
          passed s.lineal.p (s.transferLast x) = true → s.moulder.state ≠ .draining →
          exec .transferClear s = .next (State.raise (State.bump { clear [.strip r.tag] with
            strips := s.strips.filter fun y => y.tag ≠ x.tag
            lineal := { s.lineal with queue := [r.tag] } } .lostTransfer) .stripLost))) ∧
      (s.chain.load.length = 2 →
        (∀ r, Quiet s → s.watched? = some r → r.serial = none → near r →
          exec .transferClear s = .next ((State.bump (State.bump { clear s.chain.load with
            strips := s.strips.filter fun x => x.tag ≠ r.tag
            lineal := { s.lineal with queue := s.lineal.queue.filter (· ≠ r.tag) } }
              .transferOverload) .lostOverload).raise .stripLost)) ∧
        ((∀ r, s.watched? = some r → ¬ near r) →
          exec .transferClear s = .next ((clear s.chain.load).bump .transferOverload)))) ∧
    exec .verifyEyeBlock s = .next { q with chain := { s.chain with latch := true } }

/-- A lug tick over an empty chain advances the serial, clears the calendar's oldest entry and loads the pending load list
onto the lug at offset 0 as Table 4-4 gives: the kind, the names in clear order, each named strip LOADED on that serial,
DOUBLED_LUGS, LOAD_UNKNOWN and its notice. It changes nothing else (R55, R63, R64, R114). -/
def Obligations.LugTickLoads : Prop :=
  ∀ s : State, s.resetPin = false → AloneAt s 0 none → s.slot (lugAt s 0) = { kind := .empty, named := [] } →
    HeadsIdle s → s.chain.latch = false →
    let load := fun (kind : SlotKind) (named : List Nat) =>
      ({ ticked s with
        strips := s.strips.map fun r => if r.tag ∈ named then
          { r with state := .loaded, serial := some (lugAt s 0), doubled := decide (kind = .doubled) } else r
        lineal := { s.lineal with queue := s.lineal.queue.filter (· ∉ named) }
        chain := { s.chain with
          serial := lugAt s 0, load := []
          slots := s.chain.slots.set (ringIdx (lugAt s 0)) { kind := kind, named := named } } } : State)
    (s.chain.load = [] → exec .lugTick s = .next (load .empty [])) ∧
    (∀ a, s.chain.load = [.strip a] → exec .lugTick s = .next (load .strip [a])) ∧
    (s.chain.load = [.unknown] ∨ s.chain.load = [.unknown, .unknown] →
      exec .lugTick s = .next (((load .unknown []).raise .unknownStrip).bump .loadUnknown)) ∧
    (∀ a b, s.chain.load = [.strip a, .strip b] → exec .lugTick s = .next ((load .doubled [a, b]).bump .doubledLugs)) ∧
    (∀ a, s.chain.load = [.strip a, .unknown] ∨ s.chain.load = [.unknown, .strip a] →
      exec .lugTick s = .next ((load .doubled [a]).bump .doubledLugs))

/-- The verify check of a lug tick: the latch is compared with the slot of the lug that reaches V as Table 4-5 gives, and
cleared (R65, R66). -/
def Obligations.LugTickVerifies : Prop :=
  ∀ s : State, s.resetPin = false → AloneAt s s.geometry.v none → HeadsIdle s → s.chain.load = [] →
    s.moulder.state ≠ .draining →
    let n := lugAt s s.geometry.v
    let t := fun (l : LugSlot) => ({ ticked s with
      chain := { s.chain with
        serial := s.chain.serial + 1, latch := false
        slots := (s.chain.slots.set (ringIdx (lugAt s 0)) { kind := .empty, named := [] }).set (ringIdx n) l } } : State)
    (s.chain.latch = true → (s.slot n).kind ≠ .empty → exec .lugTick s = .next (t (s.slot n))) ∧
    (s.chain.latch = false → (s.slot n).kind = .empty → exec .lugTick s = .next (t (s.slot n))) ∧
    (s.chain.latch = true → (s.slot n).kind = .empty →
      exec .lugTick s = .next (((t { s.slot n with kind := .unknown }).bump .verifyUnknown).raise .unknownStrip)) ∧
    (s.chain.latch = false → (s.slot n).kind = .unknown →
      exec .lugTick s = .next (t { s.slot n with kind := .empty })) ∧
    (∀ a r, s.chain.latch = false → (s.slot n).kind = .strip ∨ (s.slot n).kind = .doubled → (s.slot n).named = [a] →
      s.strip? a = some r → r.serial = some n →
      exec .lugTick s = .next ((State.bump { t { kind := .empty, named := [] } with
        strips := s.strips.filter fun x => x.tag ≠ a
        lineal := { s.lineal with queue := s.lineal.queue.filter (· ≠ a) } } .lostVerify).raise .stripLost)) ∧
    (∀ a b ra rb, s.chain.latch = false → (s.slot n).kind = .doubled → (s.slot n).named = [a, b] → a ≠ b →
      s.strip? a = some ra → ra.serial = some n → s.strip? b = some rb → rb.serial = some n →
      exec .lugTick s = .next ((State.bumpBy { t { kind := .empty, named := [] } with
        strips := s.strips.filter fun x => x.tag ≠ a ∧ x.tag ≠ b
        lineal := { s.lineal with queue := s.lineal.queue.filter fun x => x ≠ a ∧ x ≠ b } } .lostVerify 2).raise
          .stripLost))

/-- At the chain end each strip named on the lug retires under the end counter of its disposition, both strips of a DOUBLED
lug that names two under END_FAULTED; an UNKNOWN slot is counted, and the lug leaves the map (R67). A strip whose drop is
pending is left to its bay: when the bay stands at X - 1, its confirm window closes at this tick, the strip retires
DROP_UNVERIFIED, its bundle counts it, a FILLING bay applies its completion test, and no end counter rises (R68, R130,
R133). -/
def Obligations.LugTickChainEnd : Prop :=
  ∀ s : State, s.resetPin = false → HeadsIdle s → s.chain.load = [] → s.chain.latch = false →
    let n := lugAt s s.geometry.x
    let t := { bareTick s with chain := { (bareTick s).chain with
      slots := (bareTick s).chain.slots.set (ringIdx n) { kind := .empty, named := [] } } }
    let gone := fun named : List Nat => ({ t with
      strips := s.strips.filter fun x => x.tag ∉ named
      lineal := { s.lineal with queue := s.lineal.queue.filter (· ∉ named) } } : State)
    (AloneAt s s.geometry.x none →
      ((s.slot n).named = [] → exec .lugTick s =
        .next (if (s.slot n).kind = .unknown then t.bump .endUnknown else t)) ∧
      (∀ a r d, (s.slot n).named = [a] → (s.slot n).kind ≠ .unknown → s.strip? a = some r → r.serial = some n →
        r.decision = some d → r.dropPending = false →
        let leave := fun c => exec .lugTick s = .next ((gone [a]).bump c)
        (d.disposition = .overflow → leave .endOverflow) ∧ (d.disposition = .reject → leave .endReject) ∧
          (d.disposition = .ungraded → leave .endUngraded) ∧ (d.disposition = .uncut → leave .endUncut) ∧
          (d.disposition = .faulted → leave .endFaulted)) ∧
      (∀ a b ra rb da db, (s.slot n).kind = .doubled → (s.slot n).named = [a, b] → a ≠ b →
        s.strip? a = some ra → ra.serial = some n → ra.decision = some da → da.disposition = .faulted →
        ra.dropPending = false →
        s.strip? b = some rb → rb.serial = some n → rb.decision = some db → db.disposition = .faulted →
        rb.dropPending = false →
        exec .lugTick s = .next ((gone [a, b]).bumpBy .endFaulted 2)) ∧
      (∀ a r, (s.slot n).named = [a] → (s.slot n).kind ≠ .unknown → s.strip? a = some r → r.dropPending = true →
        exec .lugTick s = .next t)) ∧
    ∀ (k : BayId) (a : Nat) (r : Strip) (d : Decision) (c : Choice) (b : Bundle),
      AloneAt s s.geometry.x (some k) → s.bayOffset k + 1 = s.geometry.x → s.slot n = { kind := .empty, named := [a] } →
      s.strip? a = some r → r.serial = some n → r.dropPending = true → r.decision = some d → d.choice = some c →
      (s.bay k).planned = [] → (s.bay k).pendingDrop = some { serial := n, tag := a, attached := true } →
      (s.bay k).bundle = some b →
      exec .lugTick s = .next (tested ((gone [a]).bump .dropUnverified) k { s.bay k with pendingDrop := none }
        (resolved b c false))

/-! ## The decision (chapter 5) -/

/-- The lug at D. The strips of a DOUBLED lug are FAULTED, cause DOUBLED. The strip of a STRIP lug is decided by the first
pre-check that decides it: SIZE, FORCED, NO_REPORT, WET, HEAD_NOT_READY; it becomes DECIDED without a chosen option, its
decision counter counts it, and nothing is handed to calendar or bays (R73 to R76). A strip that passes them is decided
REJECT, cause SHORT, when no option is valid, and REJECT, cause NO_GRADE, when the option that ranks first has no grade
(R77, R88); otherwise that option is carried out, and each head is handed its plunge entry, which becomes its reference and,
at the front of a READY head's queue, sends its step when that differs from the commanded one, unless the air of the plunges
is refused (R89, R90, R100, R101). Wherever no plunge is handed, with one strip decided, two, or none, each READY head whose
reference is Lpark or more behind is handed a park (R80). -/
def Obligations.LugTickPreChecks : Prop :=
  ∀ (s : State), s.resetPin = false → AloneAt s s.geometry.d none → s.chain.load = [] → s.chain.latch = false →
    (∀ h : HeadId, ∀ e ∈ (s.head h).plan, e.serial ≠ lugAt s s.geometry.e) →
    let n := lugAt s s.geometry.d
    let withHeads := fun (t : State) (h1 h2 : Head) => { t with
      headSide := h1, tailSide := h2, pulses := strobe .headSide s.headSide h1 ++ strobe .tailSide s.tailSide h2 }
    let ends := fun t : State => exec .lugTick s = .next (withHeads t (parked s .headSide) (parked s .tailSide))
    let decided := fun (named : List Nat) (d : Disposition) (c : Cause) => ({ bareTick s with
      strips := s.strips.map fun r => if r.tag ∈ named then { r with
          state := .decided, decision := some { disposition := d, cause := some c, choice := none, dest := none } }
        else r } : State)
    ((s.slot n).named = [] → ends (bareTick s)) ∧
    (∀ a b, (s.slot n).kind = .doubled → (s.slot n).named = [a, b] →
      ends ((decided [a, b] .faulted .doubled).bumpBy .decidedFaulted 2)) ∧
    (∀ a, (s.slot n).kind = .doubled → (s.slot n).named = [a] →
      ends ((decided [a] .faulted .doubled).bump .decidedFaulted)) ∧
    (∀ a r, (s.slot n).kind = .strip → (s.slot n).named = [a] → s.strip? a = some r →
      let tick := bareTick s
      let forced := ∃ g, r.override = some (.grade g)
      (r.size ≠ .normal → ends ((decided [a] .faulted .size).bump .decidedFaulted)) ∧
      (r.size = .normal → r.override = some .reject → ends ((decided [a] .reject .forced).bump .decidedReject)) ∧
      (r.size = .normal → r.override = none → r.report = none →
        ends ((decided [a] .ungraded .noReport).bump .decidedUngraded)) ∧
      (∀ q, r.size = .normal → r.override = none → r.report = some q → s.limits.moisture < q.moisture →
        ends ((decided [a] .reject .wet).bump .decidedReject)) ∧
      (r.size = .normal → (forced ∨ (r.override = none ∧ ∃ q, r.report = some q ∧ q.moisture ≤ s.limits.moisture)) →
        (s.headSide.state ≠ .ready ∨ s.tailSide.state ≠ .ready →
          ends ((decided [a] .uncut .headNotReady).bump .decidedUncut)) ∧
        (s.headSide.state = .ready → s.tailSide.state = .ready →
          (tick.ranking r.grading n = none → ends ((decided [a] .reject .short).bump .decidedReject)) ∧
          (∀ o, tick.ranking r.grading n = some o →
            (o.grade = none → ends ((decided [a] .reject .noGrade).bump .decidedReject)) ∧
            (∀ g, o.grade = some g →
              let c : Choice := { grade := g, headStep := o.option.headStep, tailStep := o.option.tailStep, lf := o.lf
                                  band := o.lf / 100, value := o.value }
              let u := (carryOut tick n a r.grading c).1
              if tick.airFits (n + BitVec.ofNat 32 s.geometry.e) 2 then
                exec .lugTick s = .next (withHeads u (handed s.headSide { serial := n, step := c.headStep, plunge := true })
                  (handed s.tailSide { serial := n, step := c.tailStep, plunge := true }))
              else ends u)))))

/-- The chosen option is valid, and no valid option ranks before it: by value, then longer Lf, then lower head step, then
lower tail step; and there is one whenever an option is valid. A valid option leaves 250 mm or more and lies within
S(n - m) steps of both references (R77, R79, R87, R88). -/
def Obligations.ChosenOptionRanksFirst : Prop :=
  ∀ (s : State) (q : Grading) (n : Serial),
    (∀ o, s.ranking q n = some o →
      o.option ∈ allOptions ∧ s.valid q.lm n o.option = true ∧ o = s.rate q o.option ∧
      ∀ p ∈ allOptions, s.valid q.lm n p = true → p ≠ o.option → o.before (s.rate q p) = true) ∧
    (s.ranking q n = none ↔ ∀ p ∈ allOptions, s.valid q.lm n p = false) ∧
    (∀ p, p ∈ allOptions ↔ p.headStep ≤ 7 ∧ p.tailStep ≤ 7) ∧
    (∀ p r1 r2, s.headSide.reference = some r1 → s.tailSide.reference = some r2 →
      (s.valid q.lm n p = true ↔ 250 ≤ q.lm - (3 + 10 * p.headStep) - (3 + 10 * p.tailStep) ∧
        (p.headStep : Int) - r1.step ≤ s.limits.speed * (n - r1.serial).toNat ∧
        (r1.step : Int) - p.headStep ≤ s.limits.speed * (n - r1.serial).toNat ∧
        (p.tailStep : Int) - r2.step ≤ s.limits.speed * (n - r2.serial).toNat ∧
        (r2.step : Int) - p.tailStep ≤ s.limits.speed * (n - r2.serial).toNat)) ∧
    (∀ p, (s.rate q p).value = match s.optionGrade q p with
      | some g => s.grades[gradeIdx g].price * p.lf q.lm * (16 + if ∃ k : BayId, s.accepts k g (p.lf q.lm / 100)
          q.species q.profile = true then s.limits.boost else 0)
      | none => 0)

/-- The grade of an option is the first from the cap toward G4 that is enabled, whose Dmax the density does not pass, and
none of whose forbidden classes remains, where the density is the points total times 1000 over Lf, rounded up, plus the
derate; a forced grade is taken as it is. A defect's points are those of its size, halved and rounded up on EDGE, then
doubled once when its class is end-sensitive and it overlaps an end zone of length Z above 0 (R81 to R85). -/
def Obligations.OptionGradeFollowsTheTable : Prop :=
  (∀ (s : State) (q : Grading) (o : TrimOption),
      (∀ g, q.forced = some g → s.optionGrade q o = some g) ∧
      (q.forced = none → 0 < o.lf q.lm →
        let left := q.defects.filter fun d => 3 + 10 * o.headStep < d.x + d.extent ∧ d.x < q.lm - (3 + 10 * o.tailStep)
        let total := (left.map fun d => d.points s.points[classIdx d.cls] q.lm s.limits.zone o).sum
        let fits := fun g : Grade => (s.grades[gradeIdx g]).enabled = true ∧
          total * 1000 ≤ ((s.grades[gradeIdx g]).dmax - q.derate) * o.lf q.lm ∧ q.derate ≤ (s.grades[gradeIdx g]).dmax ∧
          ∀ d ∈ left, (s.grades[gradeIdx g]).forbidden.getLsbD (classIdx d.cls) = false
        (∀ g, s.optionGrade q o = some g ↔
          q.cap.num ≤ g.num ∧ fits g ∧ ∀ k : Grade, q.cap.num ≤ k.num → k.num < g.num → ¬ fits k) ∧
        (s.optionGrade q o = none ↔ ∀ g, q.cap.num ≤ g.num → ¬ fits g))) ∧
  ∀ (d : Defect) (c : ClassPoints) (lm z : Nat) (o : TrimOption),
      let base := if d.size ≤ c.s1 then c.p0 else if d.size ≤ c.s2 then c.p1 else if d.size ≤ c.s3 then c.p2 else c.p3
      let faced := match d.face with
        | .top => base
        | .edge => base - base / 2
      let b := 3 + 10 * o.headStep
      let e := lm - (3 + 10 * o.tailStep)
      (c.endSensitive = false → d.points c lm z o = faced) ∧
      (z = 0 → d.points c lm z o = faced) ∧
      (c.endSensitive = true → 0 < z →
        (d.x < b + z ∧ b < d.x + d.extent ∨ d.x < e ∧ e - z < d.x + d.extent → d.points c lm z o = 2 * faced) ∧
        (¬ (d.x < b + z ∧ b < d.x + d.extent) → ¬ (d.x < e ∧ e - z < d.x + d.extent) → d.points c lm z o = faced)) ∧
      (PointsBounds c → d.points c lm z o ≤ 510)

/-- The chosen option is carried out in three steps: two starts at n + E, or UNCUT for want of AIR; the two plunge
entries; and the bay with the smallest remaining count, the lowest number among equals, that accepts the strip and is
granted a start at n + b, each candidate refused before it counted under AIR_REFUSED, or OVERFLOW, NO_BAY when none accepts
and AIR when none is granted (R89 to R92, R115, R128). -/
def Obligations.ChoiceIsCarriedOut : Prop :=
  ∀ (s : State) (n : Serial) (tag : Nat) (q : Grading) (c : Choice),
    let air := n + BitVec.ofNat 32 s.geometry.e
    let decided := fun (t : State) (d : Disposition) (cause : Option Cause) (dest : Option Destination) =>
      ({ t with strips := s.strips.map fun r => if r.tag = tag then { r with
          state := .decided, decision := some { disposition := d, cause := cause, choice := some c, dest := dest } }
        else r } : State)
    let planned : State := { s with
      calendar := s.calendar.set (ringIdx air) { s.calEntry air with planned := (s.calEntry air).planned + 2 } }
    let entries := [(HeadId.headSide, ({ serial := n, step := c.headStep, plunge := true } : PlanEntry)),
      (HeadId.tailSide, { serial := n, step := c.tailStep, plunge := true })]
    let accepts := fun k : BayId => s.accepts k c.grade c.band q.species q.profile = true
    let dropAt := fun k : BayId => n + BitVec.ofNat 32 (s.bayOffset k)
    let ahead := fun j k : BayId => s.bayRemaining j < s.bayRemaining k ∨ (s.bayRemaining j = s.bayRemaining k ∧ j < k)
    (s.airFits air 2 = false → carryOut s n tag q c =
      (((decided s .uncut (some .air) none).bump .airRefused).bump .decidedUncut, [])) ∧
    (s.airFits air 2 = true → (∀ k, ¬ accepts k) → carryOut s n tag q c =
      ((decided planned .overflow (some .noBay) none).bump .decidedOverflow, entries)) ∧
    (∀ (k : BayId) (b : Bundle), s.airFits air 2 = true → accepts k → (s.bay k).bundle = some b →
      planned.airFits (dropAt k) 1 = true → (∀ j, accepts j → ahead j k → planned.airFits (dropAt j) 1 = false) →
      let band := b.bands[bandIdx c.band]
      let committed : Bundle := { b with
        committed := b.committed + 1
        bands := b.bands.set (bandIdx c.band) { band with committed := band.committed + 1 } }
      let routed : State := { (decided planned .sort none (some { bay := k, bundle := b.serial })) with
        calendar := planned.calendar.set (ringIdx (dropAt k))
          { planned.calEntry (dropAt k) with planned := (planned.calEntry (dropAt k)).planned + 1 }
        bays := s.bays.set k { s.bay k with
          bundle := some committed, planned := (s.bay k).planned ++ [{ serial := n, tag := tag }] } }
      let refused := (allBays.filter fun j => s.accepts j c.grade c.band q.species q.profile &&
        (s.bayRemaining j < s.bayRemaining k || (s.bayRemaining j = s.bayRemaining k && j < k))).length
      carryOut s n tag q c =
        ((if refused = 0 then routed else routed.bumpBy .airRefused refused).bump .decidedSort, entries)) ∧
    (s.airFits air 2 = true → (∃ k, accepts k) → (∀ k, accepts k → planned.airFits (dropAt k) 1 = false) →
      let refusals := (allBays.filter fun k => s.accepts k c.grade c.band q.species q.profile).length
      carryOut s n tag q c =
        (((decided planned .overflow (some .air) none).bumpBy .airRefused refusals).bump .decidedOverflow, entries)) ∧
    (∀ k, accepts k ↔ (s.bay k).state = .filling ∧ ∃ b, (s.bay k).bundle = some b ∧ b.closing = false ∧
      q.species = b.copy.species ∧ q.profile = b.copy.profile ∧ b.copy.grades.getLsbD (gradeIdx c.grade) = true ∧
      b.committed + b.deposited + b.unverified < b.copy.target ∧
      b.bands[bandIdx c.band].committed + b.bands[bandIdx c.band].deposited + b.bands[bandIdx c.band].unverified
        < b.copy.quotas[bandIdx c.band])

/-! ## The heads, the calendar and the drops (chapters 6 and 7) -/

/-- The end-match tick for the lug of a DECIDED strip. Each head's front entry for the serial is taken and becomes its last
executed entry, a READY head is sent the next entry's step when that differs from the commanded one, and the strip becomes
TRIMMED (R103). With a plunge in both front entries and both heads in position both saws plunge, the strip stays as it was
decided, and two planned starts become made (R104). With a plunge and a head MOVING, or a plunge of one head alone, neither
saw plunges: the strip is UNCUT, cause LATE_POSITION, its two starts are freed, and a SORT strip loses its destination, its
planned drop, its drop start and its commitment, at which a FILLING bay applies its completion test (R105, R106, R117, R132,
R133). Entries without a plunge are moves alone (R106). -/
def Obligations.LugTickCutsOrIsLate : Prop :=
  ∀ (s : State) (a : Nat) (r : Strip) (d : Decision) (dropping : Option BayId),
    s.resetPin = false → AloneAt s s.geometry.e dropping → NoPark s → s.chain.load = [] → s.chain.latch = false →
    let n := lugAt s s.geometry.e
    let tick := s.chain.serial + 1
    (s.slot n).kind = .strip → (s.slot n).named = [a] → s.strip? a = some r → r.state = .decided →
    r.decision = some d →
    (∀ k, dropping = some k → (s.bay k).planned = [{ serial := n, tag := a }] ∧ (s.bay k).pendingDrop = none) →
    let plunges := fun h : Head => (frontOn h n).any (·.plunge)
    let one := plunges s.headSide = true ∨ plunges s.tailSide = true
    let cut := plunges s.headSide = true ∧ plunges s.tailSide = true ∧ s.headSide.inPosition = true ∧
      s.tailSide.inPosition = true
    let was := s.calEntry tick
    let trimmed := fun x : Strip => if x.state = .decided then { x with state := .trimmed } else x
    let uncut := fun x : Strip => { x with
      decision := x.decision.map fun d => { d with disposition := .uncut, cause := some .latePosition, dest := none } }
    let t := ({ bareTick s with
      strips := s.strips.map fun x => if x.tag = a then trimmed x else x
      headSide := tookFront s.headSide n, tailSide := tookFront s.tailSide n
      pulses := strobe .headSide s.headSide (tookFront s.headSide n) ++
        strobe .tailSide s.tailSide (tookFront s.tailSide n) } : State)
    let freed := (bareTick s).calendar.set (ringIdx tick) { planned := was.planned - 2, made := was.made }
    let late := ({ t with
      strips := s.strips.map fun x => if x.tag = a then uncut (trimmed x) else x
      calendar := freed, freeCount := s.freeCount + 1 } : State)
    (cut → exec .lugTick s = .next (State.bump { t with
      calendar := (bareTick s).calendar.set (ringIdx tick) { planned := was.planned - 2, made := was.made + 2 }
      pulses := [.plunge .headSide, .plunge .tailSide] ++ t.pulses } .cuts)) ∧
    (one → ¬ cut → d.dest = none → exec .lugTick s = .next (late.bump .latePosition)) ∧
    (∀ (k : BayId) (b : Bundle) (c : Choice), one → ¬ cut → d.disposition = .sort →
      d.dest = some { bay := k, bundle := b.serial } → d.choice = some c → dropping = some k →
      (s.bay k).bundle = some b →
      let drop := n + BitVec.ofNat 32 (s.bayOffset k)
      let start := s.calEntry drop
      ∃ u, exec .lugTick s = .next u ∧ AfterTest (State.bump { late with
        calendar := freed.set (ringIdx drop) { start with planned := start.planned - 1 } } .latePosition)
          k { s.bay k with planned := [] } (without b c) u) ∧
    (¬ one → exec .lugTick s = .next t)

/-- A lug tick at a bay. A pending drop whose confirm window closes retires DROP_UNVERIFIED: the slot of its lug, now past the
bay, names no strip, and an attached drop goes into the bundle's counts, with the completion test of a FILLING bay (R129,
R130, R133). A planned drop whose lug stands at the bay is made: the flap pulses, the start is made, the slot reads EMPTY
with the strip still named, DROP_PENDING is set and DROPS counts it (R129, R116). Where both fall at one tick the window
closes first; the drop that is made holds a commitment of its own, so that the bundle is not complete then. -/
def Obligations.LugTickDrops : Prop :=
  ∀ (s : State) (k : BayId), s.resetPin = false → s.homed = [] → GeometryBounds s.geometry → HeadsIdle s →
    s.chain.load = [] → s.chain.latch = false →
    let n := lugAt s (s.bayOffset k)
    let m := lugAt s (s.bayOffset k + 1)
    (∀ x : Serial, ringIdx x ≠ ringIdx n → ringIdx x ≠ ringIdx m → s.slot x = { kind := .empty, named := [] }) →
    (∀ j : BayId, j ≠ k → (s.bay j).planned = [] ∧ (s.bay j).pendingDrop = none) →
    let tick := s.chain.serial + 1
    let was := s.calEntry tick
    let slots := (bareTick s).chain.slots
    let due := fun (a : Nat) (rest : List PlannedDrop) =>
      s.slot n = { kind := .strip, named := [a] } ∧ (∃ r, s.strip? a = some r) ∧
        (s.bay k).planned = { serial := n, tag := a } :: rest
    let made := ({ bareTick s with
      pulses := [.flap k]
      calendar := (bareTick s).calendar.set (ringIdx tick) { planned := was.planned - 1, made := was.made + 1 } } : State)
    let closes := fun (d : PendingDrop) (r : Strip) (g : Decision) (c : Choice) (b : Bundle) =>
      (s.bay k).pendingDrop = some d ∧ d.serial = m ∧ s.slot m = { kind := .empty, named := [d.tag] } ∧
        s.strip? d.tag = some r ∧ r.serial = some m ∧ r.decision = some g ∧ g.choice = some c ∧
        (s.bay k).bundle = some b
    (∀ a rest, due a rest → (s.bay k).pendingDrop = none → s.slot m = { kind := .empty, named := [] } →
      exec .lugTick s = .next (State.bump { made with
        chain := { made.chain with slots := slots.set (ringIdx n) { kind := .empty, named := [a] } }
        strips := s.strips.map fun x => if x.tag = a then { x with dropPending := true } else x
        bays := s.bays.set k { s.bay k with
          planned := rest, pendingDrop := some { serial := n, tag := a, attached := true } } } .drops)) ∧
    (∀ d r g c b, closes d r g c b → s.slot n = { kind := .empty, named := [] } →
      (∀ e ∈ (s.bay k).planned, e.serial ≠ n) →
      let bay := { s.bay k with pendingDrop := none }
      let t := State.bump { bareTick s with
        chain := { (bareTick s).chain with slots := slots.set (ringIdx m) { kind := .empty, named := [] } }
        strips := s.strips.filter fun x => x.tag ≠ d.tag
        lineal := { s.lineal with queue := s.lineal.queue.filter (· ≠ d.tag) } } .dropUnverified
      exec .lugTick s = .next (if d.attached then tested t k bay (resolved b c false)
        else { t with bays := s.bays.set k bay })) ∧
    (∀ a rest d r g c b, due a rest → closes d r g c b → a ≠ d.tag → (d.attached = true → 1 < b.committed) →
      exec .lugTick s = .next (State.bump (State.bump { made with
        chain := { made.chain with
          slots := (slots.set (ringIdx m) { kind := .empty, named := [] }).set (ringIdx n) { kind := .empty, named := [a] } }
        strips := (s.strips.filter fun x => x.tag ≠ d.tag).map fun x =>
          if x.tag = a then { x with dropPending := true } else x
        lineal := { s.lineal with queue := s.lineal.queue.filter (· ≠ d.tag) }
        bays := s.bays.set k { s.bay k with
          planned := rest, pendingDrop := some { serial := n, tag := a, attached := true }
          bundle := some (if d.attached then resolved b c false else b) } } .dropUnverified) .drops))

/-- A bay's pending drop resolves at the confirm, DEPOSITED, and at the window's end without one, DROP_UNVERIFIED: the
strip retires and its slot names no strip. An attached drop goes into the bundle's counts, the band's, the grade's and the
length, with UNCERTAIN when unverified, and a FILLING bay applies its completion test: with a commitment left, or below the
target with the closing flag clear, it stays; at the target it goes to SETTLING, and below it with the flag set too, with
SHORT set and BUNDLES_SHORT counted. A detached drop changes no bundle. A confirm without a pending drop is stray (R130,
R131, R133, log entry 6). -/
def Obligations.DropResolution : Prop :=
  ∀ (s : State) (k : BayId), s.resetPin = false →
    let level := { s.inputs with bayConfirm := s.inputs.bayConfirm.set k true }
    ((s.bay k).pendingDrop = none →
      exec (.bayConfirm k true) s = .next ((State.bump { entered s with inputs := level }) .strayConfirm) ∧
      exec (.dropUnverified k) s = .next (entered s)) ∧
    (exec (.bayConfirm k false) s =
      .next { entered s with inputs := { s.inputs with bayConfirm := s.inputs.bayConfirm.set k false } }) ∧
    (∀ (d : PendingDrop) (r : Strip) (confirmed : Bool),
      (s.bay k).pendingDrop = some d → s.strip? d.tag = some r → r.serial = some d.serial →
      let event := if confirmed then Instr.bayConfirm k true else .dropUnverified k
      let bay := { s.bay k with pendingDrop := none }
      let t := State.bump { entered s with
        inputs := if confirmed then level else s.inputs
        strips := s.strips.filter fun x => x.tag ≠ d.tag
        lineal := { s.lineal with queue := s.lineal.queue.filter (· ≠ d.tag) }
        chain := { s.chain with
          slots := s.chain.slots.set (ringIdx d.serial) { s.slot d.serial with
            named := (s.slot d.serial).named.filter (· ≠ d.tag) } } } (if confirmed then .deposited else .dropUnverified)
      (d.attached = false → exec event s = .next { t with bays := s.bays.set k bay }) ∧
      (∀ (g : Decision) (c : Choice) (b : Bundle), d.attached = true → r.decision = some g → g.choice = some c →
        (s.bay k).bundle = some b → exec event s = .next (tested t k bay (resolved b c confirmed))))

/-- The reservation law: a granted reservation leaves every window of W ticks that contains the tick with at most A starts
and the other windows as they were; a refused one changes no count, and some window would have passed A (R115). -/
def Obligations.ReservationKeepsAirLaw : Prop :=
  ∀ (s s' : State) (t : Serial) (c : Nat) (granted : Bool), 1 ≤ s.limits.window → s.limits.window ≤ 16 →
    s.ringHolds t = true → s.reserve t c = (s', granted) →
    let w := s.limits.window
    (granted = true → s' = { s with calendar := s'.calendar } ∧
      (∀ u : Serial, (t - u).toNat < w →
        s'.windowStarts u w = s.windowStarts u w + c ∧ s'.windowStarts u w ≤ s.limits.air) ∧
      (∀ u : Serial, w ≤ (t - u).toNat → s'.windowStarts u w = s.windowStarts u w)) ∧
    (granted = false → s' = s.bump .airRefused ∧
      ∃ u : Serial, (t - u).toNat < w ∧ s.limits.air < s.windowStarts u w + c)

/-- The positioner handshake, homing and CLEAR HEAD FAULT: in-position activations and deactivations set the position of a
READY head; the activation of a HOMING head makes it READY with reference step 0 at the lug at D; in FAULT they change
nothing but the input's level. HOMING_COMPLETE of a head that is not HOMING moves the input's level alone, which is the
model's reading (log entry 28). Of the homings completed right before a lug tick the first may have come before it and the
others together with it, with their references at the lug that the tick brings to D, so that step 0 alone is in reach there
(R76, log entry 35: how many is a free value). CLEAR HEAD FAULT sends a FAULT head, whose fault input is inactive, to step
0, and is refused for another head code, in another state and under an active fault input (R100, R109, R110). -/
def Obligations.HeadHandshake : Prop :=
  ∀ (s : State) (h : HeadId),
    let level := fun v : Bool => { entered s with inputs := match h with
      | .headSide => { s.inputs with inPositionHead := v }
      | .tailSide => { s.inputs with inPositionTail := v } }
    let ready : Head := { s.head h with
      state := .ready, inPosition := true, plan := []
      reference := some { step := 0, serial := s.chain.serial - BitVec.ofNat 32 s.geometry.d } }
    let homes := { (level true).setHead h ready with homed := s.homed ++ [h] }
    let code := toBytes 1 (match h with
      | .headSide => 1
      | .tailSide => 2)
    let faultInput := match h with
      | .headSide => s.inputs.faultHead
      | .tailSide => s.inputs.faultTail
    (s.resetPin = false →
      ((s.head h).state = .ready →
        exec (.inPositionActive h) s = .next ((level true).setHead h { s.head h with inPosition := true }) ∧
        exec (.homingComplete h) s = .next (level true)) ∧
      ((s.head h).state = .homing → exec (.inPositionActive h) s = .next homes ∧
        exec (.homingComplete h) s = .next homes) ∧
      (s.homed ≠ [] → ∃ before, let heads := s.homed.drop before
        exec .lugTick s = exec .lugTick { s with
          homed := [], freeCount := s.freeCount + 1
          headSide := homedWith s heads .headSide, tailSide := homedWith s heads .tailSide }) ∧
      ((s.head h).state ≠ .fault →
        exec (.inPositionInactive h) s = .next ((level false).setHead h { s.head h with inPosition := false })) ∧
      ((s.head h).state = .fault → exec (.inPositionActive h) s = .next (level true) ∧
        exec (.homingComplete h) s = .next (level true) ∧ exec (.inPositionInactive h) s = .next (level false))) ∧
    (∀ n : Nat, Receives s (toBytes 1 n) → n = 0 ∨ 3 ≤ n → n ≤ 255 →
      exec (.clearHeadFault (toBytes 1 n)) s = .next (refusedOf 0x39#8 .badArgument (found s))) ∧
    (Receives s code →
      ((s.head h).state = .fault → faultInput = false → exec (.clearHeadFault code) s =
        .next (okOf 0x39#8 [] { (found s).setHead h { s.head h with
          state := .homing, commanded := 0, inPosition := false, plan := [], reference := none } with
            pulses := [.step h 0] })) ∧
      ((s.head h).state ≠ .fault ∨ faultInput = true →
        exec (.clearHeadFault code) s = .next (refusedOf 0x39#8 .wrongState (found s))))

/-- A positioner fault. Without a plunge in the queue the head goes to FAULT with an empty queue and no reference, noticed
and counted; in FAULT, and at a deactivation, only the input's level changes. Each plunge of the emptied queue is the cut of
one DECIDED strip, which becomes UNCUT, cause HEAD_FAULT, and is counted; its two starts are freed, and the other head's
entries for its serial lose their plunge. A SORT strip also loses its destination, its planned drop, its drop start and its
commitment, at which a FILLING bay applies its completion test. The queue holds one plunge, of an OVERFLOW or of a SORT
strip, or several, each for a serial of its own, of strips of both kinds whose bays keep a commitment (R107, R108, R117,
R132, R133). -/
def Obligations.PositionerFaultCancelsCuts : Prop :=
  ∀ (s : State) (h other : HeadId), s.resetPin = false → other ≠ h →
    let level := fun v : Bool => { entered s with inputs := match h with
      | .headSide => { s.inputs with faultHead := v }
      | .tailSide => { s.inputs with faultTail := v } }
    let count := match h with
      | .headSide => Counter.faultsHeadSide
      | .tailSide => Counter.faultsTailSide
    let stopped := { s.head h with state := .fault, plan := [], reference := none }
    let fault := (((level true).setHead h stopped).raise .headFault).bump count
    let spared := fun serials : List Serial => { s.head other with
      plan := (s.head other).plan.map fun p => if p.serial ∈ serials then { p with plunge := false } else p }
    let uncut := fun tags : List Nat => s.strips.map fun x => if x.tag ∈ tags then { x with
      decision := x.decision.map fun d => { d with disposition := .uncut, cause := some .headFault, dest := none } } else x
    let cutOf := fun (e : PlanEntry) (r : Strip) =>
      s.strips.filter (fun x => x.state = .decided && x.serial = some e.serial) = [r] ∧ s.strip? r.tag = some r
    let air := fun e : PlanEntry => e.serial + BitVec.ofNat 32 s.geometry.e
    let dropAt := fun (e : PlanEntry) (k : BayId) => e.serial + BitVec.ofNat 32 (s.bayOffset k)
    exec (.positionerFault h false) s = .next (level false) ∧
    ((s.head h).state = .fault → exec (.positionerFault h true) s = .next (level true)) ∧
    ((s.head h).state ≠ .fault → (∀ e ∈ (s.head h).plan, e.plunge = false) →
      exec (.positionerFault h true) s = .next fault) ∧
    (∀ (e : PlanEntry) (r : Strip) (d : Decision), (s.head h).state ≠ .fault →
      (s.head h).plan.filter (·.plunge) = [e] → cutOf e r → r.decision = some d →
      let freed := s.calendar.set (ringIdx (air e)) { s.calEntry (air e) with planned := (s.calEntry (air e)).planned - 2 }
      let t := State.bump { fault.setHead other (spared [e.serial]) with calendar := freed, strips := uncut [r.tag] }
        .headFaultCancels
      (d.dest = none → exec (.positionerFault h true) s = .next t) ∧
      (∀ (k : BayId) (b : Bundle) (c : Choice) (q : PlannedDrop), GeometryBounds s.geometry → d.choice = some c →
        d.dest = some { bay := k, bundle := b.serial } → (s.bay k).bundle = some b →
        (s.bay k).planned.find? (fun x => x.tag = r.tag) = some q → q.serial = e.serial →
        let start := s.calEntry (dropAt e k)
        ∃ u, exec (.positionerFault h true) s = .next u ∧
          AfterTest { t with calendar := freed.set (ringIdx (dropAt e k)) { start with planned := start.planned - 1 } }
            k { s.bay k with planned := (s.bay k).planned.filter fun x => x.tag ≠ r.tag } (without b c) u)) ∧
    (∀ cuts : List (PlanEntry × Strip), (s.head h).state ≠ .fault → cuts ≠ [] →
      (s.head h).plan.filter (·.plunge) = cuts.map (·.1) → (cuts.map (·.1.serial)).Nodup →
      (∀ x ∈ cuts, cutOf x.1 x.2 ∧ ∃ d, x.2.decision = some d ∧ ∀ g, d.dest = some g → d.choice ≠ none ∧
        ∃ q, (s.bay g.bay).planned.find? (fun y => y.tag = x.2.tag) = some q ∧ q.serial = x.1.serial) →
      let sortedTo := fun k : BayId => cuts.filter fun x => (x.2.decision.bind (·.dest)).any fun g => g.bay = k
      (∀ k b, (s.bay k).bundle = some b → sortedTo k = [] ∨ (sortedTo k).length < b.committed) →
      ∃ t, exec (.positionerFault h true) s = .next t ∧ t.head h = stopped ∧ t.head other = spared (cuts.map (·.1.serial)) ∧
        t.strips = uncut (cuts.map (·.2.tag)) ∧
        (∀ n : Serial, t.calEntry n = { s.calEntry n with planned := (s.calEntry n).planned
          - 2 * (cuts.filter fun x => ringIdx (air x.1) = ringIdx n).length
          - (allBays.flatMap fun k => (sortedTo k).filter fun x => ringIdx (dropAt x.1 k) = ringIdx n).length }) ∧
        (∀ k : BayId, t.bay k = { s.bay k with
          planned := (s.bay k).planned.filter fun q => q.tag ∉ (sortedTo k).map (·.2.tag)
          bundle := (s.bay k).bundle.map fun b => { b with
            committed := b.committed - (sortedTo k).length
            bands := Vector.ofFn fun i => { b.bands[i] with
              committed := b.bands[i].committed - ((sortedTo k).filter fun x => bandIdx x.2.band = i).length } } }) ∧
        t.isPending .headFault = true ∧ t.count count = min 65535 (s.count count + 1) ∧
        t.count .headFaultCancels = min 65535 (s.count .headFaultCancels + cuts.length) ∧
        t = { level true with
          headSide := t.headSide, tailSide := t.tailSide, strips := t.strips, calendar := t.calendar, bays := t.bays
          counters := t.counters, link := { s.link with notices := t.link.notices } })

/-! ## Bays, the strapper and labels (chapters 7 and 9) -/

/-- CLOSE BUNDLE, CLEAR BAY, ENABLE BAY and DISABLE BAY: what each does to a bay, and the numbers and states it is refused for
(R134, R136, R145, R147). CLOSE BUNDLE sets the closing flag, and the bay applies its completion test, with the outcomes of
Table 7-4; so does CLEAR BAY where it returns a bay to FILLING (R133, R135). A bay whose strap timed out goes to the front of
the strapper FIFO, and an IDLE strapper takes it there at once (R137). ENABLE BAY takes a bay to EMPTY, where it takes the
oldest entry of the recipe queue if one waits, and is starved if none does (R126). -/
def Obligations.BayRequests : Prop :=
  ∀ (s : State) (k : BayId),
    let p := toBytes 1 (bayNum k)
    let put := fun (b : Bay) => { found s with bays := s.bays.set k b }
    let bay := s.bay k
    Receives s p →
    (∀ n : Nat, n = 0 ∨ 9 ≤ n → n ≤ 255 →
      exec (.closeBundle (toBytes 1 n)) s = .next (refusedOf 0x41#8 .badArgument (found s)) ∧
      exec (.abortBundle (toBytes 1 n)) s = .next (refusedOf 0x42#8 .badArgument (found s)) ∧
      exec (.clearBay (toBytes 1 n)) s = .next (refusedOf 0x43#8 .badArgument (found s)) ∧
      exec (.enableBay (toBytes 1 n)) s = .next (refusedOf 0x44#8 .badArgument (found s)) ∧
      exec (.disableBay (toBytes 1 n)) s = .next (refusedOf 0x45#8 .badArgument (found s))) ∧
    (∀ b, bay.state = .filling → bay.bundle = some b → ∃ u, exec (.closeBundle p) s = .next (okOf 0x41#8 [] u) ∧
      AfterTest (found s) k bay { b with closing := true } u) ∧
    (bay.state ≠ .filling → exec (.closeBundle p) s = .next (refusedOf 0x41#8 .wrongState (found s))) ∧
    (bay.state = .fault → s.inputs.bayFault[k] = false →
      (∀ b, bay.origin = some .filling → bay.bundle = some b → ∃ u, exec (.clearBay p) s = .next (okOf 0x43#8 [] u) ∧
        AfterTest (found s) k { bay with state := .filling, origin := none } b u) ∧
      (bay.origin = some .settling → exec (.clearBay p) s = .next (okOf 0x43#8 []
        (put { bay with state := .settling, origin := none, settleTimer := some bay.settleTime }))) ∧
      (bay.origin = some .strapTimeout → s.strapper.state ≠ .idle → exec (.clearBay p) s = .next (okOf 0x43#8 []
        { put { bay with state := .waitStrap, origin := none } with
          strapper := { s.strapper with fifo := k :: s.strapper.fifo } })) ∧
      (bay.origin = some .strapTimeout → s.strapper.state = .idle → exec (.clearBay p) s = .next (okOf 0x43#8 []
        { put { bay with state := .strapping, origin := none } with
          strapper := { s.strapper with state := .busy, current := some k, timer := some s.limits.strapTimeout } }))) ∧
    (bay.state ≠ .fault ∨ s.inputs.bayFault[k] = true →
      exec (.clearBay p) s = .next (refusedOf 0x43#8 .wrongState (found s))) ∧
    (bay.state = .disabled → ∃ u, exec (.enableBay p) s = .next (okOf 0x44#8 [] u) ∧ EntersEmpty (found s) k bay u) ∧
    (bay.state ≠ .disabled → exec (.enableBay p) s = .next (refusedOf 0x44#8 .wrongState (found s))) ∧
    (bay.state = .empty → exec (.disableBay p) s =
      .next (okOf 0x45#8 [] (put { bay with state := .disabled, starved := false }))) ∧
    (bay.state ≠ .empty → exec (.disableBay p) s = .next (refusedOf 0x45#8 .wrongState (found s)))

/-- A bay that loses its bundle's strips. A bay fault in FILLING puts the bay in FAULT and cancels its planned drops with
cause BAY_FAULT; in SETTLING it stops the timer; in FAULT it does nothing; elsewhere it only raises BAY_FAULT. ABORT
BUNDLE cancels them with cause BAY_ABORT, detaches a pending drop, removes the bundle and leaves the bay EMPTY. Each strip
of a cancelled drop becomes OVERFLOW with its chosen option kept, its drop start is freed, and its commitment is released in
the bundle and in the band (R132, R144, R146). -/
def Obligations.BayLossesCancelDrops : Prop :=
  ∀ (s : State) (k : BayId),
    let level := fun v : Bool => { entered s with inputs := { s.inputs with bayFault := s.inputs.bayFault.set k v } }
    let bay := s.bay k
    let p := toBytes 1 (bayNum k)
    let overflowed := fun (t : State) (cause : Cause) => ∀ d ∈ bay.planned, ∀ r g, s.strip? d.tag = some r →
      r.decision = some g → ∃ r', t.strip? d.tag = some r' ∧ r' = { r with
        decision := some { g with disposition := .overflow, cause := some cause, dest := none } }
    let cancelled := fun t : State => ∀ q : Serial, t.calEntry q = { s.calEntry q with
      planned := (s.calEntry q).planned -
        (bay.planned.filter fun d => ringIdx (d.serial + BitVec.ofNat 32 (s.bayOffset k)) = ringIdx q).length }
    let bandOfTag := fun tag => bandIdx (((s.strip? tag).map (·.band)).getD 0)
    let released := fun b : Bundle => { b with
      committed := b.committed - bay.planned.length
      bands := Vector.ofFn fun i => { b.bands[i] with
        committed := b.bands[i].committed - (bay.planned.filter fun d => bandOfTag d.tag = i).length } }
    (s.resetPin = false →
      exec (.bayFaultInput k false) s = .next (level false) ∧
      (bay.state = .filling → bay.planned = [] → exec (.bayFaultInput k true) s = .next (State.raise (State.bump
        { level true with bays := s.bays.set k { bay with state := .fault, origin := some .filling, settleTimer := none } }
          .bayFaults) .bayFault)) ∧
      (bay.state = .filling → ∃ t, exec (.bayFaultInput k true) s = .next t ∧ overflowed t .bayFault ∧ cancelled t ∧
        t.bay k = { bay with
          state := .fault, origin := some .filling, settleTimer := none, planned := [], bundle := bay.bundle.map released } ∧
        t.isPending .bayFault = true ∧ (∀ j, j ≠ k → t.bay j = s.bay j) ∧
        t = { level true with
          bays := t.bays, strips := t.strips, calendar := t.calendar, counters := t.counters, link := t.link } ∧
        t.count .bayFaults = min 65535 (s.count .bayFaults + 1) ∧
        (bay.planned ≠ [] → t.count .bayCancels = min 65535 (s.count .bayCancels + bay.planned.length))) ∧
      (bay.state = .settling → exec (.bayFaultInput k true) s = .next (State.raise (State.bump
        { level true with bays := s.bays.set k { bay with state := .fault, origin := some .settling, settleTimer := none } }
          .bayFaults) .bayFault)) ∧
      (bay.state = .fault → exec (.bayFaultInput k true) s = .next (level true)) ∧
      (bay.state ∈ [.disabled, .empty, .waitStrap, .strapping, .labelWait, .discharging] →
        exec (.bayFaultInput k true) s = .next ((level true).raise .bayFault))) ∧
    (Receives s p →
      (bay.state ∈ [.filling, .settling, .waitStrap, .fault] → (found s).orders.queue = [] →
        ∃ t, exec (.abortBundle p) s = .next t ∧ t.link.response = some { code := 0x42#8, status := .ok, payload := [] } ∧
          overflowed t .bayAbort ∧ cancelled t ∧ t.bay k = { bay with
            state := .empty, origin := none, bundle := none, planned := [], settleTimer := none, starved := true
            pendingDrop := bay.pendingDrop.map fun d => { d with attached := false } } ∧
          (∀ j, j ≠ k → t.bay j = s.bay j) ∧
          t.strapper = { s.strapper with fifo := s.strapper.fifo.filter (· ≠ k) } ∧
          t.count .bundlesAborted = min 65535 (s.count .bundlesAborted + 1) ∧
          (bay.planned ≠ [] → t.count .bayCancels = min 65535 (s.count .bayCancels + bay.planned.length)) ∧
          ∀ b o, bay.bundle = some b → (found s).order? b.order = some o →
            ∃ o', t.order? b.order = some o' ∧ o'.aborted = o.aborted + 1) ∧
      (bay.state ∉ [.filling, .settling, .waitStrap, .fault] →
        exec (.abortBundle p) s = .next (refusedOf 0x42#8 .wrongState (found s))))

/-- Settle expiry, the strapper and its timeout, in the order bays reach WAIT_STRAP (R136 to R140): an IDLE strapper takes
the front bay and starts its timer, a strap complete of another bay is stray, the timeout puts bay and strapper in FAULT,
and RESET STRAPPER lets a strapper in FAULT, which serves no bay, serve again. Three things are the model's: SETTLE_EXPIRY of
a bay that is not SETTLING changes nothing (log entry 2), STRAPPER_TAKES_BAY serves a FIFO that an IDLE strapper has left
(log entry 4), and a label of an undefined template is formed from the empty one (log entry 22). -/
def Obligations.StrapperServesBays : Prop :=
  ∀ (s : State) (k : BayId),
    let serve := fun (t : State) (k : BayId) (rest : List BayId) => ({ t with
      bays := t.bays.set k { t.bay k with state := .strapping }
      strapper := { state := .busy, current := some k, fifo := rest, timer := some s.limits.strapTimeout } } : State)
    (s.resetPin = false →
      ((s.bay k).state = .settling →
        let waiting : State := { entered s with
          bays := s.bays.set k { s.bay k with state := .waitStrap, settleTimer := none } }
        (s.strapper.state ≠ .idle → exec (.settleExpiry k) s =
          .next { waiting with strapper := { s.strapper with fifo := s.strapper.fifo ++ [k] } }) ∧
        (s.strapper.state = .idle → s.strapper.fifo = [] → exec (.settleExpiry k) s = .next (serve waiting k []))) ∧
      ((s.bay k).state ≠ .settling → exec (.settleExpiry k) s = .next (entered s)) ∧
      (∀ rest, s.strapper.state = .idle → s.strapper.fifo = k :: rest →
        exec .strapperTakesBay s = .next (serve (entered s) k rest)) ∧
      (s.strapper.state ≠ .idle ∨ s.strapper.fifo = [] → exec .strapperTakesBay s = .next (entered s)) ∧
      (s.strapper.state = .busy → s.strapper.current = some k →
        exec .strapTimeout s = .next (State.bump (State.raise { entered s with
          bays := s.bays.set k { s.bay k with state := .fault, origin := some .strapTimeout }
          strapper := { s.strapper with state := .fault, current := none, timer := none } } .strapFault)
            .strapTimeouts)) ∧
      (∀ n, s.strapper.state ≠ .busy ∨ s.strapper.current ≠ some k → bayNum k = n →
        exec (.strapComplete n) s = .next ((entered s).bump .strayStrap)) ∧
      (s.strapper.state = .busy → s.strapper.current = some k → s.strapper.fifo = [] →
        let idle := { entered s with strapper := { s.strapper with state := .idle, current := none, timer := none } }
        (s.labelWait ≠ [] ∨ s.labels.table.length = 16 →
          exec (.strapComplete (bayNum k)) s = .next (State.raise (State.bump { idle with
            bays := s.bays.set k { s.bay k with state := .labelWait }, labelWait := s.labelWait ++ [k] } .straps)
              .labelWait)) ∧
        (∀ b, s.labelWait = [] → s.labels.table.length < 16 → (s.bay k).bundle = some b →
          ∃ t, exec (.strapComplete (bayNum k)) s = .next t ∧ (t.bay k).state = .discharging ∧
            t.labels = { s.labels with table := s.labels.table ++
              [labelOf k b s.labels.millId ((s.labels.templates[b.copy.template]).getD [])] } ∧
            t.strapper = idle.strapper ∧ t.isPending .labelReady = true ∧
            t.count .straps = min 65535 (s.count .straps + 1)))) ∧
    (Receives s [] →
      (s.strapper.state = .fault → s.strapper.fifo = [] → exec (.resetStrapper []) s =
        .next (okOf 0x46#8 [] { found s with strapper := { s.strapper with state := .idle } })) ∧
      (∀ rest, s.strapper.state = .fault → s.strapper.fifo = k :: rest → exec (.resetStrapper []) s =
        .next (okOf 0x46#8 [] (serve (found s) k rest))) ∧
      (s.strapper.state ≠ .fault →
        exec (.resetStrapper []) s = .next (refusedOf 0x46#8 .wrongState (found s))))

/-- The lowest-numbered EMPTY bay takes the oldest entry of the recipe queue and opens a bundle with a serial that no live
bundle and no label carries, the order's new opened count as its sequence, and every count 0. A discharge complete
removes the bundle of a DISCHARGING bay, which takes the oldest entry in the same step where one waits, and is EMPTY and
starved where none does; elsewhere it is stray (R124 to R126, R143, R168). -/
def Obligations.BundlesOpenAndDischarge : Prop :=
  ∀ (s : State) (k : BayId), s.resetPin = false →
    let level := fun v : Bool => { entered s with inputs := { s.inputs with discharge := s.inputs.discharge.set k v } }
    (∀ (e : QueueEntry) (rest : List QueueEntry) (copy : Recipe) (o : Order), s.orders.queue = e :: rest →
      s.orders.recipes[e.recipe] = some copy → s.order? e.order = some o →
      o.labelled + o.aborted + o.closedEmpty ≤ o.opened → 1 ≤ s.bundleSerial → s.bundleSerial ≤ 999999 →
      s.labels.table.length ≤ 16 →
      let fresh := fun (others : BayId → Prop) (serial : Nat) => 1 ≤ serial ∧ serial ≤ 999999 ∧
        (∀ j b, others j → (s.bay j).bundle = some b → b.serial ≠ serial) ∧ ∀ r ∈ s.labels.table, r.bundle ≠ serial
      let opened := fun (t : State) (bay : Bay) (serial : Nat) => State.bump { t with
        bays := s.bays.set k { bay with
          state := .filling, starved := false, bundle := some (newBundle serial e.order e.recipe copy (o.opened + 1)) }
        bundleSerial := if serial = 999999 then 1 else serial + 1
        orders := { s.orders with
          queue := rest
          table := s.orders.table.map fun x => if x.id = e.order then { x with opened := x.opened + 1 } else x
          interp := if s.orders.interp.state = .queueWait then { s.orders.interp with state := .running }
            else s.orders.interp } } .bundlesOpened
      ((s.bay k).state = .empty → (∀ j, j < k → (s.bay j).state ≠ .empty) → ∃ serial, fresh (fun _ => True) serial ∧
        exec .bundleOpen s = .next (opened (entered s) (s.bay k) serial)) ∧
      ((s.bay k).state = .discharging → ∃ serial, fresh (· ≠ k) serial ∧
        exec (.dischargeComplete k true) s = .next (opened ((level true).bump .bundlesDischarged)
          { s.bay k with origin := none, settleTimer := none } serial))) ∧
    (s.orders.queue = [] ∨ (∀ j, (s.bay j).state ≠ .empty) → exec .bundleOpen s = .next (entered s)) ∧
    exec (.dischargeComplete k false) s = .next (level false) ∧
      ((s.bay k).state ≠ .discharging →
        exec (.dischargeComplete k true) s = .next ((level true).bump .strayDischarge)) ∧
      ((s.bay k).state = .discharging → s.orders.queue = [] → (s.bay k).starved = false →
        exec (.dischargeComplete k true) s = .next (State.raise (State.bump { level true with
          bays := s.bays.set k { s.bay k with
            state := .empty, origin := none, bundle := none, settleTimer := none, starved := true } }
          .bundlesDischarged) .recipeStarved))

/-- Labels: FETCH LABEL returns a record whole and marks it FETCHED, RETIRE LABEL removes a FETCHED one and serves the bay
at the front of the label-wait FIFO, if there is one, in the same step; the front bay of the FIFO is served when a place is
free: its label is formed, counted and noticed, the order counts it, and the bay goes to DISCHARGING (R182, R184, R185,
R187, R188, R142). That the label of a bundle whose template is undefined is formed from the empty template is the model's
choice (log entry 22). -/
def Obligations.LabelRequestsAndFormation : Prop :=
  ∀ (s : State) (r : Label),
    let fetched := { found s with labels := { s.labels with
      table := s.labels.table.map fun x => if x.bundle = r.bundle then { x with fetched := true } else x } }
    (∀ n, Receives s (toBytes 4 n) → n ≤ 999999 →
      (if n = 0 then s.labels.table.find? (fun x => x.fetched = false) else s.labels.table.find? (fun x => x.bundle = n))
        = some r →
      exec (.fetchLabel (toBytes 4 n)) s = .next (okOf 0x61#8 (labelPayload r) fetched)) ∧
    (∀ n, Receives s (toBytes 4 n) → 1 ≤ n → n ≤ 999999 → s.labels.table.find? (fun x => x.bundle = n) = some r →
      (r.fetched = true → s.labelWait = [] → exec (.retireLabel (toBytes 4 n)) s = .next (okOf 0x62#8 [] (State.bump
        { found s with labels := { s.labels with table := s.labels.table.filter fun x => x.bundle ≠ n } }
          .labelsRetired))) ∧
      (∀ k rest b, r.fetched = true → s.labelWait = k :: rest → (s.bay k).bundle = some b → s.labels.table.length ≤ 16 →
        let formed := labelOf k b s.labels.millId ((s.labels.templates[b.copy.template]).getD [])
        ∃ t, exec (.retireLabel (toBytes 4 n)) s = .next t ∧
          t.link.response = some { code := 0x62#8, status := .ok, payload := [] } ∧
          t.labels = { s.labels with table := (s.labels.table.filter fun x => x.bundle ≠ n) ++ [formed] } ∧
          t.labelWait = rest ∧ t.bays = s.bays.set k { s.bay k with state := .discharging } ∧
          t.isPending .labelReady = true ∧ t.count .labelsRetired = min 65535 (s.count .labelsRetired + 1) ∧
          t.count .labelsFormed = min 65535 (s.count .labelsFormed + 1) ∧
          (∀ o, (found s).order? b.order = some o → ∃ o', t.order? b.order = some o' ∧ o'.labelled = o.labelled + 1) ∧
          t = { found s with
            labels := t.labels, labelWait := t.labelWait, bays := t.bays, link := t.link, counters := t.counters
            orders := t.orders }) ∧
      (r.fetched = false → exec (.retireLabel (toBytes 4 n)) s = .next (refusedOf 0x62#8 .notFetched (found s)))) ∧
    (∀ k rest b, s.resetPin = false → s.labelWait = k :: rest → (s.bay k).bundle = some b →
      s.labels.table.length < 16 →
      let formed := labelOf k b s.labels.millId ((s.labels.templates[b.copy.template]).getD [])
      ∃ t, exec .labelFormation s = .next t ∧
        t.labels = { s.labels with table := s.labels.table ++ [formed] } ∧ t.labelWait = rest ∧
        t.bays = s.bays.set k { s.bay k with state := .discharging } ∧ t.isPending .labelReady = true ∧
        t.count .labelsFormed = min 65535 (s.count .labelsFormed + 1) ∧
        t.count .labelsTruncated = (if formed.truncated then min 65535 (s.count .labelsTruncated + 1)
          else s.count .labelsTruncated) ∧
        (∀ o, s.order? b.order = some o → ∃ o', t.order? b.order = some o' ∧ o'.labelled = o.labelled + 1) ∧
        t = { entered s with
          labels := t.labels, labelWait := t.labelWait, bays := t.bays, link := t.link, counters := t.counters
          orders := t.orders }) ∧
    (s.resetPin = false → s.labelWait = [] ∨ s.labels.table.length = 16 →
      exec .labelFormation s = .next (entered s))

/-- The field texts: fixed-width decimals with leading zeros, the last three digits of the sequence, the letter of the worst
grade, the flags, the mill id (R179), the rounded length and area (R180), the length mix of the bands that hold a strip
(R181); any other byte is copied. The label text: the body is the template's expansion up to its check code, cut to 316
bytes before check digits and to 320 otherwise, with TRUNCATED when bytes were dropped; the check value is taken over the body
as it stands, and the text is at most 320 bytes (R182, R183). -/
def Obligations.LabelTextIsCutAndChecked : Prop :=
  (∀ w n : Nat, (decimal w n).length = w ∧ (∀ x ∈ decimal w n, 0x30 ≤ x.toNat ∧ x.toNat ≤ 0x39) ∧
    (decimal w n).foldl (fun v x => 10 * v + (x.toNat - 0x30)) 0 = n % 10 ^ w) ∧
  (∀ n : Nat, decimalPlain n ≠ [] ∧ (∀ x ∈ decimalPlain n, 0x30 ≤ x.toNat ∧ x.toNat ≤ 0x39) ∧
    (0 < n → (decimalPlain n).head? ≠ some 0x30#8) ∧
    (decimalPlain n).foldl (fun v x => 10 * v + (x.toNat - 0x30)) 0 = n) ∧
  (∀ (b : Bundle) (mill : List Byte),
    let text := fieldText b mill
    let cm := (b.length + 5) / 10
    let area := (b.length * b.copy.width + 500) / 1000
    let strips := fun i : Fin 12 => b.bands[i].deposited + b.bands[i].unverified
    text 0x80#8 = decimal 6 b.serial ∧ text 0x81#8 = decimal 5 b.order ∧ text 0x82#8 = decimal 2 b.recipe ∧
    text 0x83#8 = decimal 2 b.copy.species ∧ text 0x84#8 = decimal 2 b.copy.profile ∧
    text 0x86#8 = decimal 3 (b.deposited + b.unverified) ∧ text 0x8D#8 = decimal 3 (b.sequence % 1000) ∧
    (∀ g : Grade, 0 < b.gradeCounts[gradeIdx g] → (∀ k : Grade, g.num < k.num → b.gradeCounts[gradeIdx k] = 0) →
      text 0x85#8 = [match g with
        | .g1 => 0x50#8
        | .g2 => 0x53#8
        | .g3 => 0x4E#8
        | .g4 => 0x52#8]) ∧
    text 0x8A#8 = (if b.uncertain then [0x55#8] else []) ++ (if b.short then [0x53#8] else []) ∧ text 0x8C#8 = mill ∧
    text 0x87#8 = decimal 3 (cm / 100) ++ [0x2E#8] ++ decimal 2 (cm % 100) ∧
    text 0x88#8 = decimal 3 (area / 1000) ++ [0x2E#8] ++ decimal 3 (area % 1000) ∧
    text 0x89#8 = List.intercalate [0x20#8] (((List.finRange 12).filter fun i => 0 < strips i).map fun i =>
      decimalPlain (i.val + 2) ++ [0x3A#8] ++ decimalPlain (strips i)) ∧
    ∀ x : Byte, x.toNat < 0x80 ∨ 0x8D < x.toNat → text x = [x]) ∧
  ∀ (k : BayId) (b : Bundle) (mill t : List Byte), (∀ x ∈ t, x ≠ 0x8B#8) →
    let whole := t.flatMap (fieldText b mill)
    let plain := labelOf k b mill t
    let checked := labelOf k b mill (t ++ [0x8B#8])
    plain.text = whole.take 320 ∧ plain.check = checkCode (whole.take 320) ∧ plain.truncated = decide (320 < whole.length) ∧
    checked.check = checkCode (whole.take 316) ∧ checked.text = whole.take 316 ++ checkDigits checked.check ∧
    checked.truncated = decide (316 < whole.length) ∧ plain.text.length ≤ 320 ∧ checked.text.length ≤ 320 ∧
    plain.fetched = false ∧ plain.bundle = b.serial ∧ plain.order = b.order ∧ plain.bay = k ∧
    plain.uncertain = b.uncertain ∧ plain.short = b.short

/-! ## The order unit (chapter 8) -/

/-- LOAD PROGRAM writes its words at consecutive addresses and refuses a list that passes the memory's end; ADD ORDER
appends a LOADED record with every count 0 to the table and the run list, and an IDLE interpreter outside a pause takes
the order up at once (R155, R157, R159). -/
def Obligations.ProgramsAndOrders : Prop :=
  ∀ s : State,
    let h := found s
    (∀ (a : Nat) (words : List ProgramWord),
      let p := toBytes 2 a ++ words.flatMap wordBytes
      Receives s p → a ≤ 255 → 1 ≤ words.length → words.length ≤ 128 →
      (∀ w ∈ words, w.code ≤ 255 ∧ w.a ≤ 255 ∧ w.b ≤ 65535) →
      (256 < a + words.length → exec (.loadProgram p) s = .next (refusedOf 0x50#8 .badArgument h)) ∧
      (a + words.length ≤ 256 → ∃ prog : Vector ProgramWord 256,
        exec (.loadProgram p) s = .next (okOf 0x50#8 [] { h with orders := { h.orders with program := prog } }) ∧
        ∀ k : Fin 256, prog[k] = if k.val < a then s.orders.program[k] else (words[k.val - a]?).getD s.orders.program[k])) ∧
    (∀ (id : Nat) (start : Fin 256),
      let p := toBytes 2 id ++ toBytes 2 start.val
      let o : Order := { id := id, start := start, state := .loaded, faultCode := none, emitted := 0, opened := 0
                         withdrawn := 0, labelled := 0, aborted := 0, closedEmpty := 0, settled := false }
      Receives s p → 1 ≤ id → id ≤ 65535 →
      ((s.order? id).isSome = true → exec (.addOrder p) s = .next (refusedOf 0x51#8 .badArgument h)) ∧
      (s.order? id = none → s.orders.table.length = 8 →
        exec (.addOrder p) s = .next (refusedOf 0x51#8 .tableFull h)) ∧
      (s.order? id = none → s.orders.table.length < 8 →
        (h.orders.interp.state ≠ .idle ∨ s.link.line ≠ .running → exec (.addOrder p) s = .next (okOf 0x51#8 [] (State.bump
          { h with orders := { h.orders with table := h.orders.table ++ [o], runList := h.orders.runList ++ [id] } }
            .ordersAdded))) ∧
        (h.orders.interp.state = .idle → s.link.line = .running → h.orders.runList = [] →
          exec (.addOrder p) s = .next (okOf 0x51#8 [] (State.bump { h with orders := { h.orders with
            table := h.orders.table ++ [{ o with state := .active }]
            interp := tookUp h.orders.interp id start } } .ordersAdded)))))

/-- What an interpreter does between words. ORDER_TAKE_UP: an IDLE one outside a pause takes up the front order of the run
list. RELEASE ORDER: a HELD one becomes RUNNING, or PAUSED while the line is not RUNNING. INTERPRETER_RESUME: a PAUSED one
outside a pause goes on, to QUEUE_WAIT when entries are left and the queue is full (R159, R165, R166). -/
def Obligations.InterpreterStartsAndResumes : Prop :=
  ∀ s : State,
    let i := s.orders.interp
    let paused := s.link.line ≠ .running ∨ s.link.hold = true
    (s.resetPin = false →
      (∀ id rest o, i.state = .idle → ¬ paused → s.orders.runList = id :: rest → s.order? id = some o →
        exec .orderTakeUp s = .next { entered s with orders := { s.orders with
          table := s.orders.table.map fun x => if x.id = id then { x with state := .active } else x
          runList := rest
          interp := tookUp i id o.start } }) ∧
      (i.state ≠ .idle ∨ paused ∨ s.orders.runList = [] → exec .orderTakeUp s = .next (entered s)) ∧
      (i.state = .paused → ¬ paused → exec .interpreterResume s = .next (interpreter s { i with
        state := if 0 < i.remainder ∧ 16 ≤ s.orders.queue.length then .queueWait else .running })) ∧
      (i.state ≠ .paused ∨ paused → exec .interpreterResume s = .next (entered s))) ∧
    (∀ id, Receives s (toBytes 2 id) → 1 ≤ id → id ≤ 65535 →
      (s.order? id = none → exec (.releaseOrder (toBytes 2 id)) s = .next (refusedOf 0x52#8 .notFound (found s))) ∧
      ((s.order? id).isSome = true →
        (i.state = .held → i.order = some id → exec (.releaseOrder (toBytes 2 id)) s = .next (okOf 0x52#8 [] { found s with
          orders := { s.orders with interp := { i with
            state := if s.link.line = .running then .running else .paused } } })) ∧
        (i.state ≠ .held ∨ i.order ≠ some id →
          exec (.releaseOrder (toBytes 2 id)) s = .next (refusedOf 0x52#8 .wrongState (found s)))))

/-- The words that move the interpreter (R160), each by the command of its code (log entry 5). END gives up the order,
EMITTED, or COMPLETE when nothing of it is queued and every bundle has ended, and the interpreter takes up the front order of
the run list (R161, R171, R159); REPEAT and REPEAT_ALWAYS push a frame, ENDREPEAT goes back or drops it, CALL and RETURN push
and take an address, each adding one to the spin count below 64 (R163, R164); HOLD puts it in HELD, noticed (R165). -/
def Obligations.WordsMoveTheInterpreter : Prop :=
  ∀ (s : State) (id : Nat), Executes s id →
    let i := s.orders.interp
    let w := s.orders.program[i.pc]
    let goesTo := fun (a : Fin 256) (j : Interpreter) => Host.Outcome.next (interpreter s { j with pc := a, spin := i.spin + 1 })
    (∀ o, w.code = 0 → s.order? id = some o →
      FrontTaken (ended (entered s) id o) fun t => exec .endWord s = .next t) ∧
    (i.spin < 63 →
      (∀ a : Fin 256, a.val = i.pc.val + 1 → i.repeats.length < 4 →
        (w.code = 2 → 1 ≤ w.b → w.b ≤ 255 → exec .repeatWord s =
          goesTo a { i with repeats := i.repeats ++ [{ body := a.val, left := some w.b }] }) ∧
        (w.code = 4 → exec .repeatAlwaysWord s =
          goesTo a { i with repeats := i.repeats ++ [{ body := a.val, left := none }] })) ∧
      (∀ (a : Fin 256) (f : RepeatFrame), w.code = 3 → i.repeats.getLast? = some f → f.body = a.val →
        (f.left = none → exec .endRepeatWord s = goesTo a i) ∧
        (∀ n, f.left = some n → 1 < n → exec .endRepeatWord s =
          goesTo a { i with repeats := i.repeats.dropLast ++ [{ f with left := some (n - 1) }] })) ∧
      (∀ (a : Fin 256) (f : RepeatFrame) (n : Nat), w.code = 3 → i.repeats.getLast? = some f → a.val = i.pc.val + 1 →
        f.left = some n → n ≤ 1 → exec .endRepeatWord s = goesTo a { i with repeats := i.repeats.dropLast }) ∧
      (∀ a : Fin 256, w.code = 5 → w.b = a.val → i.calls.length < 4 →
        exec .callWord s = goesTo a { i with calls := i.calls ++ [i.pc.val + 1] }) ∧
      (∀ a : Fin 256, w.code = 6 → i.calls.getLast? = some a.val →
        exec .returnWord s = goesTo a { i with calls := i.calls.dropLast })) ∧
    (∀ a : Fin 256, w.code = 7 → a.val = i.pc.val + 1 →
      exec .holdWord s = .next ((interpreter s { i with state := .held, spin := 0, pc := a }).raise .orderHeld))

/-- The words that fault the held order: its state and fault code, the FAULTED interpreter with everything else kept, the
notice and the counter (R160, R163, R164, R167). A word that brings the spin count to 64 takes its effect, moves the program
counter, and faults with SPIN (R160). A word that would bring the program counter to 256, a BUNDLE word with its emission at
an end among them, takes its effect and faults with BAD_ADDRESS, the program counter left at the word and the spin count not
raised, as the model reads it (R160, log entry 17). That a BUNDLE word whose count and recipe are both bad faults with
BAD_CODE is the model's choice: the spec orders the two checks nowhere (log entry 34). -/
def Obligations.WordsFaultTheOrder : Prop :=
  ∀ (s : State) (id : Nat), Executes s id →
    let i := s.orders.interp
    let w := s.orders.program[i.pc]
    let faults := fun (c : Instr) (f : FaultCode) => exec c s = .next (orderFaulted s id f)
    let spins := fun (c : Instr) (a : Fin 256) (j : Interpreter) =>
      exec c s = .next (orderFaulted (interpreter s { j with pc := a, spin := 64 }) id .spin)
    let leaves := fun (c : Instr) (j : Interpreter) => exec c s = .next (orderFaulted (interpreter s j) id .badAddress)
    (7 < w.code → faults .unknownCodeWord .badCode) ∧
    (w.code = 1 → w.b = 0 ∨ 255 < w.b → faults .bundleWord .badCode) ∧
    (w.code = 1 → 1 ≤ w.b → w.b ≤ 255 → (∀ r : Fin 32, r.val = w.a → s.orders.recipes[r] = none) →
      faults .bundleWord .badRecipe) ∧
    (∀ r : Fin 32, i.pc = 255 → w.code = 1 → 1 ≤ w.b → w.a = r.val → (s.orders.recipes[r]).isSome = true →
      (∀ k, (s.bay k).state ≠ .empty) → s.orders.queue.length + w.b ≤ 16 →
      (∀ o, s.order? id = some o → o.emitted + w.b ≤ 65535) →
      exec .bundleWord s = .next (orderFaulted { s with orders := { s.orders with
        table := s.orders.table.map fun x => if x.id = id then { x with emitted := x.emitted + w.b } else x
        queue := s.orders.queue ++ List.replicate w.b { order := id, recipe := r }
        interp := { i with recipe := r, remainder := 0, spin := 0 } } } id .badAddress)) ∧
    (w.code = 2 → w.b = 0 ∨ 255 < w.b → faults .repeatWord .badCode) ∧
    (w.code = 2 → 1 ≤ w.b → w.b ≤ 255 → i.repeats.length = 4 → faults .repeatWord .repeatDepth) ∧
    (w.code = 4 → i.repeats.length = 4 → faults .repeatAlwaysWord .repeatDepth) ∧
    (w.code = 3 → i.repeats = [] → faults .endRepeatWord .unmatchedEnd) ∧
    (w.code = 5 → 255 < w.b → faults .callWord .badAddress) ∧
    (w.code = 5 → w.b ≤ 255 → i.calls.length = 4 → faults .callWord .callDepth) ∧
    (w.code = 6 → i.calls = [] → faults .returnWord .returnEmpty) ∧
    (i.spin = 63 →
      (∀ a : Fin 256, a.val = i.pc.val + 1 → i.repeats.length < 4 →
        (w.code = 2 → 1 ≤ w.b → w.b ≤ 255 →
          spins .repeatWord a { i with repeats := i.repeats ++ [{ body := a.val, left := some w.b }] }) ∧
        (w.code = 4 → spins .repeatAlwaysWord a { i with repeats := i.repeats ++ [{ body := a.val, left := none }] })) ∧
      (∀ (a : Fin 256) (f : RepeatFrame), w.code = 3 → i.repeats.getLast? = some f → f.body = a.val →
        (f.left = none → spins .endRepeatWord a i) ∧
        (∀ n, f.left = some n → 1 < n →
          spins .endRepeatWord a { i with repeats := i.repeats.dropLast ++ [{ f with left := some (n - 1) }] })) ∧
      (∀ (a : Fin 256) (f : RepeatFrame) (n : Nat), w.code = 3 → i.repeats.getLast? = some f → a.val = i.pc.val + 1 →
        f.left = some n → n ≤ 1 → spins .endRepeatWord a { i with repeats := i.repeats.dropLast }) ∧
      (∀ a : Fin 256, w.code = 5 → w.b = a.val → i.calls.length < 4 →
        spins .callWord a { i with calls := i.calls ++ [i.pc.val + 1] }) ∧
      (∀ a : Fin 256, w.code = 6 → i.calls.getLast? = some a.val →
        spins .returnWord a { i with calls := i.calls.dropLast })) ∧
    (i.pc = 255 →
      (i.repeats.length < 4 →
        (w.code = 2 → 1 ≤ w.b → w.b ≤ 255 →
          leaves .repeatWord { i with repeats := i.repeats ++ [{ body := 256, left := some w.b }] }) ∧
        (w.code = 4 → leaves .repeatAlwaysWord { i with repeats := i.repeats ++ [{ body := 256, left := none }] })) ∧
      (∀ (f : RepeatFrame) (n : Nat), w.code = 3 → i.repeats.getLast? = some f → f.left = some n → n ≤ 1 →
        leaves .endRepeatWord { i with repeats := i.repeats.dropLast }) ∧
      (w.code = 7 → exec .holdWord s =
        .next (orderFaulted ((interpreter s { i with spin := 0 }).raise .orderHeld) id .badAddress))) ∧
    (∀ f : RepeatFrame, w.code = 3 → i.repeats.getLast? = some f → f.body = 256 →
      (f.left = none → leaves .endRepeatWord i) ∧
      (∀ n, f.left = some n → 1 < n →
        leaves .endRepeatWord { i with repeats := i.repeats.dropLast ++ [{ f with left := some (n - 1) }] })) ∧
    (w.code = 6 → i.calls.getLast? = some 256 → leaves .returnWord { i with calls := i.calls.dropLast })

/-- An emission: with no bay EMPTY, the entries go to the newest end of the recipe queue while it holds fewer than 16, the
order's emitted count rises by as many and the spin count is 0; with none left the interpreter moves to the next address,
and otherwise it waits in QUEUE_WAIT at the BUNDLE word. With one bay EMPTY and the queue empty, that bay takes the first
entry as it joins and opens a bundle, and the others queue (R126, R168). An emission that finds the emitted count at 65535
is not made: the order ends as at an END word, what is left is dropped, and ORDER_FAULT is raised with no fault code set.
EMISSION_RESUME goes on with what is left (R162). That a full queue with entries left gives QUEUE_WAIT also where the emitted
count stands at 65535 is the model's choice (log entry 18). -/
def Obligations.EmissionFillsTheQueue : Prop :=
  ∀ (s : State) (id : Nat) (o : Order) (after : Fin 256) (n : Nat), s.resetPin = false →
    s.orders.interp.order = some id → s.order? id = some o → after.val = s.orders.interp.pc.val + 1 →
    s.orders.queue.length ≤ 16 →
    let i := s.orders.interp
    let w := s.orders.program[i.pc]
    let m := min n (16 - s.orders.queue.length)
    let word := fun r : Fin 32 =>
      i.state = .running ∧ i.remainder = 0 ∧ w.code = 1 ∧ w.a = r.val ∧ w.b = n ∧ 1 ≤ n ∧ n ≤ 255
    let t := fun r : Fin 32 => ({ entered s with orders := { s.orders with
      table := s.orders.table.map fun x => if x.id = id then { x with emitted := x.emitted + m } else x
      queue := s.orders.queue ++ List.replicate m { order := id, recipe := r }
      interp := { i with
        state := if m = n then .running else .queueWait
        pc := if m = n then after else i.pc
        remainder := n - m
        recipe := r
        spin := if m = 0 then i.spin else 0 } } } : State)
    ((∀ k, (s.bay k).state ≠ .empty) → o.emitted + m ≤ 65535 →
      (∀ r : Fin 32, word r → (s.orders.recipes[r]).isSome = true → exec .bundleWord s = .next (t r)) ∧
      (i.remainder = n → 0 < n → s.orders.queue.length < 16 → i.state = .running ∨ i.state = .queueWait →
        exec .emissionResume s = .next (t i.recipe))) ∧
    (∀ (k : BayId) (r : Fin 32) (copy : Recipe), word r → s.orders.recipes[r] = some copy → (s.bay k).state = .empty →
      (∀ j, j ≠ k → (s.bay j).state ≠ .empty) → s.orders.queue = [] → o.state = .active → 1 ≤ s.bundleSerial →
      s.bundleSerial ≤ 999999 → s.labels.table.length ≤ 16 → o.emitted + min n 17 ≤ 65535 →
      ∃ serial, exec .bundleWord s = .next (State.bump { entered s with
          bays := s.bays.set k { s.bay k with
            state := .filling, starved := false, bundle := some (newBundle serial id r copy (o.opened + 1)) }
          bundleSerial := if serial = 999999 then 1 else serial + 1
          orders := { s.orders with
            table := s.orders.table.map fun x => if x.id = id then
              { x with emitted := x.emitted + min n 17, opened := x.opened + 1 } else x
            queue := List.replicate (min n 17 - 1) { order := id, recipe := r }
            interp := { i with
              state := if n ≤ 17 then .running else .queueWait
              pc := if n ≤ 17 then after else i.pc
              remainder := n - 17, recipe := r, spin := 0 } } } .bundlesOpened) ∧
        1 ≤ serial ∧ serial ≤ 999999 ∧ (∀ j b, (s.bay j).bundle = some b → b.serial ≠ serial) ∧
        ∀ x ∈ s.labels.table, x.bundle ≠ serial) ∧
    (let more := 65535 - o.emitted
     let cut := fun r : Fin 32 => ended { entered s with orders := { s.orders with
       table := s.orders.table.map fun x => if x.id = id then { x with emitted := x.emitted + more } else x
       queue := s.orders.queue ++ List.replicate more { order := id, recipe := r }
       interp := { i with recipe := r } } } id o
     (∀ k, (s.bay k).state ≠ .empty) → o.emitted ≤ 65535 → more < n → s.orders.queue.length + more < 16 →
      (∀ r : Fin 32, word r → (s.orders.recipes[r]).isSome = true →
        FrontTaken (cut r) fun t => exec .bundleWord s = .next (t.raise .orderFault)) ∧
      (i.remainder = n → i.state = .running ∨ i.state = .queueWait →
        FrontTaken (cut i.recipe) fun t => exec .emissionResume s = .next (t.raise .orderFault))) ∧
    (i.remainder = 0 ∨ s.orders.queue.length = 16 → exec .emissionResume s = .next (entered s))

/-- CANCEL ORDER withdraws the order's entries and takes it from the run list and from the interpreter: it becomes
CANCELLED, keeps its fault code, is settled when every bundle it opened has ended, and is counted. Every bundle of the order
whose bay is FILLING, or in FAULT with origin FILLING, is set closing, and those of FILLING bays apply the completion test:
with a commitment they stay, complete they settle, partly filled they settle short, empty they close and the order counts
them; no other bay is touched (R135, R169 step 2). RETIRE ORDER removes a COMPLETE order or a settled CANCELLED one. Other
states are WRONG_STATE (R169, R171, R172). -/
def Obligations.CancelAndRetireOrder : Prop :=
  ∀ (s : State) (id : Nat) (o : Order),
    let h := found s
    let p := toBytes 2 id
    Receives s p → id ≤ 65535 →
    (id = 0 → exec (.cancelOrder p) s = .next (refusedOf 0x53#8 .badArgument h) ∧
      exec (.retireOrder p) s = .next (refusedOf 0x55#8 .badArgument h)) ∧
    (1 ≤ id → h.order? id = none → exec (.cancelOrder p) s = .next (refusedOf 0x53#8 .notFound h) ∧
      exec (.retireOrder p) s = .next (refusedOf 0x55#8 .notFound h)) ∧
    (1 ≤ id → h.order? id = some o →
      (o.state ∈ [.loaded, .active, .emitted, .faulted] → ∃ t o', exec (.cancelOrder p) s = .next t ∧
        t.link.response = some { code := 0x53#8, status := .ok, payload := [] } ∧
        t.order? id = some o' ∧ o'.state = .cancelled ∧ o'.withdrawn = o.withdrawn + s.queuedCount id ∧
        o'.faultCode = o.faultCode ∧ o'.emitted = o.emitted ∧ o'.opened = o.opened ∧
        (o.settled = false → (o'.settled = true ↔ o'.opened = o'.labelled + o'.aborted + o'.closedEmpty)) ∧
        (∀ e ∈ t.orders.queue, e.order ≠ id) ∧ id ∉ t.orders.runList ∧ t.orders.interp.order ≠ some id ∧
        o'.closedEmpty = o.closedEmpty + (allBays.filter fun k => (s.bay k).state = .filling &&
          (s.bay k).bundle.any fun b => b.order = id && b.committed = 0 && b.total = 0 && 0 < b.copy.target).length ∧
        (∀ k, (∀ b, (s.bay k).bundle = some b → b.order ≠ id) → t.bay k = s.bay k) ∧
        (∀ k b, (s.bay k).bundle = some b → b.order = id →
          let bay := s.bay k
          let closing := { b with closing := true }
          let settles := fun b : Bundle => { bay with
            state := .settling, origin := none, settleTimer := some bay.settleTime, bundle := some b }
          ((bay.state = .filling ∧ 0 < b.committed) ∨ (bay.state = .fault ∧ bay.origin = some .filling) →
            t.bay k = { bay with bundle := some closing }) ∧
          (bay.state = .filling → b.committed = 0 →
            (b.total = b.copy.target → t.bay k = settles closing) ∧
            (0 < b.total → b.total ≠ b.copy.target → t.bay k = settles { closing with short := true }) ∧
            (b.total = 0 → 0 < b.copy.target → (∀ e ∈ s.orders.queue, e.order = id) → t.bay k = { bay with
              state := .empty, origin := none, bundle := none, settleTimer := none, starved := true })) ∧
          (bay.state ≠ .filling → bay.state ≠ .fault ∨ bay.origin ≠ some .filling → t.bay k = bay)) ∧
        t.count .ordersCancelled = min 65535 (s.count .ordersCancelled + 1) ∧
        t.count .entriesWithdrawn = min 65535 (s.count .entriesWithdrawn + s.queuedCount id)) ∧
      (o.state = .complete ∨ o.state = .cancelled → exec (.cancelOrder p) s = .next (refusedOf 0x53#8 .wrongState h)) ∧
      (o.state = .complete ∨ (o.state = .cancelled ∧ o.settled = true) → exec (.retireOrder p) s =
        .next (okOf 0x55#8 [] { h with orders := { h.orders with table := h.orders.table.filter fun x => x.id ≠ id } })) ∧
      (o.state ≠ .complete → o.state ≠ .cancelled ∨ o.settled = false →
        exec (.retireOrder p) s = .next (refusedOf 0x55#8 .wrongState h)))

/-! ## RESET TRACKING (10.9) -/

/-- RESET TRACKING is answered OK in every line state. It forgets the wood on the line: every strip, the reports, the lug map
and the load list go, the READY heads home, the plan queues and the planned starts are emptied, a drain completes, the
planned and pending drops go with their commitments, and the cause is recorded. Then each bay in FILLING applies its
completion test, in ascending number (R126): its bundle stays open, completes, completes short, or closes empty, reported to
its order, and the bay takes the entry that waits. What it does not name is kept: the line state, LINK_HOLD and the mask, the
notices, the limits, the geometry, the tables, the labels, the interpreter and every order but for the empty closes and the
openings that follow them, the strapper, and the counters but for the four of those tests (R19, R39, R54, R72, R98, R120,
R133, R151, R176, R191, R204). -/
def Obligations.ResetTrackingClearsTheTracking : Prop :=
  ∀ s : State, Receives s [] →
    let u := forgotten s
    ∃ after : Nat → State, exec (.resetTracking []) s = .next (okOf 0x74#8 [] (after 8)) ∧ after 0 = u ∧
      KeptBut [.bundlesShort, .bundlesClosedEmpty, .bundlesOpened, .ordersCompleted] u (after 8) ∧
      ∀ k : BayId, let old := after k.val; let new := after (k.val + 1); let bay := u.bay k
        (bay.state ≠ .filling ∨ bay.bundle = none → new = old) ∧
        (∀ b, bay.bundle = some b → AfterTest old k bay b new ∧
          (ClosesEmpty bay b → KeptBut [.bundlesClosedEmpty, .bundlesOpened, .ordersCompleted] old new))

/-! ## Frames and invariants -/

/-- Decoding the frame of a request gives the request back, for every well-formed request with every payload; a code that
names no request is an unknown request; a frame whose check value disagrees is discarded; and a report's frame gives the
report (R192, R41, R207). -/
def Obligations.FramesDecodeToTheirCommand : Prop :=
  (∀ i : Instr, i.wellFormed = true → ∀ f, encodeRequest i = some f → decodeRequest f = some i) ∧
  (∀ (code : Byte) (p : List Byte), p.length ≤ 600 →
    (isRequestCode code = false → decodeRequest (requestFrame code p) = some (.unknownRequest code)) ∧
    ∀ v : List Byte, v.length = 2 → v ≠ toBytes 2 (checkCode (toBytes 2 p.length ++ code :: p)).toNat →
      decodeRequest (0xA5#8 :: (toBytes 2 p.length ++ code :: p) ++ v) = some .linkFrameDiscarded) ∧
  (∀ p : List Byte, reportWellFormed p = true → decodeStation (stationFrame p) = some (.reportReceived p))

/-- Every step keeps the counters at 65535 or below (R201), and the strip table, the receive buffer, the pending load list,
the order table, both stacks, the recipe queue and the label table within the places the spec gives them (R6, R42, R60, R156,
R163, R164, R168, R185); the strapper FIFO and the label-wait FIFO hold bays that wait there, each once, so at most eight
(R136, R141); a plan queue holds entries for serials from tau - E + 1 to tau - D alone, one for each, so at most E - D and 16,
and the commanded step of a READY head with entries is its front entry's (R101); and a planned-drop list holds drops of
serials that have passed D and have not reached the bay, one for each, so at most 48, in every step that does not replace the
geometry under a planned drop, which R152 rules out (R128, R129). -/
def Obligations.CountersAndCapacitiesKept : Prop :=
  ∀ s t : State, step s = .next t →
    (s.CountersBounded → t.CountersBounded) ∧ (s.WithinCapacity → t.WithinCapacity) ∧
    (s.BayQueuesSound → t.BayQueuesSound ∧ t.strapper.fifo.length ≤ 8 ∧ t.labelWait.length ≤ 8) ∧
    (s.PlansInWindow → t.PlansInWindow ∧
      ∀ h : HeadId, (t.head h).plan.length ≤ t.geometry.e - t.geometry.d ∧ (t.head h).plan.length ≤ 16) ∧
    (s.PlannedInWindow → t.geometry = s.geometry ∨ (∀ k : BayId, (s.bay k).planned = []) →
      t.PlannedInWindow ∧ ∀ k : BayId, (t.bay k).planned.length ≤ 48)

/-- Every step keeps the tags of the live records unique (R5, R6). -/
def Obligations.TagsUniqueKept : Prop :=
  ∀ s t : State, s.TagsUnique → step s = .next t → t.TagsUnique

/-- Every step keeps the order books: no entry of the recipe queue is lost or counted twice (R158). -/
def Obligations.BooksBalanceKept : Prop :=
  ∀ s t : State, s.BooksBalance → step s = .next t → t.BooksBalance

/-- The state right after power-on meets every invariant. -/
def Obligations.ResetMeetsInvariants : Prop :=
  State.reset.CountersBounded ∧ State.reset.WithinCapacity ∧ State.reset.TagsUnique ∧ State.reset.BooksBalance ∧
    State.reset.PlungesTogether ∧ State.reset.BayQueuesSound ∧ State.reset.PlansInWindow ∧ State.reset.PlannedInWindow
end

