-- ==== Sys2Proof/Laws/State.lean ====
section
/-! SUPPORT. One lemma for each field and each named update of State: what an update leaves, and what it writes. -/

namespace Sys2Proof.Machine

open Sys2Proof

variable (s : State)

/-! `bumpBy` leaves every other field. -/

@[simp] theorem State.bumpBy_pending (c : Counter) (n : Nat) : (s.bumpBy c n).pending = s.pending := rfl
@[simp] theorem State.bumpBy_freeCount (c : Counter) (n : Nat) : (s.bumpBy c n).freeCount = s.freeCount := rfl
@[simp] theorem State.bumpBy_pulses (c : Counter) (n : Nat) : (s.bumpBy c n).pulses = s.pulses := rfl
@[simp] theorem State.bumpBy_resetPin (c : Counter) (n : Nat) : (s.bumpBy c n).resetPin = s.resetPin := rfl
@[simp] theorem State.bumpBy_supplyRisen (c : Counter) (n : Nat) : (s.bumpBy c n).supplyRisen = s.supplyRisen := rfl
@[simp] theorem State.bumpBy_homed (c : Counter) (n : Nat) : (s.bumpBy c n).homed = s.homed := rfl
@[simp] theorem State.bumpBy_inputs (c : Counter) (n : Nat) : (s.bumpBy c n).inputs = s.inputs := rfl
@[simp] theorem State.bumpBy_link (c : Counter) (n : Nat) : (s.bumpBy c n).link = s.link := rfl
@[simp] theorem State.bumpBy_geometry (c : Counter) (n : Nat) : (s.bumpBy c n).geometry = s.geometry := rfl
@[simp] theorem State.bumpBy_limits (c : Counter) (n : Nat) : (s.bumpBy c n).limits = s.limits := rfl
@[simp] theorem State.bumpBy_lineal (c : Counter) (n : Nat) : (s.bumpBy c n).lineal = s.lineal := rfl
@[simp] theorem State.bumpBy_moulder (c : Counter) (n : Nat) : (s.bumpBy c n).moulder = s.moulder := rfl
@[simp] theorem State.bumpBy_strips (c : Counter) (n : Nat) : (s.bumpBy c n).strips = s.strips := rfl
@[simp] theorem State.bumpBy_matcher (c : Counter) (n : Nat) : (s.bumpBy c n).matcher = s.matcher := rfl
@[simp] theorem State.bumpBy_chain (c : Counter) (n : Nat) : (s.bumpBy c n).chain = s.chain := rfl
@[simp] theorem State.bumpBy_grades (c : Counter) (n : Nat) : (s.bumpBy c n).grades = s.grades := rfl
@[simp] theorem State.bumpBy_points (c : Counter) (n : Nat) : (s.bumpBy c n).points = s.points := rfl
@[simp] theorem State.bumpBy_headSide (c : Counter) (n : Nat) : (s.bumpBy c n).headSide = s.headSide := rfl
@[simp] theorem State.bumpBy_tailSide (c : Counter) (n : Nat) : (s.bumpBy c n).tailSide = s.tailSide := rfl
@[simp] theorem State.bumpBy_calendar (c : Counter) (n : Nat) : (s.bumpBy c n).calendar = s.calendar := rfl
@[simp] theorem State.bumpBy_bays (c : Counter) (n : Nat) : (s.bumpBy c n).bays = s.bays := rfl
@[simp] theorem State.bumpBy_strapper (c : Counter) (n : Nat) : (s.bumpBy c n).strapper = s.strapper := rfl
@[simp] theorem State.bumpBy_labelWait (c : Counter) (n : Nat) : (s.bumpBy c n).labelWait = s.labelWait := rfl
@[simp] theorem State.bumpBy_bundleSerial (c : Counter) (n : Nat) : (s.bumpBy c n).bundleSerial = s.bundleSerial := rfl
@[simp] theorem State.bumpBy_orders (c : Counter) (n : Nat) : (s.bumpBy c n).orders = s.orders := rfl
@[simp] theorem State.bumpBy_labels (c : Counter) (n : Nat) : (s.bumpBy c n).labels = s.labels := rfl

/-! `bump` leaves every other field. -/

@[simp] theorem State.bump_pending (c : Counter) : (s.bump c).pending = s.pending := rfl
@[simp] theorem State.bump_freeCount (c : Counter) : (s.bump c).freeCount = s.freeCount := rfl
@[simp] theorem State.bump_pulses (c : Counter) : (s.bump c).pulses = s.pulses := rfl
@[simp] theorem State.bump_resetPin (c : Counter) : (s.bump c).resetPin = s.resetPin := rfl
@[simp] theorem State.bump_supplyRisen (c : Counter) : (s.bump c).supplyRisen = s.supplyRisen := rfl
@[simp] theorem State.bump_homed (c : Counter) : (s.bump c).homed = s.homed := rfl
@[simp] theorem State.bump_inputs (c : Counter) : (s.bump c).inputs = s.inputs := rfl
@[simp] theorem State.bump_link (c : Counter) : (s.bump c).link = s.link := rfl
@[simp] theorem State.bump_geometry (c : Counter) : (s.bump c).geometry = s.geometry := rfl
@[simp] theorem State.bump_limits (c : Counter) : (s.bump c).limits = s.limits := rfl
@[simp] theorem State.bump_lineal (c : Counter) : (s.bump c).lineal = s.lineal := rfl
@[simp] theorem State.bump_moulder (c : Counter) : (s.bump c).moulder = s.moulder := rfl
@[simp] theorem State.bump_strips (c : Counter) : (s.bump c).strips = s.strips := rfl
@[simp] theorem State.bump_matcher (c : Counter) : (s.bump c).matcher = s.matcher := rfl
@[simp] theorem State.bump_chain (c : Counter) : (s.bump c).chain = s.chain := rfl
@[simp] theorem State.bump_grades (c : Counter) : (s.bump c).grades = s.grades := rfl
@[simp] theorem State.bump_points (c : Counter) : (s.bump c).points = s.points := rfl
@[simp] theorem State.bump_headSide (c : Counter) : (s.bump c).headSide = s.headSide := rfl
@[simp] theorem State.bump_tailSide (c : Counter) : (s.bump c).tailSide = s.tailSide := rfl
@[simp] theorem State.bump_calendar (c : Counter) : (s.bump c).calendar = s.calendar := rfl
@[simp] theorem State.bump_bays (c : Counter) : (s.bump c).bays = s.bays := rfl
@[simp] theorem State.bump_strapper (c : Counter) : (s.bump c).strapper = s.strapper := rfl
@[simp] theorem State.bump_labelWait (c : Counter) : (s.bump c).labelWait = s.labelWait := rfl
@[simp] theorem State.bump_bundleSerial (c : Counter) : (s.bump c).bundleSerial = s.bundleSerial := rfl
@[simp] theorem State.bump_orders (c : Counter) : (s.bump c).orders = s.orders := rfl
@[simp] theorem State.bump_labels (c : Counter) : (s.bump c).labels = s.labels := rfl

/-! `raise` leaves every other field. -/

@[simp] theorem State.raise_pending (n : Notice) : (s.raise n).pending = s.pending := rfl
@[simp] theorem State.raise_freeCount (n : Notice) : (s.raise n).freeCount = s.freeCount := rfl
@[simp] theorem State.raise_pulses (n : Notice) : (s.raise n).pulses = s.pulses := rfl
@[simp] theorem State.raise_resetPin (n : Notice) : (s.raise n).resetPin = s.resetPin := rfl
@[simp] theorem State.raise_supplyRisen (n : Notice) : (s.raise n).supplyRisen = s.supplyRisen := rfl
@[simp] theorem State.raise_homed (n : Notice) : (s.raise n).homed = s.homed := rfl
@[simp] theorem State.raise_inputs (n : Notice) : (s.raise n).inputs = s.inputs := rfl
@[simp] theorem State.raise_counters (n : Notice) : (s.raise n).counters = s.counters := rfl
@[simp] theorem State.raise_geometry (n : Notice) : (s.raise n).geometry = s.geometry := rfl
@[simp] theorem State.raise_limits (n : Notice) : (s.raise n).limits = s.limits := rfl
@[simp] theorem State.raise_lineal (n : Notice) : (s.raise n).lineal = s.lineal := rfl
@[simp] theorem State.raise_moulder (n : Notice) : (s.raise n).moulder = s.moulder := rfl
@[simp] theorem State.raise_strips (n : Notice) : (s.raise n).strips = s.strips := rfl
@[simp] theorem State.raise_matcher (n : Notice) : (s.raise n).matcher = s.matcher := rfl
@[simp] theorem State.raise_chain (n : Notice) : (s.raise n).chain = s.chain := rfl
@[simp] theorem State.raise_grades (n : Notice) : (s.raise n).grades = s.grades := rfl
@[simp] theorem State.raise_points (n : Notice) : (s.raise n).points = s.points := rfl
@[simp] theorem State.raise_headSide (n : Notice) : (s.raise n).headSide = s.headSide := rfl
@[simp] theorem State.raise_tailSide (n : Notice) : (s.raise n).tailSide = s.tailSide := rfl
@[simp] theorem State.raise_calendar (n : Notice) : (s.raise n).calendar = s.calendar := rfl
@[simp] theorem State.raise_bays (n : Notice) : (s.raise n).bays = s.bays := rfl
@[simp] theorem State.raise_strapper (n : Notice) : (s.raise n).strapper = s.strapper := rfl
@[simp] theorem State.raise_labelWait (n : Notice) : (s.raise n).labelWait = s.labelWait := rfl
@[simp] theorem State.raise_bundleSerial (n : Notice) : (s.raise n).bundleSerial = s.bundleSerial := rfl
@[simp] theorem State.raise_orders (n : Notice) : (s.raise n).orders = s.orders := rfl
@[simp] theorem State.raise_labels (n : Notice) : (s.raise n).labels = s.labels := rfl

/-! `pulse` leaves every other field. -/

@[simp] theorem State.pulse_pending (p : Pulse) : (s.pulse p).pending = s.pending := rfl
@[simp] theorem State.pulse_freeCount (p : Pulse) : (s.pulse p).freeCount = s.freeCount := rfl
@[simp] theorem State.pulse_resetPin (p : Pulse) : (s.pulse p).resetPin = s.resetPin := rfl
@[simp] theorem State.pulse_supplyRisen (p : Pulse) : (s.pulse p).supplyRisen = s.supplyRisen := rfl
@[simp] theorem State.pulse_homed (p : Pulse) : (s.pulse p).homed = s.homed := rfl
@[simp] theorem State.pulse_inputs (p : Pulse) : (s.pulse p).inputs = s.inputs := rfl
@[simp] theorem State.pulse_link (p : Pulse) : (s.pulse p).link = s.link := rfl
@[simp] theorem State.pulse_counters (p : Pulse) : (s.pulse p).counters = s.counters := rfl
@[simp] theorem State.pulse_geometry (p : Pulse) : (s.pulse p).geometry = s.geometry := rfl
@[simp] theorem State.pulse_limits (p : Pulse) : (s.pulse p).limits = s.limits := rfl
@[simp] theorem State.pulse_lineal (p : Pulse) : (s.pulse p).lineal = s.lineal := rfl
@[simp] theorem State.pulse_moulder (p : Pulse) : (s.pulse p).moulder = s.moulder := rfl
@[simp] theorem State.pulse_strips (p : Pulse) : (s.pulse p).strips = s.strips := rfl
@[simp] theorem State.pulse_matcher (p : Pulse) : (s.pulse p).matcher = s.matcher := rfl
@[simp] theorem State.pulse_chain (p : Pulse) : (s.pulse p).chain = s.chain := rfl
@[simp] theorem State.pulse_grades (p : Pulse) : (s.pulse p).grades = s.grades := rfl
@[simp] theorem State.pulse_points (p : Pulse) : (s.pulse p).points = s.points := rfl
@[simp] theorem State.pulse_headSide (p : Pulse) : (s.pulse p).headSide = s.headSide := rfl
@[simp] theorem State.pulse_tailSide (p : Pulse) : (s.pulse p).tailSide = s.tailSide := rfl
@[simp] theorem State.pulse_calendar (p : Pulse) : (s.pulse p).calendar = s.calendar := rfl
@[simp] theorem State.pulse_bays (p : Pulse) : (s.pulse p).bays = s.bays := rfl
@[simp] theorem State.pulse_strapper (p : Pulse) : (s.pulse p).strapper = s.strapper := rfl
@[simp] theorem State.pulse_labelWait (p : Pulse) : (s.pulse p).labelWait = s.labelWait := rfl
@[simp] theorem State.pulse_bundleSerial (p : Pulse) : (s.pulse p).bundleSerial = s.bundleSerial := rfl
@[simp] theorem State.pulse_orders (p : Pulse) : (s.pulse p).orders = s.orders := rfl
@[simp] theorem State.pulse_labels (p : Pulse) : (s.pulse p).labels = s.labels := rfl

/-! `clearPulses` leaves every other field. -/

@[simp] theorem State.clearPulses_pending : s.clearPulses.pending = s.pending := rfl
@[simp] theorem State.clearPulses_freeCount : s.clearPulses.freeCount = s.freeCount := rfl
@[simp] theorem State.clearPulses_resetPin : s.clearPulses.resetPin = s.resetPin := rfl
@[simp] theorem State.clearPulses_supplyRisen : s.clearPulses.supplyRisen = s.supplyRisen := rfl
@[simp] theorem State.clearPulses_inputs : s.clearPulses.inputs = s.inputs := rfl
@[simp] theorem State.clearPulses_link : s.clearPulses.link = s.link := rfl
@[simp] theorem State.clearPulses_counters : s.clearPulses.counters = s.counters := rfl
@[simp] theorem State.clearPulses_geometry : s.clearPulses.geometry = s.geometry := rfl
@[simp] theorem State.clearPulses_limits : s.clearPulses.limits = s.limits := rfl
@[simp] theorem State.clearPulses_lineal : s.clearPulses.lineal = s.lineal := rfl
@[simp] theorem State.clearPulses_moulder : s.clearPulses.moulder = s.moulder := rfl
@[simp] theorem State.clearPulses_strips : s.clearPulses.strips = s.strips := rfl
@[simp] theorem State.clearPulses_matcher : s.clearPulses.matcher = s.matcher := rfl
@[simp] theorem State.clearPulses_chain : s.clearPulses.chain = s.chain := rfl
@[simp] theorem State.clearPulses_grades : s.clearPulses.grades = s.grades := rfl
@[simp] theorem State.clearPulses_points : s.clearPulses.points = s.points := rfl
@[simp] theorem State.clearPulses_headSide : s.clearPulses.headSide = s.headSide := rfl
@[simp] theorem State.clearPulses_tailSide : s.clearPulses.tailSide = s.tailSide := rfl
@[simp] theorem State.clearPulses_calendar : s.clearPulses.calendar = s.calendar := rfl
@[simp] theorem State.clearPulses_bays : s.clearPulses.bays = s.bays := rfl
@[simp] theorem State.clearPulses_strapper : s.clearPulses.strapper = s.strapper := rfl
@[simp] theorem State.clearPulses_labelWait : s.clearPulses.labelWait = s.labelWait := rfl
@[simp] theorem State.clearPulses_bundleSerial : s.clearPulses.bundleSerial = s.bundleSerial := rfl
@[simp] theorem State.clearPulses_orders : s.clearPulses.orders = s.orders := rfl
@[simp] theorem State.clearPulses_labels : s.clearPulses.labels = s.labels := rfl

/-! `updStrip` leaves every other field. -/

@[simp] theorem State.updStrip_pending (tag : Nat) (f : Strip → Strip) : (s.updStrip tag f).pending = s.pending := rfl
@[simp] theorem State.updStrip_freeCount (tag : Nat) (f : Strip → Strip) : (s.updStrip tag f).freeCount = s.freeCount :=
  rfl
@[simp] theorem State.updStrip_pulses (tag : Nat) (f : Strip → Strip) : (s.updStrip tag f).pulses = s.pulses := rfl
@[simp] theorem State.updStrip_resetPin (tag : Nat) (f : Strip → Strip) : (s.updStrip tag f).resetPin = s.resetPin :=
  rfl
@[simp] theorem State.updStrip_supplyRisen (tag : Nat) (f : Strip → Strip) : (s.updStrip tag f).supplyRisen = s.supplyRisen :=
  rfl
@[simp] theorem State.updStrip_homed (tag : Nat) (f : Strip → Strip) : (s.updStrip tag f).homed = s.homed :=
  rfl
@[simp] theorem State.updStrip_inputs (tag : Nat) (f : Strip → Strip) : (s.updStrip tag f).inputs = s.inputs := rfl
@[simp] theorem State.updStrip_link (tag : Nat) (f : Strip → Strip) : (s.updStrip tag f).link = s.link := rfl
@[simp] theorem State.updStrip_counters (tag : Nat) (f : Strip → Strip) : (s.updStrip tag f).counters = s.counters :=
  rfl
@[simp] theorem State.updStrip_geometry (tag : Nat) (f : Strip → Strip) : (s.updStrip tag f).geometry = s.geometry :=
  rfl
@[simp] theorem State.updStrip_limits (tag : Nat) (f : Strip → Strip) : (s.updStrip tag f).limits = s.limits := rfl
@[simp] theorem State.updStrip_lineal (tag : Nat) (f : Strip → Strip) : (s.updStrip tag f).lineal = s.lineal := rfl
@[simp] theorem State.updStrip_moulder (tag : Nat) (f : Strip → Strip) : (s.updStrip tag f).moulder = s.moulder := rfl
@[simp] theorem State.updStrip_matcher (tag : Nat) (f : Strip → Strip) : (s.updStrip tag f).matcher = s.matcher := rfl
@[simp] theorem State.updStrip_chain (tag : Nat) (f : Strip → Strip) : (s.updStrip tag f).chain = s.chain := rfl
@[simp] theorem State.updStrip_grades (tag : Nat) (f : Strip → Strip) : (s.updStrip tag f).grades = s.grades := rfl
@[simp] theorem State.updStrip_points (tag : Nat) (f : Strip → Strip) : (s.updStrip tag f).points = s.points := rfl
@[simp] theorem State.updStrip_headSide (tag : Nat) (f : Strip → Strip) : (s.updStrip tag f).headSide = s.headSide :=
  rfl
@[simp] theorem State.updStrip_tailSide (tag : Nat) (f : Strip → Strip) : (s.updStrip tag f).tailSide = s.tailSide :=
  rfl
@[simp] theorem State.updStrip_calendar (tag : Nat) (f : Strip → Strip) : (s.updStrip tag f).calendar = s.calendar :=
  rfl
@[simp] theorem State.updStrip_bays (tag : Nat) (f : Strip → Strip) : (s.updStrip tag f).bays = s.bays := rfl
@[simp] theorem State.updStrip_strapper (tag : Nat) (f : Strip → Strip) : (s.updStrip tag f).strapper = s.strapper :=
  rfl
@[simp] theorem State.updStrip_labelWait (tag : Nat) (f : Strip → Strip) : (s.updStrip tag f).labelWait = s.labelWait :=
  rfl
@[simp] theorem State.updStrip_bundleSerial (tag : Nat) (f : Strip → Strip) : (s.updStrip tag f).bundleSerial = s.bundleSerial :=
  rfl
@[simp] theorem State.updStrip_orders (tag : Nat) (f : Strip → Strip) : (s.updStrip tag f).orders = s.orders := rfl
@[simp] theorem State.updStrip_labels (tag : Nat) (f : Strip → Strip) : (s.updStrip tag f).labels = s.labels := rfl

/-! `setSlot` leaves every other field. -/

@[simp] theorem State.setSlot_pending (n : Serial) (l : LugSlot) : (s.setSlot n l).pending = s.pending := rfl
@[simp] theorem State.setSlot_freeCount (n : Serial) (l : LugSlot) : (s.setSlot n l).freeCount = s.freeCount := rfl
@[simp] theorem State.setSlot_pulses (n : Serial) (l : LugSlot) : (s.setSlot n l).pulses = s.pulses := rfl
@[simp] theorem State.setSlot_resetPin (n : Serial) (l : LugSlot) : (s.setSlot n l).resetPin = s.resetPin := rfl
@[simp] theorem State.setSlot_supplyRisen (n : Serial) (l : LugSlot) : (s.setSlot n l).supplyRisen = s.supplyRisen :=
  rfl
@[simp] theorem State.setSlot_homed (n : Serial) (l : LugSlot) : (s.setSlot n l).homed = s.homed :=
  rfl
@[simp] theorem State.setSlot_inputs (n : Serial) (l : LugSlot) : (s.setSlot n l).inputs = s.inputs := rfl
@[simp] theorem State.setSlot_link (n : Serial) (l : LugSlot) : (s.setSlot n l).link = s.link := rfl
@[simp] theorem State.setSlot_counters (n : Serial) (l : LugSlot) : (s.setSlot n l).counters = s.counters := rfl
@[simp] theorem State.setSlot_geometry (n : Serial) (l : LugSlot) : (s.setSlot n l).geometry = s.geometry := rfl
@[simp] theorem State.setSlot_limits (n : Serial) (l : LugSlot) : (s.setSlot n l).limits = s.limits := rfl
@[simp] theorem State.setSlot_lineal (n : Serial) (l : LugSlot) : (s.setSlot n l).lineal = s.lineal := rfl
@[simp] theorem State.setSlot_moulder (n : Serial) (l : LugSlot) : (s.setSlot n l).moulder = s.moulder := rfl
@[simp] theorem State.setSlot_strips (n : Serial) (l : LugSlot) : (s.setSlot n l).strips = s.strips := rfl
@[simp] theorem State.setSlot_matcher (n : Serial) (l : LugSlot) : (s.setSlot n l).matcher = s.matcher := rfl
@[simp] theorem State.setSlot_grades (n : Serial) (l : LugSlot) : (s.setSlot n l).grades = s.grades := rfl
@[simp] theorem State.setSlot_points (n : Serial) (l : LugSlot) : (s.setSlot n l).points = s.points := rfl
@[simp] theorem State.setSlot_headSide (n : Serial) (l : LugSlot) : (s.setSlot n l).headSide = s.headSide := rfl
@[simp] theorem State.setSlot_tailSide (n : Serial) (l : LugSlot) : (s.setSlot n l).tailSide = s.tailSide := rfl
@[simp] theorem State.setSlot_calendar (n : Serial) (l : LugSlot) : (s.setSlot n l).calendar = s.calendar := rfl
@[simp] theorem State.setSlot_bays (n : Serial) (l : LugSlot) : (s.setSlot n l).bays = s.bays := rfl
@[simp] theorem State.setSlot_strapper (n : Serial) (l : LugSlot) : (s.setSlot n l).strapper = s.strapper := rfl
@[simp] theorem State.setSlot_labelWait (n : Serial) (l : LugSlot) : (s.setSlot n l).labelWait = s.labelWait := rfl
@[simp] theorem State.setSlot_bundleSerial (n : Serial) (l : LugSlot) : (s.setSlot n l).bundleSerial = s.bundleSerial :=
  rfl
@[simp] theorem State.setSlot_orders (n : Serial) (l : LugSlot) : (s.setSlot n l).orders = s.orders := rfl
@[simp] theorem State.setSlot_labels (n : Serial) (l : LugSlot) : (s.setSlot n l).labels = s.labels := rfl

/-! `setKind` leaves every other field. -/

@[simp] theorem State.setKind_pending (n : Serial) (k : SlotKind) : (s.setKind n k).pending = s.pending := rfl
@[simp] theorem State.setKind_freeCount (n : Serial) (k : SlotKind) : (s.setKind n k).freeCount = s.freeCount := rfl
@[simp] theorem State.setKind_pulses (n : Serial) (k : SlotKind) : (s.setKind n k).pulses = s.pulses := rfl
@[simp] theorem State.setKind_resetPin (n : Serial) (k : SlotKind) : (s.setKind n k).resetPin = s.resetPin := rfl
@[simp] theorem State.setKind_supplyRisen (n : Serial) (k : SlotKind) : (s.setKind n k).supplyRisen = s.supplyRisen :=
  rfl
@[simp] theorem State.setKind_homed (n : Serial) (k : SlotKind) : (s.setKind n k).homed = s.homed :=
  rfl
@[simp] theorem State.setKind_inputs (n : Serial) (k : SlotKind) : (s.setKind n k).inputs = s.inputs := rfl
@[simp] theorem State.setKind_link (n : Serial) (k : SlotKind) : (s.setKind n k).link = s.link := rfl
@[simp] theorem State.setKind_counters (n : Serial) (k : SlotKind) : (s.setKind n k).counters = s.counters := rfl
@[simp] theorem State.setKind_geometry (n : Serial) (k : SlotKind) : (s.setKind n k).geometry = s.geometry := rfl
@[simp] theorem State.setKind_limits (n : Serial) (k : SlotKind) : (s.setKind n k).limits = s.limits := rfl
@[simp] theorem State.setKind_lineal (n : Serial) (k : SlotKind) : (s.setKind n k).lineal = s.lineal := rfl
@[simp] theorem State.setKind_moulder (n : Serial) (k : SlotKind) : (s.setKind n k).moulder = s.moulder := rfl
@[simp] theorem State.setKind_strips (n : Serial) (k : SlotKind) : (s.setKind n k).strips = s.strips := rfl
@[simp] theorem State.setKind_matcher (n : Serial) (k : SlotKind) : (s.setKind n k).matcher = s.matcher := rfl
@[simp] theorem State.setKind_grades (n : Serial) (k : SlotKind) : (s.setKind n k).grades = s.grades := rfl
@[simp] theorem State.setKind_points (n : Serial) (k : SlotKind) : (s.setKind n k).points = s.points := rfl
@[simp] theorem State.setKind_headSide (n : Serial) (k : SlotKind) : (s.setKind n k).headSide = s.headSide := rfl
@[simp] theorem State.setKind_tailSide (n : Serial) (k : SlotKind) : (s.setKind n k).tailSide = s.tailSide := rfl
@[simp] theorem State.setKind_calendar (n : Serial) (k : SlotKind) : (s.setKind n k).calendar = s.calendar := rfl
@[simp] theorem State.setKind_bays (n : Serial) (k : SlotKind) : (s.setKind n k).bays = s.bays := rfl
@[simp] theorem State.setKind_strapper (n : Serial) (k : SlotKind) : (s.setKind n k).strapper = s.strapper := rfl
@[simp] theorem State.setKind_labelWait (n : Serial) (k : SlotKind) : (s.setKind n k).labelWait = s.labelWait := rfl
@[simp] theorem State.setKind_bundleSerial (n : Serial) (k : SlotKind) : (s.setKind n k).bundleSerial = s.bundleSerial :=
  rfl
@[simp] theorem State.setKind_orders (n : Serial) (k : SlotKind) : (s.setKind n k).orders = s.orders := rfl
@[simp] theorem State.setKind_labels (n : Serial) (k : SlotKind) : (s.setKind n k).labels = s.labels := rfl

/-! `setHead` leaves every other field. -/

@[simp] theorem State.setHead_pending (h : HeadId) (r : Head) : (s.setHead h r).pending = s.pending := by
  cases h <;> rfl
@[simp] theorem State.setHead_freeCount (h : HeadId) (r : Head) : (s.setHead h r).freeCount = s.freeCount := by
  cases h <;> rfl
@[simp] theorem State.setHead_pulses (h : HeadId) (r : Head) : (s.setHead h r).pulses = s.pulses := by cases h <;> rfl
@[simp] theorem State.setHead_resetPin (h : HeadId) (r : Head) : (s.setHead h r).resetPin = s.resetPin := by
  cases h <;> rfl
@[simp] theorem State.setHead_supplyRisen (h : HeadId) (r : Head) : (s.setHead h r).supplyRisen = s.supplyRisen := by
  cases h <;> rfl
@[simp] theorem State.setHead_homed (h : HeadId) (r : Head) : (s.setHead h r).homed = s.homed := by
  cases h <;> rfl
@[simp] theorem State.setHead_inputs (h : HeadId) (r : Head) : (s.setHead h r).inputs = s.inputs := by cases h <;> rfl
@[simp] theorem State.setHead_link (h : HeadId) (r : Head) : (s.setHead h r).link = s.link := by cases h <;> rfl
@[simp] theorem State.setHead_counters (h : HeadId) (r : Head) : (s.setHead h r).counters = s.counters := by
  cases h <;> rfl
@[simp] theorem State.setHead_geometry (h : HeadId) (r : Head) : (s.setHead h r).geometry = s.geometry := by
  cases h <;> rfl
@[simp] theorem State.setHead_limits (h : HeadId) (r : Head) : (s.setHead h r).limits = s.limits := by cases h <;> rfl
@[simp] theorem State.setHead_lineal (h : HeadId) (r : Head) : (s.setHead h r).lineal = s.lineal := by cases h <;> rfl
@[simp] theorem State.setHead_moulder (h : HeadId) (r : Head) : (s.setHead h r).moulder = s.moulder := by
  cases h <;> rfl
@[simp] theorem State.setHead_strips (h : HeadId) (r : Head) : (s.setHead h r).strips = s.strips := by cases h <;> rfl
@[simp] theorem State.setHead_matcher (h : HeadId) (r : Head) : (s.setHead h r).matcher = s.matcher := by
  cases h <;> rfl
@[simp] theorem State.setHead_chain (h : HeadId) (r : Head) : (s.setHead h r).chain = s.chain := by cases h <;> rfl
@[simp] theorem State.setHead_grades (h : HeadId) (r : Head) : (s.setHead h r).grades = s.grades := by cases h <;> rfl
@[simp] theorem State.setHead_points (h : HeadId) (r : Head) : (s.setHead h r).points = s.points := by cases h <;> rfl
@[simp] theorem State.setHead_calendar (h : HeadId) (r : Head) : (s.setHead h r).calendar = s.calendar := by
  cases h <;> rfl
@[simp] theorem State.setHead_bays (h : HeadId) (r : Head) : (s.setHead h r).bays = s.bays := by cases h <;> rfl
@[simp] theorem State.setHead_strapper (h : HeadId) (r : Head) : (s.setHead h r).strapper = s.strapper := by
  cases h <;> rfl
@[simp] theorem State.setHead_labelWait (h : HeadId) (r : Head) : (s.setHead h r).labelWait = s.labelWait := by
  cases h <;> rfl
@[simp] theorem State.setHead_bundleSerial (h : HeadId) (r : Head) : (s.setHead h r).bundleSerial = s.bundleSerial := by
  cases h <;> rfl
@[simp] theorem State.setHead_orders (h : HeadId) (r : Head) : (s.setHead h r).orders = s.orders := by cases h <;> rfl
@[simp] theorem State.setHead_labels (h : HeadId) (r : Head) : (s.setHead h r).labels = s.labels := by cases h <;> rfl

/-! `updHead` leaves every other field. -/

@[simp] theorem State.updHead_pending (h : HeadId) (f : Head → Head) : (s.updHead h f).pending = s.pending := by
  cases h <;> rfl
@[simp] theorem State.updHead_freeCount (h : HeadId) (f : Head → Head) : (s.updHead h f).freeCount = s.freeCount := by
  cases h <;> rfl
@[simp] theorem State.updHead_pulses (h : HeadId) (f : Head → Head) : (s.updHead h f).pulses = s.pulses := by
  cases h <;> rfl
@[simp] theorem State.updHead_resetPin (h : HeadId) (f : Head → Head) : (s.updHead h f).resetPin = s.resetPin := by
  cases h <;> rfl
@[simp] theorem State.updHead_supplyRisen (h : HeadId) (f : Head → Head) : (s.updHead h f).supplyRisen = s.supplyRisen :=
  by
  cases h <;> rfl
@[simp] theorem State.updHead_homed (h : HeadId) (f : Head → Head) : (s.updHead h f).homed = s.homed :=
  by
  cases h <;> rfl
@[simp] theorem State.updHead_inputs (h : HeadId) (f : Head → Head) : (s.updHead h f).inputs = s.inputs := by
  cases h <;> rfl
@[simp] theorem State.updHead_link (h : HeadId) (f : Head → Head) : (s.updHead h f).link = s.link := by cases h <;> rfl
@[simp] theorem State.updHead_counters (h : HeadId) (f : Head → Head) : (s.updHead h f).counters = s.counters := by
  cases h <;> rfl
@[simp] theorem State.updHead_geometry (h : HeadId) (f : Head → Head) : (s.updHead h f).geometry = s.geometry := by
  cases h <;> rfl
@[simp] theorem State.updHead_limits (h : HeadId) (f : Head → Head) : (s.updHead h f).limits = s.limits := by
  cases h <;> rfl
@[simp] theorem State.updHead_lineal (h : HeadId) (f : Head → Head) : (s.updHead h f).lineal = s.lineal := by
  cases h <;> rfl
@[simp] theorem State.updHead_moulder (h : HeadId) (f : Head → Head) : (s.updHead h f).moulder = s.moulder := by
  cases h <;> rfl
@[simp] theorem State.updHead_strips (h : HeadId) (f : Head → Head) : (s.updHead h f).strips = s.strips := by
  cases h <;> rfl
@[simp] theorem State.updHead_matcher (h : HeadId) (f : Head → Head) : (s.updHead h f).matcher = s.matcher := by
  cases h <;> rfl
@[simp] theorem State.updHead_chain (h : HeadId) (f : Head → Head) : (s.updHead h f).chain = s.chain := by
  cases h <;> rfl
@[simp] theorem State.updHead_grades (h : HeadId) (f : Head → Head) : (s.updHead h f).grades = s.grades := by
  cases h <;> rfl
@[simp] theorem State.updHead_points (h : HeadId) (f : Head → Head) : (s.updHead h f).points = s.points := by
  cases h <;> rfl
@[simp] theorem State.updHead_calendar (h : HeadId) (f : Head → Head) : (s.updHead h f).calendar = s.calendar := by
  cases h <;> rfl
@[simp] theorem State.updHead_bays (h : HeadId) (f : Head → Head) : (s.updHead h f).bays = s.bays := by cases h <;> rfl
@[simp] theorem State.updHead_strapper (h : HeadId) (f : Head → Head) : (s.updHead h f).strapper = s.strapper := by
  cases h <;> rfl
@[simp] theorem State.updHead_labelWait (h : HeadId) (f : Head → Head) : (s.updHead h f).labelWait = s.labelWait := by
  cases h <;> rfl
@[simp] theorem State.updHead_bundleSerial (h : HeadId) (f : Head → Head) : (s.updHead h f).bundleSerial = s.bundleSerial :=
  by
  cases h <;> rfl
@[simp] theorem State.updHead_orders (h : HeadId) (f : Head → Head) : (s.updHead h f).orders = s.orders := by
  cases h <;> rfl
@[simp] theorem State.updHead_labels (h : HeadId) (f : Head → Head) : (s.updHead h f).labels = s.labels := by
  cases h <;> rfl

/-! `updBay` leaves every other field. -/

@[simp] theorem State.updBay_pending (k : BayId) (f : Bay → Bay) : (s.updBay k f).pending = s.pending := rfl
@[simp] theorem State.updBay_freeCount (k : BayId) (f : Bay → Bay) : (s.updBay k f).freeCount = s.freeCount := rfl
@[simp] theorem State.updBay_pulses (k : BayId) (f : Bay → Bay) : (s.updBay k f).pulses = s.pulses := rfl
@[simp] theorem State.updBay_resetPin (k : BayId) (f : Bay → Bay) : (s.updBay k f).resetPin = s.resetPin := rfl
@[simp] theorem State.updBay_supplyRisen (k : BayId) (f : Bay → Bay) : (s.updBay k f).supplyRisen = s.supplyRisen := rfl
@[simp] theorem State.updBay_homed (k : BayId) (f : Bay → Bay) : (s.updBay k f).homed = s.homed := rfl
@[simp] theorem State.updBay_inputs (k : BayId) (f : Bay → Bay) : (s.updBay k f).inputs = s.inputs := rfl
@[simp] theorem State.updBay_link (k : BayId) (f : Bay → Bay) : (s.updBay k f).link = s.link := rfl
@[simp] theorem State.updBay_counters (k : BayId) (f : Bay → Bay) : (s.updBay k f).counters = s.counters := rfl
@[simp] theorem State.updBay_geometry (k : BayId) (f : Bay → Bay) : (s.updBay k f).geometry = s.geometry := rfl
@[simp] theorem State.updBay_limits (k : BayId) (f : Bay → Bay) : (s.updBay k f).limits = s.limits := rfl
@[simp] theorem State.updBay_lineal (k : BayId) (f : Bay → Bay) : (s.updBay k f).lineal = s.lineal := rfl
@[simp] theorem State.updBay_moulder (k : BayId) (f : Bay → Bay) : (s.updBay k f).moulder = s.moulder := rfl
@[simp] theorem State.updBay_strips (k : BayId) (f : Bay → Bay) : (s.updBay k f).strips = s.strips := rfl
@[simp] theorem State.updBay_matcher (k : BayId) (f : Bay → Bay) : (s.updBay k f).matcher = s.matcher := rfl
@[simp] theorem State.updBay_chain (k : BayId) (f : Bay → Bay) : (s.updBay k f).chain = s.chain := rfl
@[simp] theorem State.updBay_grades (k : BayId) (f : Bay → Bay) : (s.updBay k f).grades = s.grades := rfl
@[simp] theorem State.updBay_points (k : BayId) (f : Bay → Bay) : (s.updBay k f).points = s.points := rfl
@[simp] theorem State.updBay_headSide (k : BayId) (f : Bay → Bay) : (s.updBay k f).headSide = s.headSide := rfl
@[simp] theorem State.updBay_tailSide (k : BayId) (f : Bay → Bay) : (s.updBay k f).tailSide = s.tailSide := rfl
@[simp] theorem State.updBay_calendar (k : BayId) (f : Bay → Bay) : (s.updBay k f).calendar = s.calendar := rfl
@[simp] theorem State.updBay_strapper (k : BayId) (f : Bay → Bay) : (s.updBay k f).strapper = s.strapper := rfl
@[simp] theorem State.updBay_labelWait (k : BayId) (f : Bay → Bay) : (s.updBay k f).labelWait = s.labelWait := rfl
@[simp] theorem State.updBay_bundleSerial (k : BayId) (f : Bay → Bay) : (s.updBay k f).bundleSerial = s.bundleSerial :=
  rfl
@[simp] theorem State.updBay_orders (k : BayId) (f : Bay → Bay) : (s.updBay k f).orders = s.orders := rfl
@[simp] theorem State.updBay_labels (k : BayId) (f : Bay → Bay) : (s.updBay k f).labels = s.labels := rfl

/-! `updBundle` leaves every other field. -/

@[simp] theorem State.updBundle_pending (k : BayId) (f : Bundle → Bundle) : (s.updBundle k f).pending = s.pending := rfl
@[simp] theorem State.updBundle_freeCount (k : BayId) (f : Bundle → Bundle) : (s.updBundle k f).freeCount = s.freeCount :=
  rfl
@[simp] theorem State.updBundle_pulses (k : BayId) (f : Bundle → Bundle) : (s.updBundle k f).pulses = s.pulses := rfl
@[simp] theorem State.updBundle_resetPin (k : BayId) (f : Bundle → Bundle) : (s.updBundle k f).resetPin = s.resetPin :=
  rfl
@[simp] theorem State.updBundle_supplyRisen (k : BayId) (f : Bundle → Bundle) : (s.updBundle k f).supplyRisen = s.supplyRisen :=
  rfl
@[simp] theorem State.updBundle_homed (k : BayId) (f : Bundle → Bundle) : (s.updBundle k f).homed = s.homed :=
  rfl
@[simp] theorem State.updBundle_inputs (k : BayId) (f : Bundle → Bundle) : (s.updBundle k f).inputs = s.inputs := rfl
@[simp] theorem State.updBundle_link (k : BayId) (f : Bundle → Bundle) : (s.updBundle k f).link = s.link := rfl
@[simp] theorem State.updBundle_counters (k : BayId) (f : Bundle → Bundle) : (s.updBundle k f).counters = s.counters :=
  rfl
@[simp] theorem State.updBundle_geometry (k : BayId) (f : Bundle → Bundle) : (s.updBundle k f).geometry = s.geometry :=
  rfl
@[simp] theorem State.updBundle_limits (k : BayId) (f : Bundle → Bundle) : (s.updBundle k f).limits = s.limits := rfl
@[simp] theorem State.updBundle_lineal (k : BayId) (f : Bundle → Bundle) : (s.updBundle k f).lineal = s.lineal := rfl
@[simp] theorem State.updBundle_moulder (k : BayId) (f : Bundle → Bundle) : (s.updBundle k f).moulder = s.moulder := rfl
@[simp] theorem State.updBundle_strips (k : BayId) (f : Bundle → Bundle) : (s.updBundle k f).strips = s.strips := rfl
@[simp] theorem State.updBundle_matcher (k : BayId) (f : Bundle → Bundle) : (s.updBundle k f).matcher = s.matcher := rfl
@[simp] theorem State.updBundle_chain (k : BayId) (f : Bundle → Bundle) : (s.updBundle k f).chain = s.chain := rfl
@[simp] theorem State.updBundle_grades (k : BayId) (f : Bundle → Bundle) : (s.updBundle k f).grades = s.grades := rfl
@[simp] theorem State.updBundle_points (k : BayId) (f : Bundle → Bundle) : (s.updBundle k f).points = s.points := rfl
@[simp] theorem State.updBundle_headSide (k : BayId) (f : Bundle → Bundle) : (s.updBundle k f).headSide = s.headSide :=
  rfl
@[simp] theorem State.updBundle_tailSide (k : BayId) (f : Bundle → Bundle) : (s.updBundle k f).tailSide = s.tailSide :=
  rfl
@[simp] theorem State.updBundle_calendar (k : BayId) (f : Bundle → Bundle) : (s.updBundle k f).calendar = s.calendar :=
  rfl
@[simp] theorem State.updBundle_strapper (k : BayId) (f : Bundle → Bundle) : (s.updBundle k f).strapper = s.strapper :=
  rfl
@[simp] theorem State.updBundle_labelWait (k : BayId) (f : Bundle → Bundle) : (s.updBundle k f).labelWait = s.labelWait :=
  rfl
@[simp] theorem State.updBundle_bundleSerial (k : BayId) (f : Bundle → Bundle) : (s.updBundle k f).bundleSerial = s.bundleSerial :=
  rfl
@[simp] theorem State.updBundle_orders (k : BayId) (f : Bundle → Bundle) : (s.updBundle k f).orders = s.orders := rfl
@[simp] theorem State.updBundle_labels (k : BayId) (f : Bundle → Bundle) : (s.updBundle k f).labels = s.labels := rfl

/-! `updOrder` leaves every other field. -/

@[simp] theorem State.updOrder_pending (id : Nat) (f : Order → Order) : (s.updOrder id f).pending = s.pending := rfl
@[simp] theorem State.updOrder_freeCount (id : Nat) (f : Order → Order) : (s.updOrder id f).freeCount = s.freeCount :=
  rfl
@[simp] theorem State.updOrder_pulses (id : Nat) (f : Order → Order) : (s.updOrder id f).pulses = s.pulses := rfl
@[simp] theorem State.updOrder_resetPin (id : Nat) (f : Order → Order) : (s.updOrder id f).resetPin = s.resetPin := rfl
@[simp] theorem State.updOrder_supplyRisen (id : Nat) (f : Order → Order) : (s.updOrder id f).supplyRisen = s.supplyRisen :=
  rfl
@[simp] theorem State.updOrder_homed (id : Nat) (f : Order → Order) : (s.updOrder id f).homed = s.homed :=
  rfl
@[simp] theorem State.updOrder_inputs (id : Nat) (f : Order → Order) : (s.updOrder id f).inputs = s.inputs := rfl
@[simp] theorem State.updOrder_link (id : Nat) (f : Order → Order) : (s.updOrder id f).link = s.link := rfl
@[simp] theorem State.updOrder_counters (id : Nat) (f : Order → Order) : (s.updOrder id f).counters = s.counters := rfl
@[simp] theorem State.updOrder_geometry (id : Nat) (f : Order → Order) : (s.updOrder id f).geometry = s.geometry := rfl
@[simp] theorem State.updOrder_limits (id : Nat) (f : Order → Order) : (s.updOrder id f).limits = s.limits := rfl
@[simp] theorem State.updOrder_lineal (id : Nat) (f : Order → Order) : (s.updOrder id f).lineal = s.lineal := rfl
@[simp] theorem State.updOrder_moulder (id : Nat) (f : Order → Order) : (s.updOrder id f).moulder = s.moulder := rfl
@[simp] theorem State.updOrder_strips (id : Nat) (f : Order → Order) : (s.updOrder id f).strips = s.strips := rfl
@[simp] theorem State.updOrder_matcher (id : Nat) (f : Order → Order) : (s.updOrder id f).matcher = s.matcher := rfl
@[simp] theorem State.updOrder_chain (id : Nat) (f : Order → Order) : (s.updOrder id f).chain = s.chain := rfl
@[simp] theorem State.updOrder_grades (id : Nat) (f : Order → Order) : (s.updOrder id f).grades = s.grades := rfl
@[simp] theorem State.updOrder_points (id : Nat) (f : Order → Order) : (s.updOrder id f).points = s.points := rfl
@[simp] theorem State.updOrder_headSide (id : Nat) (f : Order → Order) : (s.updOrder id f).headSide = s.headSide := rfl
@[simp] theorem State.updOrder_tailSide (id : Nat) (f : Order → Order) : (s.updOrder id f).tailSide = s.tailSide := rfl
@[simp] theorem State.updOrder_calendar (id : Nat) (f : Order → Order) : (s.updOrder id f).calendar = s.calendar := rfl
@[simp] theorem State.updOrder_bays (id : Nat) (f : Order → Order) : (s.updOrder id f).bays = s.bays := rfl
@[simp] theorem State.updOrder_strapper (id : Nat) (f : Order → Order) : (s.updOrder id f).strapper = s.strapper := rfl
@[simp] theorem State.updOrder_labelWait (id : Nat) (f : Order → Order) : (s.updOrder id f).labelWait = s.labelWait :=
  rfl
@[simp] theorem State.updOrder_bundleSerial (id : Nat) (f : Order → Order) : (s.updOrder id f).bundleSerial = s.bundleSerial :=
  rfl
@[simp] theorem State.updOrder_labels (id : Nat) (f : Order → Order) : (s.updOrder id f).labels = s.labels := rfl

/-! `updInterp` leaves every other field. -/

@[simp] theorem State.updInterp_pending (f : Interpreter → Interpreter) : (s.updInterp f).pending = s.pending := rfl
@[simp] theorem State.updInterp_freeCount (f : Interpreter → Interpreter) : (s.updInterp f).freeCount = s.freeCount :=
  rfl
@[simp] theorem State.updInterp_pulses (f : Interpreter → Interpreter) : (s.updInterp f).pulses = s.pulses := rfl
@[simp] theorem State.updInterp_resetPin (f : Interpreter → Interpreter) : (s.updInterp f).resetPin = s.resetPin := rfl
@[simp] theorem State.updInterp_supplyRisen (f : Interpreter → Interpreter) : (s.updInterp f).supplyRisen = s.supplyRisen :=
  rfl
@[simp] theorem State.updInterp_homed (f : Interpreter → Interpreter) : (s.updInterp f).homed = s.homed :=
  rfl
@[simp] theorem State.updInterp_inputs (f : Interpreter → Interpreter) : (s.updInterp f).inputs = s.inputs := rfl
@[simp] theorem State.updInterp_link (f : Interpreter → Interpreter) : (s.updInterp f).link = s.link := rfl
@[simp] theorem State.updInterp_counters (f : Interpreter → Interpreter) : (s.updInterp f).counters = s.counters := rfl
@[simp] theorem State.updInterp_geometry (f : Interpreter → Interpreter) : (s.updInterp f).geometry = s.geometry := rfl
@[simp] theorem State.updInterp_limits (f : Interpreter → Interpreter) : (s.updInterp f).limits = s.limits := rfl
@[simp] theorem State.updInterp_lineal (f : Interpreter → Interpreter) : (s.updInterp f).lineal = s.lineal := rfl
@[simp] theorem State.updInterp_moulder (f : Interpreter → Interpreter) : (s.updInterp f).moulder = s.moulder := rfl
@[simp] theorem State.updInterp_strips (f : Interpreter → Interpreter) : (s.updInterp f).strips = s.strips := rfl
@[simp] theorem State.updInterp_matcher (f : Interpreter → Interpreter) : (s.updInterp f).matcher = s.matcher := rfl
@[simp] theorem State.updInterp_chain (f : Interpreter → Interpreter) : (s.updInterp f).chain = s.chain := rfl
@[simp] theorem State.updInterp_grades (f : Interpreter → Interpreter) : (s.updInterp f).grades = s.grades := rfl
@[simp] theorem State.updInterp_points (f : Interpreter → Interpreter) : (s.updInterp f).points = s.points := rfl
@[simp] theorem State.updInterp_headSide (f : Interpreter → Interpreter) : (s.updInterp f).headSide = s.headSide := rfl
@[simp] theorem State.updInterp_tailSide (f : Interpreter → Interpreter) : (s.updInterp f).tailSide = s.tailSide := rfl
@[simp] theorem State.updInterp_calendar (f : Interpreter → Interpreter) : (s.updInterp f).calendar = s.calendar := rfl
@[simp] theorem State.updInterp_bays (f : Interpreter → Interpreter) : (s.updInterp f).bays = s.bays := rfl
@[simp] theorem State.updInterp_strapper (f : Interpreter → Interpreter) : (s.updInterp f).strapper = s.strapper := rfl
@[simp] theorem State.updInterp_labelWait (f : Interpreter → Interpreter) : (s.updInterp f).labelWait = s.labelWait :=
  rfl
@[simp] theorem State.updInterp_bundleSerial (f : Interpreter → Interpreter) : (s.updInterp f).bundleSerial = s.bundleSerial :=
  rfl
@[simp] theorem State.updInterp_labels (f : Interpreter → Interpreter) : (s.updInterp f).labels = s.labels := rfl

/-! `updCal` leaves every other field. -/

@[simp] theorem State.updCal_pending (t : Serial) (f : CalendarEntry → CalendarEntry) : (s.updCal t f).pending = s.pending :=
  rfl
@[simp] theorem State.updCal_freeCount (t : Serial) (f : CalendarEntry → CalendarEntry) : (s.updCal t f).freeCount = s.freeCount :=
  rfl
@[simp] theorem State.updCal_pulses (t : Serial) (f : CalendarEntry → CalendarEntry) : (s.updCal t f).pulses = s.pulses :=
  rfl
@[simp] theorem State.updCal_resetPin (t : Serial) (f : CalendarEntry → CalendarEntry) : (s.updCal t f).resetPin = s.resetPin :=
  rfl
@[simp] theorem State.updCal_supplyRisen (t : Serial) (f : CalendarEntry → CalendarEntry) : (s.updCal t f).supplyRisen = s.supplyRisen :=
  rfl
@[simp] theorem State.updCal_homed (t : Serial) (f : CalendarEntry → CalendarEntry) : (s.updCal t f).homed = s.homed :=
  rfl
@[simp] theorem State.updCal_inputs (t : Serial) (f : CalendarEntry → CalendarEntry) : (s.updCal t f).inputs = s.inputs :=
  rfl
@[simp] theorem State.updCal_link (t : Serial) (f : CalendarEntry → CalendarEntry) : (s.updCal t f).link = s.link := rfl
@[simp] theorem State.updCal_counters (t : Serial) (f : CalendarEntry → CalendarEntry) : (s.updCal t f).counters = s.counters :=
  rfl
@[simp] theorem State.updCal_geometry (t : Serial) (f : CalendarEntry → CalendarEntry) : (s.updCal t f).geometry = s.geometry :=
  rfl
@[simp] theorem State.updCal_limits (t : Serial) (f : CalendarEntry → CalendarEntry) : (s.updCal t f).limits = s.limits :=
  rfl
@[simp] theorem State.updCal_lineal (t : Serial) (f : CalendarEntry → CalendarEntry) : (s.updCal t f).lineal = s.lineal :=
  rfl
@[simp] theorem State.updCal_moulder (t : Serial) (f : CalendarEntry → CalendarEntry) : (s.updCal t f).moulder = s.moulder :=
  rfl
@[simp] theorem State.updCal_strips (t : Serial) (f : CalendarEntry → CalendarEntry) : (s.updCal t f).strips = s.strips :=
  rfl
@[simp] theorem State.updCal_matcher (t : Serial) (f : CalendarEntry → CalendarEntry) : (s.updCal t f).matcher = s.matcher :=
  rfl
@[simp] theorem State.updCal_chain (t : Serial) (f : CalendarEntry → CalendarEntry) : (s.updCal t f).chain = s.chain :=
  rfl
@[simp] theorem State.updCal_grades (t : Serial) (f : CalendarEntry → CalendarEntry) : (s.updCal t f).grades = s.grades :=
  rfl
@[simp] theorem State.updCal_points (t : Serial) (f : CalendarEntry → CalendarEntry) : (s.updCal t f).points = s.points :=
  rfl
@[simp] theorem State.updCal_headSide (t : Serial) (f : CalendarEntry → CalendarEntry) : (s.updCal t f).headSide = s.headSide :=
  rfl
@[simp] theorem State.updCal_tailSide (t : Serial) (f : CalendarEntry → CalendarEntry) : (s.updCal t f).tailSide = s.tailSide :=
  rfl
@[simp] theorem State.updCal_bays (t : Serial) (f : CalendarEntry → CalendarEntry) : (s.updCal t f).bays = s.bays := rfl
@[simp] theorem State.updCal_strapper (t : Serial) (f : CalendarEntry → CalendarEntry) : (s.updCal t f).strapper = s.strapper :=
  rfl
@[simp] theorem State.updCal_labelWait (t : Serial) (f : CalendarEntry → CalendarEntry) : (s.updCal t f).labelWait = s.labelWait :=
  rfl
@[simp] theorem State.updCal_bundleSerial (t : Serial) (f : CalendarEntry → CalendarEntry) : (s.updCal t f).bundleSerial = s.bundleSerial :=
  rfl
@[simp] theorem State.updCal_orders (t : Serial) (f : CalendarEntry → CalendarEntry) : (s.updCal t f).orders = s.orders :=
  rfl
@[simp] theorem State.updCal_labels (t : Serial) (f : CalendarEntry → CalendarEntry) : (s.updCal t f).labels = s.labels :=
  rfl

/-! `planStarts` leaves every other field. -/

@[simp] theorem State.planStarts_pending (t : Serial) (c : Nat) : (s.planStarts t c).pending = s.pending := rfl
@[simp] theorem State.planStarts_freeCount (t : Serial) (c : Nat) : (s.planStarts t c).freeCount = s.freeCount := rfl
@[simp] theorem State.planStarts_pulses (t : Serial) (c : Nat) : (s.planStarts t c).pulses = s.pulses := rfl
@[simp] theorem State.planStarts_resetPin (t : Serial) (c : Nat) : (s.planStarts t c).resetPin = s.resetPin := rfl
@[simp] theorem State.planStarts_supplyRisen (t : Serial) (c : Nat) : (s.planStarts t c).supplyRisen = s.supplyRisen :=
  rfl
@[simp] theorem State.planStarts_homed (t : Serial) (c : Nat) : (s.planStarts t c).homed = s.homed :=
  rfl
@[simp] theorem State.planStarts_inputs (t : Serial) (c : Nat) : (s.planStarts t c).inputs = s.inputs := rfl
@[simp] theorem State.planStarts_link (t : Serial) (c : Nat) : (s.planStarts t c).link = s.link := rfl
@[simp] theorem State.planStarts_counters (t : Serial) (c : Nat) : (s.planStarts t c).counters = s.counters := rfl
@[simp] theorem State.planStarts_geometry (t : Serial) (c : Nat) : (s.planStarts t c).geometry = s.geometry := rfl
@[simp] theorem State.planStarts_limits (t : Serial) (c : Nat) : (s.planStarts t c).limits = s.limits := rfl
@[simp] theorem State.planStarts_lineal (t : Serial) (c : Nat) : (s.planStarts t c).lineal = s.lineal := rfl
@[simp] theorem State.planStarts_moulder (t : Serial) (c : Nat) : (s.planStarts t c).moulder = s.moulder := rfl
@[simp] theorem State.planStarts_strips (t : Serial) (c : Nat) : (s.planStarts t c).strips = s.strips := rfl
@[simp] theorem State.planStarts_matcher (t : Serial) (c : Nat) : (s.planStarts t c).matcher = s.matcher := rfl
@[simp] theorem State.planStarts_chain (t : Serial) (c : Nat) : (s.planStarts t c).chain = s.chain := rfl
@[simp] theorem State.planStarts_grades (t : Serial) (c : Nat) : (s.planStarts t c).grades = s.grades := rfl
@[simp] theorem State.planStarts_points (t : Serial) (c : Nat) : (s.planStarts t c).points = s.points := rfl
@[simp] theorem State.planStarts_headSide (t : Serial) (c : Nat) : (s.planStarts t c).headSide = s.headSide := rfl
@[simp] theorem State.planStarts_tailSide (t : Serial) (c : Nat) : (s.planStarts t c).tailSide = s.tailSide := rfl
@[simp] theorem State.planStarts_bays (t : Serial) (c : Nat) : (s.planStarts t c).bays = s.bays := rfl
@[simp] theorem State.planStarts_strapper (t : Serial) (c : Nat) : (s.planStarts t c).strapper = s.strapper := rfl
@[simp] theorem State.planStarts_labelWait (t : Serial) (c : Nat) : (s.planStarts t c).labelWait = s.labelWait := rfl
@[simp] theorem State.planStarts_bundleSerial (t : Serial) (c : Nat) : (s.planStarts t c).bundleSerial = s.bundleSerial :=
  rfl
@[simp] theorem State.planStarts_orders (t : Serial) (c : Nat) : (s.planStarts t c).orders = s.orders := rfl
@[simp] theorem State.planStarts_labels (t : Serial) (c : Nat) : (s.planStarts t c).labels = s.labels := rfl

/-! `freeStarts` leaves every other field. -/

@[simp] theorem State.freeStarts_pending (t : Serial) (c : Nat) : (s.freeStarts t c).pending = s.pending := rfl
@[simp] theorem State.freeStarts_freeCount (t : Serial) (c : Nat) : (s.freeStarts t c).freeCount = s.freeCount := rfl
@[simp] theorem State.freeStarts_pulses (t : Serial) (c : Nat) : (s.freeStarts t c).pulses = s.pulses := rfl
@[simp] theorem State.freeStarts_resetPin (t : Serial) (c : Nat) : (s.freeStarts t c).resetPin = s.resetPin := rfl
@[simp] theorem State.freeStarts_supplyRisen (t : Serial) (c : Nat) : (s.freeStarts t c).supplyRisen = s.supplyRisen :=
  rfl
@[simp] theorem State.freeStarts_homed (t : Serial) (c : Nat) : (s.freeStarts t c).homed = s.homed :=
  rfl
@[simp] theorem State.freeStarts_inputs (t : Serial) (c : Nat) : (s.freeStarts t c).inputs = s.inputs := rfl
@[simp] theorem State.freeStarts_link (t : Serial) (c : Nat) : (s.freeStarts t c).link = s.link := rfl
@[simp] theorem State.freeStarts_counters (t : Serial) (c : Nat) : (s.freeStarts t c).counters = s.counters := rfl
@[simp] theorem State.freeStarts_geometry (t : Serial) (c : Nat) : (s.freeStarts t c).geometry = s.geometry := rfl
@[simp] theorem State.freeStarts_limits (t : Serial) (c : Nat) : (s.freeStarts t c).limits = s.limits := rfl
@[simp] theorem State.freeStarts_lineal (t : Serial) (c : Nat) : (s.freeStarts t c).lineal = s.lineal := rfl
@[simp] theorem State.freeStarts_moulder (t : Serial) (c : Nat) : (s.freeStarts t c).moulder = s.moulder := rfl
@[simp] theorem State.freeStarts_strips (t : Serial) (c : Nat) : (s.freeStarts t c).strips = s.strips := rfl
@[simp] theorem State.freeStarts_matcher (t : Serial) (c : Nat) : (s.freeStarts t c).matcher = s.matcher := rfl
@[simp] theorem State.freeStarts_chain (t : Serial) (c : Nat) : (s.freeStarts t c).chain = s.chain := rfl
@[simp] theorem State.freeStarts_grades (t : Serial) (c : Nat) : (s.freeStarts t c).grades = s.grades := rfl
@[simp] theorem State.freeStarts_points (t : Serial) (c : Nat) : (s.freeStarts t c).points = s.points := rfl
@[simp] theorem State.freeStarts_headSide (t : Serial) (c : Nat) : (s.freeStarts t c).headSide = s.headSide := rfl
@[simp] theorem State.freeStarts_tailSide (t : Serial) (c : Nat) : (s.freeStarts t c).tailSide = s.tailSide := rfl
@[simp] theorem State.freeStarts_bays (t : Serial) (c : Nat) : (s.freeStarts t c).bays = s.bays := rfl
@[simp] theorem State.freeStarts_strapper (t : Serial) (c : Nat) : (s.freeStarts t c).strapper = s.strapper := rfl
@[simp] theorem State.freeStarts_labelWait (t : Serial) (c : Nat) : (s.freeStarts t c).labelWait = s.labelWait := rfl
@[simp] theorem State.freeStarts_bundleSerial (t : Serial) (c : Nat) : (s.freeStarts t c).bundleSerial = s.bundleSerial :=
  rfl
@[simp] theorem State.freeStarts_orders (t : Serial) (c : Nat) : (s.freeStarts t c).orders = s.orders := rfl
@[simp] theorem State.freeStarts_labels (t : Serial) (c : Nat) : (s.freeStarts t c).labels = s.labels := rfl

/-! `makeStarts` leaves every other field. -/

@[simp] theorem State.makeStarts_pending (t : Serial) (c : Nat) : (s.makeStarts t c).pending = s.pending := rfl
@[simp] theorem State.makeStarts_freeCount (t : Serial) (c : Nat) : (s.makeStarts t c).freeCount = s.freeCount := rfl
@[simp] theorem State.makeStarts_pulses (t : Serial) (c : Nat) : (s.makeStarts t c).pulses = s.pulses := rfl
@[simp] theorem State.makeStarts_resetPin (t : Serial) (c : Nat) : (s.makeStarts t c).resetPin = s.resetPin := rfl
@[simp] theorem State.makeStarts_supplyRisen (t : Serial) (c : Nat) : (s.makeStarts t c).supplyRisen = s.supplyRisen :=
  rfl
@[simp] theorem State.makeStarts_homed (t : Serial) (c : Nat) : (s.makeStarts t c).homed = s.homed :=
  rfl
@[simp] theorem State.makeStarts_inputs (t : Serial) (c : Nat) : (s.makeStarts t c).inputs = s.inputs := rfl
@[simp] theorem State.makeStarts_link (t : Serial) (c : Nat) : (s.makeStarts t c).link = s.link := rfl
@[simp] theorem State.makeStarts_counters (t : Serial) (c : Nat) : (s.makeStarts t c).counters = s.counters := rfl
@[simp] theorem State.makeStarts_geometry (t : Serial) (c : Nat) : (s.makeStarts t c).geometry = s.geometry := rfl
@[simp] theorem State.makeStarts_limits (t : Serial) (c : Nat) : (s.makeStarts t c).limits = s.limits := rfl
@[simp] theorem State.makeStarts_lineal (t : Serial) (c : Nat) : (s.makeStarts t c).lineal = s.lineal := rfl
@[simp] theorem State.makeStarts_moulder (t : Serial) (c : Nat) : (s.makeStarts t c).moulder = s.moulder := rfl
@[simp] theorem State.makeStarts_strips (t : Serial) (c : Nat) : (s.makeStarts t c).strips = s.strips := rfl
@[simp] theorem State.makeStarts_matcher (t : Serial) (c : Nat) : (s.makeStarts t c).matcher = s.matcher := rfl
@[simp] theorem State.makeStarts_chain (t : Serial) (c : Nat) : (s.makeStarts t c).chain = s.chain := rfl
@[simp] theorem State.makeStarts_grades (t : Serial) (c : Nat) : (s.makeStarts t c).grades = s.grades := rfl
@[simp] theorem State.makeStarts_points (t : Serial) (c : Nat) : (s.makeStarts t c).points = s.points := rfl
@[simp] theorem State.makeStarts_headSide (t : Serial) (c : Nat) : (s.makeStarts t c).headSide = s.headSide := rfl
@[simp] theorem State.makeStarts_tailSide (t : Serial) (c : Nat) : (s.makeStarts t c).tailSide = s.tailSide := rfl
@[simp] theorem State.makeStarts_bays (t : Serial) (c : Nat) : (s.makeStarts t c).bays = s.bays := rfl
@[simp] theorem State.makeStarts_strapper (t : Serial) (c : Nat) : (s.makeStarts t c).strapper = s.strapper := rfl
@[simp] theorem State.makeStarts_labelWait (t : Serial) (c : Nat) : (s.makeStarts t c).labelWait = s.labelWait := rfl
@[simp] theorem State.makeStarts_bundleSerial (t : Serial) (c : Nat) : (s.makeStarts t c).bundleSerial = s.bundleSerial :=
  rfl
@[simp] theorem State.makeStarts_orders (t : Serial) (c : Nat) : (s.makeStarts t c).orders = s.orders := rfl
@[simp] theorem State.makeStarts_labels (t : Serial) (c : Nat) : (s.makeStarts t c).labels = s.labels := rfl

/-! `calendarAdvance` leaves every other field. -/

@[simp] theorem State.calendarAdvance_pending : s.calendarAdvance.pending = s.pending := by
  simp only [State.calendarAdvance, State.updCal]
@[simp] theorem State.calendarAdvance_freeCount : s.calendarAdvance.freeCount = s.freeCount := by
  simp only [State.calendarAdvance, State.updCal]
@[simp] theorem State.calendarAdvance_pulses : s.calendarAdvance.pulses = s.pulses := by
  simp only [State.calendarAdvance, State.updCal]
@[simp] theorem State.calendarAdvance_resetPin : s.calendarAdvance.resetPin = s.resetPin := by
  simp only [State.calendarAdvance, State.updCal]
@[simp] theorem State.calendarAdvance_supplyRisen : s.calendarAdvance.supplyRisen = s.supplyRisen := by
  simp only [State.calendarAdvance, State.updCal]
@[simp] theorem State.calendarAdvance_homed : s.calendarAdvance.homed = s.homed := by
  simp only [State.calendarAdvance, State.updCal]
@[simp] theorem State.calendarAdvance_inputs : s.calendarAdvance.inputs = s.inputs := by
  simp only [State.calendarAdvance, State.updCal]
@[simp] theorem State.calendarAdvance_link : s.calendarAdvance.link = s.link := by
  simp only [State.calendarAdvance, State.updCal]
@[simp] theorem State.calendarAdvance_counters : s.calendarAdvance.counters = s.counters := by
  simp only [State.calendarAdvance, State.updCal]
@[simp] theorem State.calendarAdvance_geometry : s.calendarAdvance.geometry = s.geometry := by
  simp only [State.calendarAdvance, State.updCal]
@[simp] theorem State.calendarAdvance_limits : s.calendarAdvance.limits = s.limits := by
  simp only [State.calendarAdvance, State.updCal]
@[simp] theorem State.calendarAdvance_lineal : s.calendarAdvance.lineal = s.lineal := by
  simp only [State.calendarAdvance, State.updCal]
@[simp] theorem State.calendarAdvance_moulder : s.calendarAdvance.moulder = s.moulder := by
  simp only [State.calendarAdvance, State.updCal]
@[simp] theorem State.calendarAdvance_strips : s.calendarAdvance.strips = s.strips := by
  simp only [State.calendarAdvance, State.updCal]
@[simp] theorem State.calendarAdvance_matcher : s.calendarAdvance.matcher = s.matcher := by
  simp only [State.calendarAdvance, State.updCal]
@[simp] theorem State.calendarAdvance_chain : s.calendarAdvance.chain = s.chain := by
  simp only [State.calendarAdvance, State.updCal]
@[simp] theorem State.calendarAdvance_grades : s.calendarAdvance.grades = s.grades := by
  simp only [State.calendarAdvance, State.updCal]
@[simp] theorem State.calendarAdvance_points : s.calendarAdvance.points = s.points := by
  simp only [State.calendarAdvance, State.updCal]
@[simp] theorem State.calendarAdvance_headSide : s.calendarAdvance.headSide = s.headSide := by
  simp only [State.calendarAdvance, State.updCal]
@[simp] theorem State.calendarAdvance_tailSide : s.calendarAdvance.tailSide = s.tailSide := by
  simp only [State.calendarAdvance, State.updCal]
@[simp] theorem State.calendarAdvance_bays : s.calendarAdvance.bays = s.bays := by
  simp only [State.calendarAdvance, State.updCal]
@[simp] theorem State.calendarAdvance_strapper : s.calendarAdvance.strapper = s.strapper := by
  simp only [State.calendarAdvance, State.updCal]
@[simp] theorem State.calendarAdvance_labelWait : s.calendarAdvance.labelWait = s.labelWait := by
  simp only [State.calendarAdvance, State.updCal]
@[simp] theorem State.calendarAdvance_bundleSerial : s.calendarAdvance.bundleSerial = s.bundleSerial := by
  simp only [State.calendarAdvance, State.updCal]
@[simp] theorem State.calendarAdvance_orders : s.calendarAdvance.orders = s.orders := by
  simp only [State.calendarAdvance, State.updCal]
@[simp] theorem State.calendarAdvance_labels : s.calendarAdvance.labels = s.labels := by
  simp only [State.calendarAdvance, State.updCal]

/-! `clearPlanned` leaves every other field. -/

@[simp] theorem State.clearPlanned_pending : s.clearPlanned.pending = s.pending := by unfold State.clearPlanned; rfl
@[simp] theorem State.clearPlanned_freeCount : s.clearPlanned.freeCount = s.freeCount := by
  unfold State.clearPlanned; rfl
@[simp] theorem State.clearPlanned_pulses : s.clearPlanned.pulses = s.pulses := by unfold State.clearPlanned; rfl
@[simp] theorem State.clearPlanned_resetPin : s.clearPlanned.resetPin = s.resetPin := by unfold State.clearPlanned; rfl
@[simp] theorem State.clearPlanned_supplyRisen : s.clearPlanned.supplyRisen = s.supplyRisen := by
  unfold State.clearPlanned; rfl
@[simp] theorem State.clearPlanned_homed : s.clearPlanned.homed = s.homed := by
  unfold State.clearPlanned; rfl
@[simp] theorem State.clearPlanned_inputs : s.clearPlanned.inputs = s.inputs := by unfold State.clearPlanned; rfl
@[simp] theorem State.clearPlanned_link : s.clearPlanned.link = s.link := by unfold State.clearPlanned; rfl
@[simp] theorem State.clearPlanned_counters : s.clearPlanned.counters = s.counters := by unfold State.clearPlanned; rfl
@[simp] theorem State.clearPlanned_geometry : s.clearPlanned.geometry = s.geometry := by unfold State.clearPlanned; rfl
@[simp] theorem State.clearPlanned_limits : s.clearPlanned.limits = s.limits := by unfold State.clearPlanned; rfl
@[simp] theorem State.clearPlanned_lineal : s.clearPlanned.lineal = s.lineal := by unfold State.clearPlanned; rfl
@[simp] theorem State.clearPlanned_moulder : s.clearPlanned.moulder = s.moulder := by unfold State.clearPlanned; rfl
@[simp] theorem State.clearPlanned_strips : s.clearPlanned.strips = s.strips := by unfold State.clearPlanned; rfl
@[simp] theorem State.clearPlanned_matcher : s.clearPlanned.matcher = s.matcher := by unfold State.clearPlanned; rfl
@[simp] theorem State.clearPlanned_chain : s.clearPlanned.chain = s.chain := by unfold State.clearPlanned; rfl
@[simp] theorem State.clearPlanned_grades : s.clearPlanned.grades = s.grades := by unfold State.clearPlanned; rfl
@[simp] theorem State.clearPlanned_points : s.clearPlanned.points = s.points := by unfold State.clearPlanned; rfl
@[simp] theorem State.clearPlanned_headSide : s.clearPlanned.headSide = s.headSide := by unfold State.clearPlanned; rfl
@[simp] theorem State.clearPlanned_tailSide : s.clearPlanned.tailSide = s.tailSide := by unfold State.clearPlanned; rfl
@[simp] theorem State.clearPlanned_bays : s.clearPlanned.bays = s.bays := by unfold State.clearPlanned; rfl
@[simp] theorem State.clearPlanned_strapper : s.clearPlanned.strapper = s.strapper := by unfold State.clearPlanned; rfl
@[simp] theorem State.clearPlanned_labelWait : s.clearPlanned.labelWait = s.labelWait := by
  unfold State.clearPlanned; rfl
@[simp] theorem State.clearPlanned_bundleSerial : s.clearPlanned.bundleSerial = s.bundleSerial := by
  unfold State.clearPlanned; rfl
@[simp] theorem State.clearPlanned_orders : s.clearPlanned.orders = s.orders := by unfold State.clearPlanned; rfl
@[simp] theorem State.clearPlanned_labels : s.clearPlanned.labels = s.labels := by unfold State.clearPlanned; rfl

/-! `updLink` leaves every other field. -/

@[simp] theorem State.updLink_pending (f : Link → Link) : (s.updLink f).pending = s.pending := rfl
@[simp] theorem State.updLink_freeCount (f : Link → Link) : (s.updLink f).freeCount = s.freeCount := rfl
@[simp] theorem State.updLink_pulses (f : Link → Link) : (s.updLink f).pulses = s.pulses := rfl
@[simp] theorem State.updLink_resetPin (f : Link → Link) : (s.updLink f).resetPin = s.resetPin := rfl
@[simp] theorem State.updLink_supplyRisen (f : Link → Link) : (s.updLink f).supplyRisen = s.supplyRisen := rfl
@[simp] theorem State.updLink_homed (f : Link → Link) : (s.updLink f).homed = s.homed := rfl
@[simp] theorem State.updLink_inputs (f : Link → Link) : (s.updLink f).inputs = s.inputs := rfl
@[simp] theorem State.updLink_counters (f : Link → Link) : (s.updLink f).counters = s.counters := rfl
@[simp] theorem State.updLink_geometry (f : Link → Link) : (s.updLink f).geometry = s.geometry := rfl
@[simp] theorem State.updLink_limits (f : Link → Link) : (s.updLink f).limits = s.limits := rfl
@[simp] theorem State.updLink_lineal (f : Link → Link) : (s.updLink f).lineal = s.lineal := rfl
@[simp] theorem State.updLink_moulder (f : Link → Link) : (s.updLink f).moulder = s.moulder := rfl
@[simp] theorem State.updLink_strips (f : Link → Link) : (s.updLink f).strips = s.strips := rfl
@[simp] theorem State.updLink_matcher (f : Link → Link) : (s.updLink f).matcher = s.matcher := rfl
@[simp] theorem State.updLink_chain (f : Link → Link) : (s.updLink f).chain = s.chain := rfl
@[simp] theorem State.updLink_grades (f : Link → Link) : (s.updLink f).grades = s.grades := rfl
@[simp] theorem State.updLink_points (f : Link → Link) : (s.updLink f).points = s.points := rfl
@[simp] theorem State.updLink_headSide (f : Link → Link) : (s.updLink f).headSide = s.headSide := rfl
@[simp] theorem State.updLink_tailSide (f : Link → Link) : (s.updLink f).tailSide = s.tailSide := rfl
@[simp] theorem State.updLink_calendar (f : Link → Link) : (s.updLink f).calendar = s.calendar := rfl
@[simp] theorem State.updLink_bays (f : Link → Link) : (s.updLink f).bays = s.bays := rfl
@[simp] theorem State.updLink_strapper (f : Link → Link) : (s.updLink f).strapper = s.strapper := rfl
@[simp] theorem State.updLink_labelWait (f : Link → Link) : (s.updLink f).labelWait = s.labelWait := rfl
@[simp] theorem State.updLink_bundleSerial (f : Link → Link) : (s.updLink f).bundleSerial = s.bundleSerial := rfl
@[simp] theorem State.updLink_orders (f : Link → Link) : (s.updLink f).orders = s.orders := rfl
@[simp] theorem State.updLink_labels (f : Link → Link) : (s.updLink f).labels = s.labels := rfl

/-! `updChain` leaves every other field. -/

@[simp] theorem State.updChain_pending (f : Chain → Chain) : (s.updChain f).pending = s.pending := rfl
@[simp] theorem State.updChain_freeCount (f : Chain → Chain) : (s.updChain f).freeCount = s.freeCount := rfl
@[simp] theorem State.updChain_pulses (f : Chain → Chain) : (s.updChain f).pulses = s.pulses := rfl
@[simp] theorem State.updChain_resetPin (f : Chain → Chain) : (s.updChain f).resetPin = s.resetPin := rfl
@[simp] theorem State.updChain_supplyRisen (f : Chain → Chain) : (s.updChain f).supplyRisen = s.supplyRisen := rfl
@[simp] theorem State.updChain_homed (f : Chain → Chain) : (s.updChain f).homed = s.homed := rfl
@[simp] theorem State.updChain_inputs (f : Chain → Chain) : (s.updChain f).inputs = s.inputs := rfl
@[simp] theorem State.updChain_link (f : Chain → Chain) : (s.updChain f).link = s.link := rfl
@[simp] theorem State.updChain_counters (f : Chain → Chain) : (s.updChain f).counters = s.counters := rfl
@[simp] theorem State.updChain_geometry (f : Chain → Chain) : (s.updChain f).geometry = s.geometry := rfl
@[simp] theorem State.updChain_limits (f : Chain → Chain) : (s.updChain f).limits = s.limits := rfl
@[simp] theorem State.updChain_lineal (f : Chain → Chain) : (s.updChain f).lineal = s.lineal := rfl
@[simp] theorem State.updChain_moulder (f : Chain → Chain) : (s.updChain f).moulder = s.moulder := rfl
@[simp] theorem State.updChain_strips (f : Chain → Chain) : (s.updChain f).strips = s.strips := rfl
@[simp] theorem State.updChain_matcher (f : Chain → Chain) : (s.updChain f).matcher = s.matcher := rfl
@[simp] theorem State.updChain_grades (f : Chain → Chain) : (s.updChain f).grades = s.grades := rfl
@[simp] theorem State.updChain_points (f : Chain → Chain) : (s.updChain f).points = s.points := rfl
@[simp] theorem State.updChain_headSide (f : Chain → Chain) : (s.updChain f).headSide = s.headSide := rfl
@[simp] theorem State.updChain_tailSide (f : Chain → Chain) : (s.updChain f).tailSide = s.tailSide := rfl
@[simp] theorem State.updChain_calendar (f : Chain → Chain) : (s.updChain f).calendar = s.calendar := rfl
@[simp] theorem State.updChain_bays (f : Chain → Chain) : (s.updChain f).bays = s.bays := rfl
@[simp] theorem State.updChain_strapper (f : Chain → Chain) : (s.updChain f).strapper = s.strapper := rfl
@[simp] theorem State.updChain_labelWait (f : Chain → Chain) : (s.updChain f).labelWait = s.labelWait := rfl
@[simp] theorem State.updChain_bundleSerial (f : Chain → Chain) : (s.updChain f).bundleSerial = s.bundleSerial := rfl
@[simp] theorem State.updChain_orders (f : Chain → Chain) : (s.updChain f).orders = s.orders := rfl
@[simp] theorem State.updChain_labels (f : Chain → Chain) : (s.updChain f).labels = s.labels := rfl

/-! `updMatcher` leaves every other field. -/

@[simp] theorem State.updMatcher_pending (f : Matcher → Matcher) : (s.updMatcher f).pending = s.pending := rfl
@[simp] theorem State.updMatcher_freeCount (f : Matcher → Matcher) : (s.updMatcher f).freeCount = s.freeCount := rfl
@[simp] theorem State.updMatcher_pulses (f : Matcher → Matcher) : (s.updMatcher f).pulses = s.pulses := rfl
@[simp] theorem State.updMatcher_resetPin (f : Matcher → Matcher) : (s.updMatcher f).resetPin = s.resetPin := rfl
@[simp] theorem State.updMatcher_supplyRisen (f : Matcher → Matcher) : (s.updMatcher f).supplyRisen = s.supplyRisen :=
  rfl
@[simp] theorem State.updMatcher_homed (f : Matcher → Matcher) : (s.updMatcher f).homed = s.homed :=
  rfl
@[simp] theorem State.updMatcher_inputs (f : Matcher → Matcher) : (s.updMatcher f).inputs = s.inputs := rfl
@[simp] theorem State.updMatcher_link (f : Matcher → Matcher) : (s.updMatcher f).link = s.link := rfl
@[simp] theorem State.updMatcher_counters (f : Matcher → Matcher) : (s.updMatcher f).counters = s.counters := rfl
@[simp] theorem State.updMatcher_geometry (f : Matcher → Matcher) : (s.updMatcher f).geometry = s.geometry := rfl
@[simp] theorem State.updMatcher_limits (f : Matcher → Matcher) : (s.updMatcher f).limits = s.limits := rfl
@[simp] theorem State.updMatcher_lineal (f : Matcher → Matcher) : (s.updMatcher f).lineal = s.lineal := rfl
@[simp] theorem State.updMatcher_moulder (f : Matcher → Matcher) : (s.updMatcher f).moulder = s.moulder := rfl
@[simp] theorem State.updMatcher_strips (f : Matcher → Matcher) : (s.updMatcher f).strips = s.strips := rfl
@[simp] theorem State.updMatcher_chain (f : Matcher → Matcher) : (s.updMatcher f).chain = s.chain := rfl
@[simp] theorem State.updMatcher_grades (f : Matcher → Matcher) : (s.updMatcher f).grades = s.grades := rfl
@[simp] theorem State.updMatcher_points (f : Matcher → Matcher) : (s.updMatcher f).points = s.points := rfl
@[simp] theorem State.updMatcher_headSide (f : Matcher → Matcher) : (s.updMatcher f).headSide = s.headSide := rfl
@[simp] theorem State.updMatcher_tailSide (f : Matcher → Matcher) : (s.updMatcher f).tailSide = s.tailSide := rfl
@[simp] theorem State.updMatcher_calendar (f : Matcher → Matcher) : (s.updMatcher f).calendar = s.calendar := rfl
@[simp] theorem State.updMatcher_bays (f : Matcher → Matcher) : (s.updMatcher f).bays = s.bays := rfl
@[simp] theorem State.updMatcher_strapper (f : Matcher → Matcher) : (s.updMatcher f).strapper = s.strapper := rfl
@[simp] theorem State.updMatcher_labelWait (f : Matcher → Matcher) : (s.updMatcher f).labelWait = s.labelWait := rfl
@[simp] theorem State.updMatcher_bundleSerial (f : Matcher → Matcher) : (s.updMatcher f).bundleSerial = s.bundleSerial :=
  rfl
@[simp] theorem State.updMatcher_orders (f : Matcher → Matcher) : (s.updMatcher f).orders = s.orders := rfl
@[simp] theorem State.updMatcher_labels (f : Matcher → Matcher) : (s.updMatcher f).labels = s.labels := rfl

/-! `setPassage` leaves every other field. -/

@[simp] theorem State.setPassage_pending (p : Option Passage) : (s.setPassage p).pending = s.pending := rfl
@[simp] theorem State.setPassage_freeCount (p : Option Passage) : (s.setPassage p).freeCount = s.freeCount := rfl
@[simp] theorem State.setPassage_pulses (p : Option Passage) : (s.setPassage p).pulses = s.pulses := rfl
@[simp] theorem State.setPassage_resetPin (p : Option Passage) : (s.setPassage p).resetPin = s.resetPin := rfl
@[simp] theorem State.setPassage_supplyRisen (p : Option Passage) : (s.setPassage p).supplyRisen = s.supplyRisen := rfl
@[simp] theorem State.setPassage_homed (p : Option Passage) : (s.setPassage p).homed = s.homed := rfl
@[simp] theorem State.setPassage_inputs (p : Option Passage) : (s.setPassage p).inputs = s.inputs := rfl
@[simp] theorem State.setPassage_link (p : Option Passage) : (s.setPassage p).link = s.link := rfl
@[simp] theorem State.setPassage_counters (p : Option Passage) : (s.setPassage p).counters = s.counters := rfl
@[simp] theorem State.setPassage_geometry (p : Option Passage) : (s.setPassage p).geometry = s.geometry := rfl
@[simp] theorem State.setPassage_limits (p : Option Passage) : (s.setPassage p).limits = s.limits := rfl
@[simp] theorem State.setPassage_moulder (p : Option Passage) : (s.setPassage p).moulder = s.moulder := rfl
@[simp] theorem State.setPassage_strips (p : Option Passage) : (s.setPassage p).strips = s.strips := rfl
@[simp] theorem State.setPassage_matcher (p : Option Passage) : (s.setPassage p).matcher = s.matcher := rfl
@[simp] theorem State.setPassage_chain (p : Option Passage) : (s.setPassage p).chain = s.chain := rfl
@[simp] theorem State.setPassage_grades (p : Option Passage) : (s.setPassage p).grades = s.grades := rfl
@[simp] theorem State.setPassage_points (p : Option Passage) : (s.setPassage p).points = s.points := rfl
@[simp] theorem State.setPassage_headSide (p : Option Passage) : (s.setPassage p).headSide = s.headSide := rfl
@[simp] theorem State.setPassage_tailSide (p : Option Passage) : (s.setPassage p).tailSide = s.tailSide := rfl
@[simp] theorem State.setPassage_calendar (p : Option Passage) : (s.setPassage p).calendar = s.calendar := rfl
@[simp] theorem State.setPassage_bays (p : Option Passage) : (s.setPassage p).bays = s.bays := rfl
@[simp] theorem State.setPassage_strapper (p : Option Passage) : (s.setPassage p).strapper = s.strapper := rfl
@[simp] theorem State.setPassage_labelWait (p : Option Passage) : (s.setPassage p).labelWait = s.labelWait := rfl
@[simp] theorem State.setPassage_bundleSerial (p : Option Passage) : (s.setPassage p).bundleSerial = s.bundleSerial :=
  rfl
@[simp] theorem State.setPassage_orders (p : Option Passage) : (s.setPassage p).orders = s.orders := rfl
@[simp] theorem State.setPassage_labels (p : Option Passage) : (s.setPassage p).labels = s.labels := rfl

/-! `remove` leaves every other field. -/

@[simp] theorem State.remove_pending (tag : Nat) : (s.remove tag).pending = s.pending := by
  unfold State.remove; split <;> rfl
@[simp] theorem State.remove_freeCount (tag : Nat) : (s.remove tag).freeCount = s.freeCount := by
  unfold State.remove; split <;> rfl
@[simp] theorem State.remove_pulses (tag : Nat) : (s.remove tag).pulses = s.pulses := by
  unfold State.remove; split <;> rfl
@[simp] theorem State.remove_resetPin (tag : Nat) : (s.remove tag).resetPin = s.resetPin := by
  unfold State.remove; split <;> rfl
@[simp] theorem State.remove_supplyRisen (tag : Nat) : (s.remove tag).supplyRisen = s.supplyRisen := by
  unfold State.remove; split <;> rfl
@[simp] theorem State.remove_homed (tag : Nat) : (s.remove tag).homed = s.homed := by
  unfold State.remove; split <;> rfl
@[simp] theorem State.remove_inputs (tag : Nat) : (s.remove tag).inputs = s.inputs := by
  unfold State.remove; split <;> rfl
@[simp] theorem State.remove_link (tag : Nat) : (s.remove tag).link = s.link := by unfold State.remove; split <;> rfl
@[simp] theorem State.remove_counters (tag : Nat) : (s.remove tag).counters = s.counters := by
  unfold State.remove; split <;> rfl
@[simp] theorem State.remove_geometry (tag : Nat) : (s.remove tag).geometry = s.geometry := by
  unfold State.remove; split <;> rfl
@[simp] theorem State.remove_limits (tag : Nat) : (s.remove tag).limits = s.limits := by
  unfold State.remove; split <;> rfl
@[simp] theorem State.remove_moulder (tag : Nat) : (s.remove tag).moulder = s.moulder := by
  unfold State.remove; split <;> rfl
@[simp] theorem State.remove_matcher (tag : Nat) : (s.remove tag).matcher = s.matcher := by
  unfold State.remove; split <;> rfl
@[simp] theorem State.remove_grades (tag : Nat) : (s.remove tag).grades = s.grades := by
  unfold State.remove; split <;> rfl
@[simp] theorem State.remove_points (tag : Nat) : (s.remove tag).points = s.points := by
  unfold State.remove; split <;> rfl
@[simp] theorem State.remove_headSide (tag : Nat) : (s.remove tag).headSide = s.headSide := by
  unfold State.remove; split <;> rfl
@[simp] theorem State.remove_tailSide (tag : Nat) : (s.remove tag).tailSide = s.tailSide := by
  unfold State.remove; split <;> rfl
@[simp] theorem State.remove_calendar (tag : Nat) : (s.remove tag).calendar = s.calendar := by
  unfold State.remove; split <;> rfl
@[simp] theorem State.remove_bays (tag : Nat) : (s.remove tag).bays = s.bays := by unfold State.remove; split <;> rfl
@[simp] theorem State.remove_strapper (tag : Nat) : (s.remove tag).strapper = s.strapper := by
  unfold State.remove; split <;> rfl
@[simp] theorem State.remove_labelWait (tag : Nat) : (s.remove tag).labelWait = s.labelWait := by
  unfold State.remove; split <;> rfl
@[simp] theorem State.remove_bundleSerial (tag : Nat) : (s.remove tag).bundleSerial = s.bundleSerial := by
  unfold State.remove; split <;> rfl
@[simp] theorem State.remove_orders (tag : Nat) : (s.remove tag).orders = s.orders := by
  unfold State.remove; split <;> rfl
@[simp] theorem State.remove_labels (tag : Nat) : (s.remove tag).labels = s.labels := by
  unfold State.remove; split <;> rfl

/-! `retire` leaves every other field. -/

@[simp] theorem State.retire_pending (tag : Nat) (c : Counter) : (s.retire tag c).pending = s.pending := by
  simp only [State.retire, State.bump_pending, State.remove_pending]
@[simp] theorem State.retire_freeCount (tag : Nat) (c : Counter) : (s.retire tag c).freeCount = s.freeCount := by
  simp only [State.retire, State.bump_freeCount, State.remove_freeCount]
@[simp] theorem State.retire_pulses (tag : Nat) (c : Counter) : (s.retire tag c).pulses = s.pulses := by
  simp only [State.retire, State.bump_pulses, State.remove_pulses]
@[simp] theorem State.retire_resetPin (tag : Nat) (c : Counter) : (s.retire tag c).resetPin = s.resetPin := by
  simp only [State.retire, State.bump_resetPin, State.remove_resetPin]
@[simp] theorem State.retire_supplyRisen (tag : Nat) (c : Counter) : (s.retire tag c).supplyRisen = s.supplyRisen := by
  simp only [State.retire, State.bump_supplyRisen, State.remove_supplyRisen]
@[simp] theorem State.retire_homed (tag : Nat) (c : Counter) : (s.retire tag c).homed = s.homed := by
  simp only [State.retire, State.bump_homed, State.remove_homed]
@[simp] theorem State.retire_inputs (tag : Nat) (c : Counter) : (s.retire tag c).inputs = s.inputs := by
  simp only [State.retire, State.bump_inputs, State.remove_inputs]
@[simp] theorem State.retire_link (tag : Nat) (c : Counter) : (s.retire tag c).link = s.link := by
  simp only [State.retire, State.bump_link, State.remove_link]
@[simp] theorem State.retire_geometry (tag : Nat) (c : Counter) : (s.retire tag c).geometry = s.geometry := by
  simp only [State.retire, State.bump_geometry, State.remove_geometry]
@[simp] theorem State.retire_limits (tag : Nat) (c : Counter) : (s.retire tag c).limits = s.limits := by
  simp only [State.retire, State.bump_limits, State.remove_limits]
@[simp] theorem State.retire_moulder (tag : Nat) (c : Counter) : (s.retire tag c).moulder = s.moulder := by
  simp only [State.retire, State.bump_moulder, State.remove_moulder]
@[simp] theorem State.retire_matcher (tag : Nat) (c : Counter) : (s.retire tag c).matcher = s.matcher := by
  simp only [State.retire, State.bump_matcher, State.remove_matcher]
@[simp] theorem State.retire_grades (tag : Nat) (c : Counter) : (s.retire tag c).grades = s.grades := by
  simp only [State.retire, State.bump_grades, State.remove_grades]
@[simp] theorem State.retire_points (tag : Nat) (c : Counter) : (s.retire tag c).points = s.points := by
  simp only [State.retire, State.bump_points, State.remove_points]
@[simp] theorem State.retire_headSide (tag : Nat) (c : Counter) : (s.retire tag c).headSide = s.headSide := by
  simp only [State.retire, State.bump_headSide, State.remove_headSide]
@[simp] theorem State.retire_tailSide (tag : Nat) (c : Counter) : (s.retire tag c).tailSide = s.tailSide := by
  simp only [State.retire, State.bump_tailSide, State.remove_tailSide]
@[simp] theorem State.retire_calendar (tag : Nat) (c : Counter) : (s.retire tag c).calendar = s.calendar := by
  simp only [State.retire, State.bump_calendar, State.remove_calendar]
@[simp] theorem State.retire_bays (tag : Nat) (c : Counter) : (s.retire tag c).bays = s.bays := by
  simp only [State.retire, State.bump_bays, State.remove_bays]
@[simp] theorem State.retire_strapper (tag : Nat) (c : Counter) : (s.retire tag c).strapper = s.strapper := by
  simp only [State.retire, State.bump_strapper, State.remove_strapper]
@[simp] theorem State.retire_labelWait (tag : Nat) (c : Counter) : (s.retire tag c).labelWait = s.labelWait := by
  simp only [State.retire, State.bump_labelWait, State.remove_labelWait]
@[simp] theorem State.retire_bundleSerial (tag : Nat) (c : Counter) : (s.retire tag c).bundleSerial = s.bundleSerial :=
  by
  simp only [State.retire, State.bump_bundleSerial, State.remove_bundleSerial]
@[simp] theorem State.retire_orders (tag : Nat) (c : Counter) : (s.retire tag c).orders = s.orders := by
  simp only [State.retire, State.bump_orders, State.remove_orders]
@[simp] theorem State.retire_labels (tag : Nat) (c : Counter) : (s.retire tag c).labels = s.labels := by
  simp only [State.retire, State.bump_labels, State.remove_labels]

/-! What the updates write. -/

@[simp] theorem State.bumpBy_counters (c : Counter) (n : Nat) :
    (s.bumpBy c n).counters = s.counters.set c.idx (min Config.counterLimit (s.count c + n)) := rfl
@[simp] theorem State.pulse_pulses (p : Pulse) :
    (s.pulse p).pulses = s.pulses ++ [p] := rfl
@[simp] theorem State.clearPulses_pulses :
    s.clearPulses.pulses = [] := rfl
@[simp] theorem State.clearPulses_homed :
    s.clearPulses.homed = [] := rfl
@[simp] theorem State.raise_link (n : Notice) :
    (s.raise n).link = { s.link with notices := s.link.notices ||| n.bit } := rfl
@[simp] theorem State.updStrip_strips (tag : Nat) (f : Strip → Strip) :
    (s.updStrip tag f).strips = s.strips.map fun r => if r.tag = tag then f r else r := rfl
@[simp] theorem State.setSlot_chain (n : Serial) (l : LugSlot) :
    (s.setSlot n l).chain = { s.chain with slots := s.chain.slots.set (ringIdx n) l } := rfl
@[simp] theorem State.updBay_bays (k : BayId) (f : Bay → Bay) :
    (s.updBay k f).bays = s.bays.set k (f (s.bay k)) := rfl
@[simp] theorem State.updInterp_orders (f : Interpreter → Interpreter) :
    (s.updInterp f).orders = { s.orders with interp := f s.orders.interp } := rfl
@[simp] theorem State.updCal_calendar (t : Serial) (f : CalendarEntry → CalendarEntry) :
    (s.updCal t f).calendar = s.calendar.set (ringIdx t) (f (s.calEntry t)) := rfl
@[simp] theorem State.updLink_link (f : Link → Link) :
    (s.updLink f).link = f s.link := rfl
@[simp] theorem State.updChain_chain (f : Chain → Chain) :
    (s.updChain f).chain = f s.chain := rfl
@[simp] theorem State.updMatcher_matcher (f : Matcher → Matcher) :
    (s.updMatcher f).matcher = f s.matcher := rfl
@[simp] theorem State.setPassage_lineal (p : Option Passage) :
    (s.setPassage p).lineal = { s.lineal with passage := p } := rfl

end Sys2Proof.Machine
end

