-- ==== Sys2Proof/Laws/Ops.lean ====
section
/-! SUPPORT. What the shared operations do, said once: counters, notices, records, slots, bays, heads, events, free
orders, requests. Proofs cite these and do not unfold the operations. -/

namespace Sys2Proof.Machine

open Sys2Proof

variable (s : State)

/-! ## Counters and notices -/

theorem Counter.idx_inj {a b : Counter} (h : a.idx = b.idx) : a = b := by
  cases a <;> cases b <;> first | rfl | (exact absurd h (by decide))

theorem Notice.idx_inj {a b : Notice} (h : a.idx = b.idx) : a = b := by
  cases a <;> cases b <;> first | rfl | (exact absurd h (by decide))

/-- A counter that is bumped rises and stops at 65535 (R201). -/
@[simp] theorem State.count_bumpBy_self (c : Counter) (n : Nat) :
    (s.bumpBy c n).count c = min Config.counterLimit (s.count c + n) := by
  simp [State.count, State.bumpBy]

/-- The other counters stay. -/
theorem State.count_bumpBy_ne {c d : Counter} (h : d ≠ c) (n : Nat) : (s.bumpBy c n).count d = s.count d := by
  have : c.idx.val ≠ d.idx.val := fun e => h (Counter.idx_inj (Fin.ext e.symm))
  simp [State.count, State.bumpBy, this]

@[simp] theorem State.count_bump_self (c : Counter) : (s.bump c).count c = min Config.counterLimit (s.count c + 1) :=
  s.count_bumpBy_self c 1

theorem State.count_bump_ne {c d : Counter} (h : d ≠ c) : (s.bump c).count d = s.count d := s.count_bumpBy_ne h 1

/-- A raised notice is pending, and no other notice changes (R199). -/
theorem State.isPending_raise (n m : Notice) : (s.raise n).isPending m = (s.isPending m || decide (n = m)) := by
  have : n.idx.val = m.idx.val ↔ n = m := ⟨fun e => Notice.idx_inj (Fin.ext e), fun e => by rw [e]⟩
  simp only [State.isPending, State.raise_link, BitVec.getLsbD_or, Notice.bit, BitVec.getLsbD_twoPow, this]
  simp

/-! ## Records -/

/-- The record of a tag after a change of one record that keeps its tag. -/
theorem State.strip?_updStrip (tag t : Nat) (f : Strip → Strip) (hf : ∀ r, (f r).tag = r.tag) :
    (s.updStrip tag f).strip? t = (s.strip? t).map fun r => if r.tag = tag then f r else r := by
  simp only [State.strip?, State.updStrip_strips]
  induction s.strips with
  | nil => rfl
  | cons r l ih =>
    have ht : (if r.tag = tag then f r else r).tag = r.tag := by split <;> simp [hf]
    simp only [List.map_cons, List.find?_cons, ht]
    split <;> simp [ih]

/-- A record that is found carries the tag asked for. -/
theorem State.strip?_tag {t : Nat} {r : Strip} (h : s.strip? t = some r) : r.tag = t := by
  simpa using List.find?_some h

/-- No record carries a tag after its removal (R9). -/
theorem State.strip?_remove (tag : Nat) : (s.remove tag).strip? tag = none := by
  simp only [State.strip?, State.remove, List.find?_eq_none]
  intro r hr
  have := (List.mem_filter.mp hr).2
  simpa using this

/-! ## Slots, bays, heads, the calendar, orders -/

@[simp] theorem State.slot_setSlot (n : Serial) (l : LugSlot) : (s.setSlot n l).slot n = l := by
  simp [State.slot]

theorem State.slot_setSlot_ne {n m : Serial} (h : ringIdx m ≠ ringIdx n) (l : LugSlot) :
    (s.setSlot n l).slot m = s.slot m := by
  have : (ringIdx n).val ≠ (ringIdx m).val := fun e => h (Fin.ext e.symm)
  simp [State.slot, this]

@[simp] theorem State.bay_updBay (k : BayId) (f : Bay → Bay) : (s.updBay k f).bay k = f (s.bay k) := by
  simp [State.bay]

theorem State.bay_updBay_ne {k j : BayId} (h : j ≠ k) (f : Bay → Bay) : (s.updBay k f).bay j = s.bay j := by
  have : k.val ≠ j.val := fun e => h (Fin.ext e.symm)
  simp [State.bay, this]

@[simp] theorem State.head_updHead (h : HeadId) (f : Head → Head) : (s.updHead h f).head h = f (s.head h) := by
  cases h <;> rfl

theorem State.head_updHead_ne {h g : HeadId} (hg : g ≠ h) (f : Head → Head) : (s.updHead h f).head g = s.head g := by
  cases h <;> cases g <;> first | rfl | exact absurd rfl hg

@[simp] theorem State.calEntry_updCal (t : Serial) (f : CalendarEntry → CalendarEntry) :
    (s.updCal t f).calEntry t = f (s.calEntry t) := by
  simp [State.calEntry]

theorem State.calEntry_updCal_ne {t u : Serial} (h : ringIdx u ≠ ringIdx t) (f : CalendarEntry → CalendarEntry) :
    (s.updCal t f).calEntry u = s.calEntry u := by
  have : (ringIdx t).val ≠ (ringIdx u).val := fun e => h (Fin.ext e.symm)
  simp [State.calEntry, this]

/-- The order of an id after a change of one order that keeps its id. -/
theorem State.order?_updOrder (id i : Nat) (f : Order → Order) (hf : ∀ o, (f o).id = o.id) :
    (s.updOrder id f).order? i = (s.order? i).map fun o => if o.id = id then f o else o := by
  simp only [State.order?, State.updOrder]
  induction s.orders.table with
  | nil => rfl
  | cons r l ih =>
    have ht : (if r.id = id then f r else r).id = r.id := by split <;> simp [hf]
    simp only [List.map_cons, List.find?_cons, ht]
    split <;> simp [ih]

/-- A reservation grants and plans, or refuses and counts (R115). -/
theorem State.reserve_cases (t : Serial) (c : Nat) :
    (s.airFits t c = true ∧ s.reserve t c = (s.planStarts t c, true)) ∨
      (s.airFits t c = false ∧ s.reserve t c = (s.bump .airRefused, false)) := by
  unfold State.reserve
  cases s.airFits t c <;> simp

/-! ## Events -/

/-- Outside reset an event is taken with the old pulses over. -/
theorem takeEvent_run (f : State → State) (h : s.resetPin = false) : takeEvent f s = .next (f s.clearPulses) := by
  simp [takeEvent, h]

/-- While the reset pin is asserted no event is taken (R205). -/
theorem takeEvent_reset (f : State → State) (h : s.resetPin = true) : takeEvent f s = .next s.clearPulses := by
  simp [takeEvent, h]

/-- An event always answers a next state. -/
theorem takeEvent_next (f : State → State) : ∃ t, takeEvent f s = .next t := ⟨_, rfl⟩

/-- An edge outside reset: the level is written and the event is taken. -/
theorem takeEdge_run (g : Inputs → Inputs) (f : State → State) (h : s.resetPin = false) :
    takeEdge g f s = .next (f { s with inputs := g s.inputs, pulses := [], homed := [] }) := by
  simp [takeEdge, takeEvent, h, State.clearPulses]

@[simp] theorem inFreeOrder_nil {α : Type} (f : α → State → State) : inFreeOrder [] f s = s := rfl

@[simp] theorem inFreeOrder_singleton {α : Type} (a : α) (f : α → State → State) : inFreeOrder [a] f s = f a s := rfl

/-- The drain test does nothing when it is not due (R30). -/
theorem drainTest_not_due (h : drainDue s = false) : drainTest s = s := by simp [drainTest, h]

/-- Nothing is lost while no watched strip is past its deadline (R27). -/
theorem loseOverdue_none (h : s.overdue? = none) : loseOverdue s = s := by
  unfold loseOverdue
  cases s.lineal.queue.length with
  | zero => rfl
  | succ n => simp [loseOverdueLoop, h]

/-- After an event that is no count nothing is lost, or another strip is watched and the timeout is applied (R27). -/
theorem loseNewlyWatched_cases (old : Option Nat) :
    (s.watchedTag? = old ∧ loseNewlyWatched old s = s) ∨
    (s.watchedTag? ≠ old ∧ loseNewlyWatched old s = loseOverdue s) := by
  by_cases h : s.watchedTag? = old <;> simp [loseNewlyWatched, h]

/-- Nothing is newly lost while no watched strip is past its deadline (R27). -/
theorem loseNewlyWatched_none (old : Option Nat) (h : s.overdue? = none) : loseNewlyWatched old s = s := by
  simp [loseNewlyWatched, loseOverdue_none s h]

/-- A LOST_AT_TRANSFER row is the next count, or does nothing (R27). -/
theorem lostAtTransfer_cases :
    ((advanceP s).overdue?.isSome = true ∧ lostAtTransfer s = encoderCount s) ∨
    ((advanceP s).overdue? = none ∧ lostAtTransfer s = s) := by
  cases h : (advanceP s).overdue? <;> simp [lostAtTransfer, h]

/-! ## Heads and the lug tick -/

/-- An activation of an in-position input puts a READY head in position, completes a homing, and is ignored in FAULT (R100,
R110). -/
theorem positionReached_cases (earlier : List HeadId) (h : HeadId) :
    ((s.head h).state = .ready ∧ positionReached earlier h s = s.updHead h fun r => { r with inPosition := true }) ∨
    ((s.head h).state = .homing ∧ positionReached earlier h s = homingDone earlier s h) ∨
    ((s.head h).state = .fault ∧ positionReached earlier h s = s) := by
  cases hs : (s.head h).state <;> simp [positionReached, hs]

/-- Some of the homings completed right before a tick came together with it (R76). -/
theorem homingsAtTick_cases (homed : List HeadId) :
    (homed = [] ∧ homingsAtTick homed s = s) ∨
    (homed ≠ [] ∧ ∃ n, homingsAtTick homed s =
      (homed.drop n).foldl referenceAtTick { s with freeCount := s.freeCount + 1 }) := by
  cases homed with
  | nil => exact .inl ⟨rfl, rfl⟩
  | cons h l => exact .inr ⟨by simp, _, rfl⟩

@[simp] theorem homingsAtTick_nil : homingsAtTick [] s = s := rfl

/-! ## Reception -/

/-- A frame that never completes its length field is due 5 ms after its start byte (R192). -/
@[simp] theorem frameDeadline_none : frameDeadline none = 5 * 4608 := rfl

/-- A frame with a length field n is due 5 ms and the time of its 6 + n bytes after its start byte (R192). -/
@[simp] theorem frameDeadline_some (n : Fin 601) : frameDeadline (some n) = 5 * 4608 + 100 * (6 + n.val) := rfl

/-- A frame that begins in HUNT is received under its deadline; in the other states nothing begins (R192). -/
theorem linkBegin_cases (length : Option (Fin 601)) :
    (s.link.receiver ≠ .hunt ∧ linkBegin length s = s) ∨
    (s.link.receiver = .hunt ∧
      linkBegin length s = s.updLink fun l =>
        { l with receiver := .receiving, frameTimer := some (frameDeadline length) }) := by
  by_cases h : s.link.receiver = .hunt <;> simp [linkBegin, h]

/-! ## Requests -/

/-- A request heard outside LINK_HOLD restarts the watchdog and changes nothing else (R193). -/
theorem heard_clear (h : s.link.hold = false) :
    heard s = s.updLink fun l => { l with watchdog := s.limits.watchdogStart, hold := false } := by
  simp [heard, h, restartWatchdog, State.updLink]

/-- A request in ANSWERING is ignored (R193). -/
theorem request_answering (c : Byte) (ok : Nat → Bool) (f : List Byte → State → Reply) (p : List Byte)
    (h : s.link.receiver = .answering) : request c ok f p s = s := by
  simp [request, h]

/-- A request that is received, of a right length, is heard and answered as its block replies (R193). -/
theorem request_taken (c : Byte) (ok : Nat → Bool) (f : List Byte → State → Reply) (p : List Byte)
    (h : s.link.receiver ≠ .answering) (hl : p.length ≤ Config.payloadLimit) (ho : ok p.length = true) :
    request c ok f p s = respond c (heard s) (f p (heard s)) := by
  have : ¬ Config.payloadLimit < p.length := by omega
  simp [request, h, this, ho]

/-- A request of a wrong length is heard and answered BAD_ARGUMENT (R193, R206). -/
theorem request_length (c : Byte) (ok : Nat → Bool) (f : List Byte → State → Reply) (p : List Byte)
    (h : s.link.receiver ≠ .answering) (hl : p.length ≤ Config.payloadLimit) (ho : ok p.length = false) :
    request c ok f p s = answer c .badArgument [] (heard s) := by
  have : ¬ Config.payloadLimit < p.length := by omega
  simp [request, h, this, ho, respond]

end Sys2Proof.Machine
end

