-- ==== Sys2Proof/Laws/Blocks.lean ====
section
/-! SUPPORT. Everything an operation that several commands share can do, one lemma for each: orders, bays, bundles, labels,
the strapper, words, position rows, replies. Proofs take these cases and do not unfold the operations. -/

namespace Sys2Proof.Machine

open Sys2Proof

variable (s : State)

/-! ## Orders -/

/-- The completion test of an order leaves the state, completes an EMITTED order, or settles a CANCELLED one (R171). -/
theorem orderTest_cases (id : Nat) :
    orderTest s id = s ∨
    (∃ o, s.order? id = some o ∧ o.state = .emitted ∧ s.queuedCount id = 0 ∧ o.allEnded = true ∧
      orderTest s id = ((s.updOrder id fun o => { o with state := .complete }).raise .orderComplete).bump .ordersCompleted) ∨
    (∃ o, s.order? id = some o ∧ o.state = .cancelled ∧ o.allEnded = true ∧ o.settled = false ∧
      orderTest s id = (s.updOrder id fun o => { o with settled := true }).raise .orderComplete) := by
  cases h : s.order? id with
  | none => exact .inl (by simp [orderTest, h])
  | some o =>
    by_cases h1 : o.state = .emitted ∧ s.queuedCount id = 0 ∧ o.allEnded
    · exact .inr (.inl ⟨o, rfl, h1.1, h1.2.1, h1.2.2, by simp [orderTest, h, h1]⟩)
    · by_cases h2 : o.state = .cancelled ∧ o.allEnded ∧ o.settled = false
      · exact .inr (.inr ⟨o, rfl, h2.1, h2.2.1, h2.2.2, by simp [orderTest, h, h2]⟩)
      · exact .inl (by simp only [orderTest, h, if_neg h1, if_neg h2])

/-- The interpreter takes up the front order of the run list, or stays (R159). -/
theorem takeUp_cases : takeUp s = s ∨ (takeUpDue s = true ∧ takeUp s = takeUpFront s) := by
  by_cases h : takeUpDue s = true <;> simp [takeUp, h]

/-- Entries that leave the queue resume a QUEUE_WAIT interpreter and change nothing else (R162). -/
theorem placeFreed_cases :
    placeFreed s = s ∨
    (s.orders.interp.state = .queueWait ∧ placeFreed s = s.updInterp fun i => { i with state := .running }) := by
  by_cases h : s.orders.interp.state = .queueWait <;> simp [placeFreed, h]

/-- A change of the pause condition pauses the interpreter, resumes it, or lets it take up an order (R159, R166). -/
theorem pauseChanged_cases :
    (s.pauseCondition = true ∧ pauseChanged s = pauseInterp s) ∨
    (s.pauseCondition = false ∧ resumeDue s = true ∧ pauseChanged s = resumePaused s) ∨
    (s.pauseCondition = false ∧ resumeDue s = false ∧ pauseChanged s = takeUp s) := by
  cases h : s.pauseCondition <;> cases h2 : resumeDue s <;> simp [pauseChanged, h, h2]

/-- A fault stops the order the interpreter holds, or there is none to stop (R167). -/
theorem faultOrder_cases (code : FaultCode) :
    (s.orders.interp.order = none ∧ faultOrder s code = s) ∨
    (∃ id, s.orders.interp.order = some id ∧
      faultOrder s code =
        (((s.updOrder id fun o => { o with state := .faulted, faultCode := some code }).updInterp
          fun i => { i with state := .faulted }).raise .orderFault).bump .orderFaults) := by
  cases h : s.orders.interp.order <;> simp [faultOrder, h]

/-- The program counter moves and the rest of the word is done, or the order faults with BAD_ADDRESS (R160). -/
theorem moveTo_cases (a : Nat) (f : State → State) :
    (∃ h : a < 256, moveTo a f s = f (s.updInterp fun i => { i with pc := ⟨a, h⟩ })) ∨
    (256 ≤ a ∧ moveTo a f s = faultOrder s .badAddress) := by
  by_cases h : a < 256
  · exact .inl ⟨h, by simp [moveTo, h]⟩
  · exact .inr ⟨by omega, by simp [moveTo, h]⟩

/-- A word row executes the word at the program counter, or does nothing (R160). -/
theorem wordRow_cases (codes : Nat → Bool) (effect : ProgramWord → State → State) :
    wordRow codes effect s = s ∨
    (s.executes = true ∧ codes s.word.code = true ∧ wordRow codes effect s = effect s.word s) := by
  cases h : s.executes <;> cases h2 : codes s.word.code <;> simp [wordRow, h, h2]

/-! ## Bays, bundles and labels -/

/-- A bay opens a bundle for the oldest entry, or no entry with a defined recipe waits (R126). -/
theorem openBundle_cases (k : BayId) :
    openBundle s k = s ∨
    (∃ e rest copy, s.orders.queue = e :: rest ∧ s.orders.recipes[e.recipe] = some copy) := by
  cases hq : s.orders.queue with
  | nil => exact .inl (by simp [openBundle, hq])
  | cons e rest =>
    cases hr : s.orders.recipes[e.recipe] with
    | none => exact .inl (by simp [openBundle, hq, hr])
    | some copy => exact .inr ⟨e, rest, copy, rfl, hr⟩

/-- An entry that waits goes to the lowest-numbered EMPTY bay, or there is none (R126). -/
theorem offerEntry_cases :
    (s.firstEmptyBay = none ∧ offerEntry s = s) ∨
    (∃ k, s.firstEmptyBay = some k ∧ offerEntry s = openBundle s k) := by
  cases h : s.firstEmptyBay <;> simp [offerEntry, h]

/-- The completion test leaves the bay, settles its bundle, completes it short or closes it empty (Table 7-4). -/
theorem completionTest_cases (k : BayId) (test : Bool) :
    completionTest s k test = s ∨
    (∃ b, (s.bay k).state = .filling ∧ (s.bay k).bundle = some b ∧ b.committed = 0 ∧
      ((b.total = b.copy.target ∧ completionTest s k test = startSettle s k) ∨
       (b.total ≠ b.copy.target ∧ b.closing = true ∧ 0 < b.total ∧
         completionTest s k test =
           startSettle ((s.updBundle k fun b => { b with short := true }).bump .bundlesShort) k) ∨
       (b.total ≠ b.copy.target ∧ b.closing = true ∧ b.total = 0 ∧
         completionTest s k test = closeEmpty s k b.order test))) := by
  by_cases hs : (s.bay k).state = .filling
  swap
  · exact .inl (by unfold completionTest; split <;> simp_all)
  cases hb : (s.bay k).bundle with
  | none => exact .inl (by simp [completionTest, hs, hb])
  | some b =>
    by_cases hc : 0 < b.committed
    · exact .inl (by simp [completionTest, hs, hb, hc])
    · have h0 : b.committed = 0 := by omega
      by_cases ht : b.total = b.copy.target
      · exact .inr ⟨b, hs, rfl, h0, .inl ⟨ht, by simp [completionTest, hs, hb, h0, ht]⟩⟩
      · cases hcl : b.closing with
        | false => exact .inl (by simp [completionTest, hs, hb, h0, ht, hcl])
        | true =>
          by_cases hp : 0 < b.total
          · exact .inr ⟨b, hs, rfl, h0, .inr (.inl ⟨ht, hcl, hp, by simp [completionTest, hs, hb, h0, ht, hcl, hp]⟩)⟩
          · exact .inr ⟨b, hs, rfl, h0,
              .inr (.inr ⟨ht, hcl, by omega, by simp [completionTest, hs, hb, h0, ht, hcl, hp]⟩)⟩

/-- A bay without a pending drop resolves nothing (R131). -/
theorem resolveDrop_none (k : BayId) (c : Bool) (h : (s.bay k).pendingDrop = none) : resolveDrop s k c = s := by
  simp [resolveDrop, h]

/-- The arbiter takes the bay at the front of the FIFO, or stays (R137). -/
theorem arbitrate_cases : arbitrate s = s ∨ (strapDue s = true ∧ arbitrate s = strapFront s) := by
  by_cases h : strapDue s = true <;> simp [arbitrate, h]

/-- The label-wait FIFO is served, or it is empty, or the table is full (R142, R184). -/
theorem serveLabelWait_cases :
    serveLabelWait s = s ∨
    (∃ k rest, s.labelWait = k :: rest ∧ s.labelRoom = true ∧
      serveLabelWait s = labelAndDischarge { s with labelWait := rest } k) := by
  cases hq : s.labelWait with
  | nil => exact .inl (by simp [serveLabelWait, hq])
  | cons k rest =>
    cases hr : s.labelRoom with
    | false => exact .inl (by simp [serveLabelWait, hq, hr])
    | true => exact .inr ⟨k, rest, rfl, rfl, by simp [serveLabelWait, hq, hr]⟩

/-! ## Position rows and replies -/

/-- A row that names a position event takes it at P, takes the next count, or does nothing (R20). -/
theorem positionRow_cases (due : State → Bool) (event : State → State) :
    (due s = true ∧ positionRow due event s = event s) ∨
    (due s = false ∧ due (advanceP s) = true ∧ positionRow due event s = encoderCount s) ∨
    (due s = false ∧ due (advanceP s) = false ∧ positionRow due event s = s) := by
  cases h : due s <;> cases h2 : due (advanceP s) <;> simp [positionRow, h, h2]

/-- A reply is answered OK after its effect, or refused with nothing changed but the answer (R194). -/
theorem respond_cases (c : Byte) (r : Reply) :
    (∃ t p, r = .ok (t, p) ∧ respond c s r = answer c .ok p t) ∨
    (∃ e, r = .error e ∧ respond c s r = answer c e [] s) := by
  cases r with
  | ok q => exact .inl ⟨q.1, q.2, rfl, rfl⟩
  | error e => exact .inr ⟨e, rfl, rfl⟩

end Sys2Proof.Machine
end

