-- ==== Sys2Proof/Tests/Slice0.lean ====
section
/-! SUPPORT. Tests: the well-formedness checks on ill-formed terms, the spec's worked sequences on small states, and for
each statement a state and operands that meet its hypotheses. -/

namespace Sys2Proof.Tests

open Sys2Proof Sys2Proof.Machine Sys2Proof.Claims

/-! ## Well-formedness: each check refuses an ill-formed term -/

theorem test_long_payload_refused : (Instr.getStatus (List.replicate 601 0#8)).wellFormed = false := by
  decide +kernel
theorem test_template_form_refused : (Instr.setTemplate [1#8, 0x30#8]).wellFormed = false := by decide
theorem test_mill_id_form_refused : (Instr.setMillId [0#8, 0x30#8]).wellFormed = false := by decide
theorem test_named_code_refused : (Instr.unknownRequest 0x70#8).wellFormed = false := by decide
theorem test_report_length_refused : (Instr.reportReceived (List.replicate 10 0#8)).wellFormed = false := by decide
theorem test_bay_nine_refused : (Instr.strapComplete 9).wellFormed = false := by decide
theorem test_well_formed_rows : ∀ i ∈ [Instr.getStatus [], .setTemplate [0#8, 0#8, 0x41#8], .setMillId [1#8], .lugTick,
    .unknownRequest 0x75#8, .reportReceived (List.replicate 9 0#8), .strapComplete 8], i.wellFormed = true := by decide

/-! ## Small states -/

/-- The line RUNNING and the moulder RUNNING run 7 of species 12, profile 5. -/
def lineOn : State :=
  { State.reset with
    link := { State.reset.link with line := .running }
    moulder := { State.reset.moulder with state := .running, current := { number := 7, species := 12, profile := 5 } } }

/-- A LINEAL record of run 7. -/
def lineal (tag head lm : Nat) : Strip :=
  { tag := tag, state := .lineal, head := BitVec.ofNat 32 head, lm := some lm, size := .normal
    run := { number := 7, species := 12, profile := 5 }, stamp := some { derate := 0, cap := .g1 }, serial := none
    doubled := false, report := none, decision := none, override := none, lateReport := false, dropPending := false }

/-- A record on lug n. -/
def loaded (tag : Nat) (n : Serial) (lm : Nat) : Strip := { lineal tag 0 lm with state := .loaded, serial := some n }

/-- A chosen option. -/
def choice : Choice := { grade := .g3, headStep := 0, tailStep := 3, lf := 876, band := 8, value := 10932480 }

/-- An OVERFLOW decision with the chosen option. -/
def overflow : Decision := { disposition := .overflow, cause := some .noBay, choice := some choice, dest := none }

/-- A recipe of species 12, profile 5 for two strips of G3. -/
def recipe : Recipe :=
  { species := 12, profile := 5, width := 90, grades := 0x4#4, target := 2, quotas := Vector.replicate 12 2, template := 1 }

/-- A bundle of order 41. -/
def bundle : Bundle := newBundle 2051 41 5 recipe 1

/-- An order record. -/
def order (id : Nat) (st : OrderState) : Order := { newOrder id 10 with state := st }

/-- A state with one bay's record replaced. -/
def withBay (s : State) (k : BayId) (b : Bay) : State := { s with bays := s.bays.set k b }

/-- Bay 3 FILLING. -/
def filling (b : Bundle) : Bay := { Bay.start with state := .filling, bundle := some b }

/-- Bay 3 in a state, with the bundle. -/
def bayIn (st : BayState) : Bay := { Bay.start with state := st, bundle := some bundle }

/-! ## Worked sequences of the spec -/

/-- 3.11: the check value that this code (CRC-16, 0x1021, initial 0xFFFF) is known to give for "123456789". -/
theorem test_check_code : checkCode [0x31#8, 0x32#8, 0x33#8, 0x34#8, 0x35#8, 0x36#8, 0x37#8, 0x38#8, 0x39#8] = 0x29B1#16 := by
  decide +kernel

/-- Strip 212 in Table 2-3, its tail unblocked at 101824 and P at `p`. -/
def eye212 (p : Nat) : State :=
  { lineOn with
    strips := [{ lineal 212 100000 0 with state := .entering, lm := none }]
    lineal := { lineOn.lineal with
      p := BitVec.ofNat 32 p, queue := [212], tagCounter := 213
      passage := some { phase := .clearing, tag := some 212, h := 100000, u := some 101824, long := false } } }

/-- What exec leaves of one thing. -/
def after {α : Type} (c : Instr) (s : State) (f : State → α) : Option α :=
  match exec c s with
  | .next t => some (f t)
  | .fault _ => none
  | .refused _ => none

/-- Table 2-3: the count that reaches u + 20 confirms the tail; 1824 blocked counts are 912 mm. -/
theorem test_tail_confirmed : after .encoderCount (eye212 101843) (fun t => (t.lineal.passage, t.strips.map (·.lm))) =
    some (none, [some 912]) := by decide

/-- Table 2-3: a block 12 counts after the unblock is a flicker. -/
theorem test_flicker : after .infeedEyeBlock (eye212 101836) (fun t => t.lineal.passage.map (·.phase)) =
    some (some .blocked) := by decide

/-- Table 2-4: the transfer expectation of strip 212. -/
theorem test_transfer_target : lineOn.transferTarget (lineal 212 100000 912) = 113824#32 := by decide

/-- Table 3-10. -/
def scanned : State :=
  { lineOn with
    strips := [{ lineal 505 280000 500 with state := .decided }, lineal 520 300000 640, lineal 521 301320 410,
      lineal 522 302200 415]
    matcher := { lineOn.matcher with matching := true } }

/-- A report at the front of the buffer. -/
def reporting (head length : Nat) : State :=
  { scanned with matcher := { scanned.matcher with
    buffer := [{ head := BitVec.ofNat 32 head, length := length, moisture := 84, entries := [] }] } }

/-- Table 3-11, report α goes to strip 520. -/
theorem test_report_matched : after .matchCompletion (reporting 309012 642)
    (fun t => t.strips.map fun r => r.report.map (·.moisture)) = some [none, some 84, none, none] := by decide

/-- Table 3-11, report δ fits strip 505 alone, which was decided: late. -/
theorem test_report_late : after .matchCompletion (reporting 289010 499)
    (fun t => (t.strips.map (·.lateReport), t.isPending .reportLate)) = some ([true, false, false, false], true) := by decide

/-- Table 4-8: the clear at 422310 finds the list full, and strip 642 is lost. -/
theorem test_overload : after .transferClear
    { lineOn with
      strips := [lineal 641 409500 0, lineal 642 410300 0, lineal 643 413000 0]
      lineal := { lineOn.lineal with p := 422310, queue := [641, 642, 643] }
      chain := { lineOn.chain with load := [.strip 641, .unknown], lastClear := some 421530 } }
    (fun t => (t.strips.map (·.tag), t.count .lostOverload, t.count .transferOverload, t.isPending .stripLost)) =
    some ([641, 643], 1, 1, true) := by decide

/-- The four-option case of 5.9 at tick 12004. -/
def fourOptions : State :=
  withBay { lineOn with
    chain := { lineOn.chain with serial := 12004 }
    headSide := { Head.start with state := .ready, reference := some { step := 2, serial := 11998 } }
    tailSide := { Head.start with state := .ready, reference := some { step := 1, serial := 11998 } } } 2 (filling bundle)

/-- The grading inputs of strip 733 (Table 5-8). -/
def strip733 : Grading :=
  { lm := 912, derate := 0, cap := .g1, forced := none, species := 12, profile := 5
    defects := [{ cls := .darkKnot, face := .top, x := 40, extent := 18, size := 14 },
      { cls := .soundKnot, face := .top, x := 420, extent := 22, size := 20 },
      { cls := .split, face := .top, x := 880, extent := 32, size := 3 },
      { cls := .stain, face := .edge, x := 600, extent := 60, size := 30 }] }

/-- Table 5-9: grade and value of the options A, B, C, D. -/
theorem test_four_options : [(0, 0), (0, 3), (6, 3), (6, 0)].map (fun o =>
      let r := fourOptions.rate strip733 { headStep := o.1, tailStep := o.2 }
      (r.grade, r.value)) =
    [(some .g4, 5218560), (some .g3, 10932480), (some .g2, 9139200), (some .g3, 10558080)] := by decide

set_option maxRecDepth 10000 in
/-- 5.9: option B ranks first. -/
theorem test_option_b_first : (fourOptions.ranking strip733 12000).map (·.option) = some { headStep := 0, tailStep := 3 } := by
  decide +kernel

/-- Table 5-4: reachable steps. -/
theorem test_reach : [(2, 2, 2), (1, 2, 2), (0, 3, 2), (5, 1, 1), (0, 0, 7)].map (fun q : Nat × Nat × Nat =>
      allSteps.filter ({ Head.start with state := .ready, reference := some { step := q.1, serial := 0 } }.reaches q.2.2
        (BitVec.ofNat 32 q.2.1))) =
    [[0, 1, 2, 3, 4, 5, 6], [0, 1, 2, 3, 4, 5], [0, 1, 2, 3, 4, 5, 6], [4, 5, 6], [0]] := by decide

/-- Table 6-9: W = 3, A = 5 at tick 300. -/
def airWindow (at302 : Nat) : State :=
  let put := fun (s : State) (t n : Nat) => s.planStarts (BitVec.ofNat 32 t) n
  let s := { State.reset with
    chain := { State.reset.chain with serial := 300 }, limits := { State.reset.limits with window := 3, air := 5 } }
  put (put (put (put s 298 2) 300 2) 301 1) 302 at302

/-- 6.6: two starts at 301 are refused, and after bay 1's fault two at 302 are granted. -/
theorem test_air_window : (airWindow 1).airFits 301 2 = false ∧ (airWindow 1).airFits 302 2 = false ∧
    (airWindow 0).airFits 302 2 = true := by decide

/-- Bundle 3017 (Table 9-7). -/
def bundle3017 : Bundle :=
  { newBundle 3017 41 5 recipe 6 with
    deposited := 3, unverified := 1, length := 3553, uncertain := true, gradeCounts := #v[0, 2, 2, 0]
    bands := ((Vector.replicate 12 { committed := 0, deposited := 0, unverified := 0 }).set 6
      { committed := 0, deposited := 2, unverified := 0 }).set 7 { committed := 0, deposited := 1, unverified := 1 } }

/-- The bytes of a text. -/
def bytesOf (t : List Char) : List Byte := t.map fun c => BitVec.ofNat 8 c.toNat

/-- The mill id "WB07". -/
def wb07 : List Byte := bytesOf ['W', 'B', '0', '7']

/-- Table 9-9: the fields of bundle 3017. -/
theorem test_label_fields : [0x80#8, 0x81#8, 0x82#8, 0x83#8, 0x84#8, 0x85#8, 0x86#8, 0x87#8].map (fieldText bundle3017 wb07) =
    [['0', '0', '3', '0', '1', '7'], ['0', '0', '0', '4', '1'], ['0', '5'], ['1', '2'], ['0', '5'], ['N'], ['0', '0', '4'],
      ['0', '0', '3', '.', '5', '5']].map bytesOf := by decide

/-- Table 9-9: area, length mix, flags, mill id, sequence. -/
theorem test_label_more_fields : [0x88#8, 0x89#8, 0x8A#8, 0x8C#8, 0x8D#8].map (fieldText bundle3017 wb07) =
    [['0', '0', '0', '.', '3', '2', '0'], ['8', ':', '2', ' ', '9', ':', '2'], ['U'], ['W', 'B', '0', '7'],
      ['0', '0', '6']].map bytesOf := by decide

/-- 9.5, the truncated label: sixty serials and the check code are cut to 316 bytes and 4 digits. -/
theorem test_truncated_label :
    let r := labelOf 2 bundle3017 wb07 (List.replicate 60 0x80#8 ++ [0x8B#8])
    r.text.length = 320 ∧ r.truncated = true := by decide +kernel

/-- Order 41's interpreter (Table 8-12) at an address, with its program and n entries of order 40 in the queue. -/
def order41 (pc : Fin 256) (i : Interpreter) (n : Nat) : State :=
  { lineOn with orders := { lineOn.orders with
    recipes := lineOn.orders.recipes.set 5 (some recipe)
    table := [order 40 .emitted, order 41 .active]
    queue := List.replicate n { order := 40, recipe := 5 }
    program := (((lineOn.orders.program.set 10 { code := 2, a := 0, b := 2 }).set 11 { code := 1, a := 5, b := 2 }).set 12
      { code := 5, a := 0, b := 20 }).set 13 { code := 3, a := 0, b := 0 }
    interp := { i with state := .running, order := some 41, pc := pc } } }

/-- Table 8-12: BUNDLE 5, 2 on a queue of 15 emits one entry and waits at the word. -/
theorem test_bundle_waits : after .bundleWord (order41 11 { Interpreter.start with spin := 2 } 15)
    (fun t => (t.orders.interp.state, t.orders.interp.pc, t.orders.interp.remainder, t.orders.queue.length)) =
    some (.queueWait, 11, 1, 16) := by decide

/-- Table 8-12: ENDREPEAT takes the count left from 2 to 1 and goes back to 11. -/
theorem test_end_repeat : after .endRepeatWord
    (order41 13 { Interpreter.start with repeats := [{ body := 11, left := some 2 }] } 15)
    (fun t => (t.orders.interp.pc, t.orders.interp.repeats, t.orders.interp.spin)) =
    some (11, [{ body := 11, left := some 1 }], 1) := by decide

/-- Table 8-15: the fifth REPEAT_ALWAYS finds four frames and faults the order with REPEAT_DEPTH. -/
theorem test_repeat_depth :
    let s := order41 10 { Interpreter.start with repeats := List.replicate 4 { body := 11, left := none } } 0
    after .repeatAlwaysWord { s with orders := { s.orders with program := s.orders.program.set 10 { code := 4, a := 0, b := 0 } } }
      (fun t => ((t.order? 41).bind (·.faultCode), t.orders.interp.state, t.orders.interp.pc)) =
    some (some .repeatDepth, .faulted, 10) := by decide


/-! ## Witnesses: states and operands that meet the hypotheses of the statements

A theorem `witness_X` belongs to `Obligations.X`; its conjuncts follow that statement's clauses. -/

theorem witness_ResetPinStopsThePart :
    { lineOn with resetPin := true }.resetPin = true ∧ Instr.lugTick ≠ .powerOn ∧ Instr.lugTick ≠ .resetPin ∧
      Instr.lugTick ≠ .resetPinAsserted := by decide

/-- Every fault input active. -/
def faulty : State :=
  { lineOn with inputs := { lineOn.inputs with
    faultHead := true, faultTail := true, bayFault := Vector.replicate 8 true } }

theorem witness_ResetCommandsLeaveReset :
    (lineOn.inputs.faultHead = false ∧ lineOn.inputs.faultTail = false ∧ (∀ k : BayId, lineOn.inputs.bayFault[k] = false) ∧
      lineOn.resetPin = false ∧ lineOn.supplyRisen = false ∧ { lineOn with supplyRisen := true }.supplyRisen = true) ∧
    (faulty.resetPin = false ∧ (exec .powerOn faulty = .next (powerOn faulty)) ∧ faulty.inputs.faultHead = true ∧
      faulty.inputs.faultTail = true ∧ ∀ k : BayId, faulty.inputs.bayFault[k] = true) ∧
    ({ faulty with resetPin := true }.resetPin = true ∧ Instr.resetPin ∈ [Instr.powerOn, .resetPin] ∧
      (Instr.resetPin = .powerOn → { faulty with resetPin := true }.resetPin = false)) :=
  ⟨by decide, ⟨by decide, rfl, by decide⟩, by decide, by decide, fun h => by cases h⟩

/-- The receiver in a state. -/
def receiving (r : ReceiverState) : State := { lineOn with link := { lineOn.link with receiver := r } }

/-- A frame is being received, with its timer. -/
def frameRunning (time : Nat) : State :=
  { lineOn with link := { lineOn.link with receiver := .receiving, frameTimer := some time } }

/-- Every timer runs out with the next millisecond: both frame timers, the watchdog, the strap timer of bay 4 and the settle
timers of the given bays. -/
def expiring (settling : List BayId) : State :=
  { frameRunning 4608 with
    link := { (frameRunning 4608).link with watchdog := some 1 }
    matcher := { lineOn.matcher with receiving := true, frameTimer := some 1 }
    strapper := { state := .busy, current := some 3, fifo := [], timer := some 1 }
    bays := Vector.ofFn fun k => if k ∈ settling then { bayIn .settling with settleTimer := some 1 }
      else if k = 3 then bayIn .strapping else Bay.start }

theorem witness_StepRunsFrontCommand :
    { lineOn with pending := [.lugTick] }.pending = .lugTick :: [] ∧
    (State.reset.pending = [] ∧ State.reset.resetPin = false ∧ State.reset.link.frameTimer = none ∧
      State.reset.link.watchdog = none ∧ State.reset.matcher.frameTimer = none ∧ State.reset.strapper.timer = none ∧
      ∀ k : BayId, (State.reset.bay k).settleTimer = none) ∧
    ({ lineOn with resetPin := true }.pending = [] ∧ { lineOn with resetPin := true }.resetPin = true) ∧
    (let s := expiring [0, 7]
     let t := aged s
     s.pending = [] ∧ s.resetPin = false ∧ t.link.frameTimer = some 0 ∧ t.link.watchdog = some 0 ∧
      t.matcher.frameTimer = some 0 ∧ t.strapper.timer = some 0 ∧
      (allBays.filter fun k => (t.bay k).settleTimer = some 0) = [0, 7]) := by decide

/-- R192, R203, R41, R139, R136: what the millisecond in which the timers run out leaves of the frames, the hold, the
strapper with its bay, and a settling bay, which waits for the strapper in FAULT. -/
theorem test_timers_expire : (match step (expiring [0]) with
    | .next t => some ((t.link.receiver, t.link.hold, t.matcher.receiving), t.strapper.state, t.strapper.fifo,
        (t.bay 3).state, (t.bay 0).state)
    | .fault _ => none
    | .refused _ => none) = some ((.hunt, true, false), .fault, [0], .fault, .waitStrap) := by decide

theorem witness_LinkReception :
    lineOn.resetPin = false ∧ lineOn.link.receiver = .hunt ∧ (receiving .receiving).link.receiver ≠ .hunt ∧
    (receiving .receiving).link.receiver = .receiving ∧ (receiving .answering).link.receiver = .answering ∧
    isRequestCode 0x00#8 = false ∧ isRequestCode 0x75#8 = false ∧ isRequestCode 0xFF#8 = false ∧
    ∀ time ∈ [4608, 4609], let s := frameRunning time
      s.pending = [] ∧ s.resetPin = false ∧ s.link.receiver = .receiving ∧ s.link.frameTimer = some time ∧
      s.link.watchdog = none ∧ s.matcher.frameTimer = none ∧ s.strapper.timer = none ∧
      ∀ k : BayId, (s.bay k).settleTimer = none := by decide

/-- R192: the longest frame, 606 bytes, is due about 18.2 ms after its start byte, at 460.8 bits a millisecond. -/
theorem test_longest_frame_deadline : [none, some 0, some 600].map (fun n => after (.linkFrameBegin n) lineOn (·.link.frameTimer)) =
    [some (some 23040), some (some 23640), some (some 83640)] := by decide

/-- R192: the frame deadline discards the frame in the millisecond in which the frame timer runs out. -/
theorem test_idle_deadline : [4608, 4609].map (fun time => match step (frameRunning time) with
      | .next t => some (t.link.receiver, t.link.frameTimer)
      | .fault _ => none
      | .refused _ => none) = [some (.hunt, none), some (.receiving, some 1)] := by decide

/-- LINK_HOLD set, with an interpreter state and a run list. -/
def held (i : InterpreterState) (run : List Nat) : State :=
  { lineOn with
    link := { lineOn.link with hold := true }
    orders := { lineOn.orders with
      interp := { lineOn.orders.interp with state := i }, runList := run, table := run.map (order · .loaded) } }

theorem witness_WatchdogAndLinkHold :
    lineOn.link.hold = false ∧ (held .paused []).link.hold = true ∧ (held .paused []).link.line = .running ∧
    (held .paused []).orders.interp.state = .paused ∧ (held .idle [1, 2]).link.hold = true ∧
    (held .idle [1, 2]).link.line = .running ∧ (held .idle [1, 2]).orders.interp.state = .idle ∧
    (held .idle [1, 2]).orders.runList = 1 :: [2] ∧
    { lineOn with link := { lineOn.link with watchdog := some 1 } }.link.watchdog = some 1 := by decide

theorem witness_EveryValidRequestIsAnswered :
    (Instr.getStatus (List.replicate 600 0#8)).request? = some (0x70#8, List.replicate 600 0#8) ∧
    (List.replicate 600 0#8).length ≤ 600 ∧ lineOn.resetPin = false ∧ lineOn.link.receiver ≠ .answering ∧
    (receiving .answering).resetPin = false ∧ (receiving .answering).link.receiver = .answering :=
  ⟨rfl, Nat.le_of_eq List.length_replicate, by decide, by decide, by decide, by decide⟩

theorem witness_RefusedRequestChangesNothing :
    (Instr.startLine []).request? = some (0x10#8, []) ∧ Receives State.reset [] ∧
    ∃ t, exec (.startLine []) State.reset = .next t ∧
      t.link.response = some { code := 0x10#8, status := .notConfigured, payload := [] } ∧ Status.notConfigured ≠ .ok :=
  ⟨rfl, ⟨by decide, by decide, by decide⟩, _, rfl, by decide, by decide⟩

/-- The least geometry R196 allows at its lower bounds. -/
def leastGeometry : Geometry :=
  { dm := 2900, ds := 3000, dt := 3901, v := 1, d := 2, e := 3, bays := #v[4, 5, 6, 7, 8, 9, 10, 11], x := 12 }

theorem default_bounds : GeometryBounds Geometry.default := by constructor <;> decide

theorem witness_SetGeometryAccepted :
    (Receives State.reset (geometryBytes leastGeometry) ∧ GeometryBounds leastGeometry) ∧
    State.reset.link.line ≠ .running ∧ State.reset.strips = [] ∧
    (∃ s : State, s.link.line = .stopped ∧ s.headSide.state = .ready ∧ s.tailSide.state = .fault) :=
  ⟨⟨⟨by decide, by decide, by decide⟩, by constructor <;> decide⟩, by decide, by decide,
    { State.reset with
      link := { State.reset.link with line := .stopped }
      headSide := { Head.start with state := .ready }
      tailSide := { Head.start with state := .fault } }, by decide⟩

theorem witness_SetDecisionTables :
    let g : GradeEntry := { enabled := true, dmax := 65535, forbidden := 0xFF#8, price := 65535 }
    let c : ClassPoints := { s1 := 253, s2 := 254, s3 := 255, p0 := 0, p1 := 255, p2 := 255, p3 := 255, endSensitive := true }
    Receives lineOn (gradeBytes g ++ gradeBytes g ++ gradeBytes g ++ gradeBytes { g with price := 1 }) ∧
    (∀ x ∈ [g, g, g, { g with price := 1 }], x.dmax ≤ 65535 ∧ 1 ≤ x.price ∧ x.price ≤ 65535) ∧
    Receives lineOn ((List.replicate 8 c).flatMap pointsBytes) ∧ PointsBounds c := by
  simp only [Receives, PointsBounds]; decide

theorem witness_SetSpindleLimitsReforms :
    Receives lineOn (spindleBytes (fun _ => 1) (fun _ => 4294967295) 15 0 .g1 .g4) ∧
    (∀ i : SpindleId, 1 ≤ (fun _ => 1 : SpindleId → Nat) i ∧ (fun _ => 1 : SpindleId → Nat) i < 4294967295) ∧
    { lineOn with moulder := { lineOn.moulder with top := { Spindle.fresh with wear := 1 } } }.moulder.top.wear = 1 :=
  ⟨⟨by decide, by decide, by decide⟩, fun _ => by show 1 ≤ 1 ∧ 1 < 4294967295; decide, by decide⟩

/-- The limits at their lower bounds, and at their upper bounds. -/
def lowLimits : Limits :=
  { moisture := 50, speed := 1, lpark := 8, boost := 0, zone := 0, tp := 0, tl := 0, tt := 1, window := 1, air := 1
    strapTimeout := 1000, watchdog := 0 }

def highLimits : Limits :=
  { moisture := 300, speed := 7, lpark := 63, boost := 15, zone := 200, tp := 1000, tl := 100, tt := 1000, window := 16
    air := 32, strapTimeout := 60000, watchdog := 10000 }

/-- A plan entry of a serial. -/
def plunge (n : Serial) (step : Nat) : PlanEntry := { serial := n, step := step, plunge := true }

theorem witness_SetLimitsReplacesAll :
    (Receives lineOn (limitsBytes lowLimits) ∧ LimitsRanges lowLimits) ∧
    (Receives lineOn (limitsBytes highLimits) ∧ LimitsRanges highLimits) ∧
    (∃ s : State, lowLimits.speed < s.limits.speed ∧ s.headSide.plan ≠ []) ∧
    (lineOn.limits.speed ≤ highLimits.speed ∧ lineOn.limits.air ≤ highLimits.air) ∧
    (lineOn.headSide.plan = [] ∧ lineOn.tailSide.plan = [] ∧
      ∀ i, i + lowLimits.window ≤ 64 → lineOn.windowStarts (lineOn.serialAt 15 + BitVec.ofNat 32 i) lowLimits.window
        ≤ lowLimits.air) ∧
    (lowLimits.air < (airWindow 2).limits.air ∧ 63 + lowLimits.window ≤ 64 ∧
      lowLimits.air < (airWindow 2).windowStarts ((airWindow 2).serialAt 15 + BitVec.ofNat 32 17) lowLimits.window) :=
  ⟨⟨⟨by decide, by decide, by decide⟩, by constructor <;> decide⟩,
    ⟨⟨by decide, by decide, by decide⟩, by constructor <;> decide⟩,
    ⟨{ lineOn with headSide := { Head.start with plan := [plunge 1 0] } }, by decide⟩, by decide,
    ⟨by decide, by decide, fun i h => by
      have : ∀ j : Fin 64, lineOn.windowStarts (lineOn.serialAt 15 + BitVec.ofNat 32 j.val) lowLimits.window ≤ lowLimits.air := by
        decide +kernel
      simp only [lowLimits] at h
      exact this ⟨i, by omega⟩⟩,
    by decide⟩

/-- Template 1 defined. -/
def templated : State :=
  { lineOn with labels := { lineOn.labels with templates := lineOn.labels.templates.set 1 (some [0x80#8, 0x8B#8]) } }

theorem witness_SetRecipesBaysAndTemplates :
    (Receives lineOn (recipePayload 31 recipe) ∧ RecipeRanges recipe ∧ (lineOn.labels.templates[recipe.template]) = none ∧
      (templated.labels.templates[recipe.template]).isSome = true ∧ Receives templated (recipePayload 0 recipe)) ∧
    (Receives lineOn (toBytes 1 (bayNum 7) ++ toBytes 2 50) ∧ Receives lineOn (toBytes 1 (bayNum 0) ++ toBytes 2 2000)) ∧
    (Receives lineOn (0#8 :: BitVec.ofNat 8 3 :: List.replicate 192 0x7E#8) ∧
      ∀ x ∈ List.replicate 192 0x7E#8, AllowedByte x) ∧
    (Receives lineOn (1#8 :: List.replicate 4 0x20#8)) :=
  ⟨⟨⟨by decide, by decide, by decide⟩, by constructor <;> decide, by decide, by decide, by decide, by decide, by decide⟩,
    ⟨⟨by decide, by decide, by decide⟩, by decide, by decide, by decide⟩,
    ⟨⟨by decide, by decide, by decide +kernel⟩, fun x h => by
      rw [List.eq_of_mem_replicate h]; exact Or.inl ⟨by decide, by decide⟩⟩,
    by decide, by decide, by decide⟩

/-- The line STOPPED, with LINK_HOLD clear, an interpreter state and a run list. -/
def stopped (i : InterpreterState) (run : List Nat) : State := { held i run with link := { lineOn.link with line := .stopped } }

theorem witness_LineAndInfeedRequests :
    (Receives (held .running []) [] ∧ (held .running []).link.line = .running ∧ (held .running []).link.hold = true) ∧
    (Receives State.reset [] ∧ State.reset.link.line = .unconfigured) ∧
    (∀ i : InterpreterState, ∀ run ∈ [[], [1, 2]], Receives (stopped i run) [] ∧ (stopped i run).link.line = .stopped ∧
      (found (stopped i run)).orders.interp.state = i ∧ (found (stopped i run)).orders.runList = run) ∧
    (found (stopped .idle [1, 2])).order? 1 = some (order 1 .loaded) :=
  ⟨⟨⟨by decide, by decide, by decide⟩, by decide⟩, ⟨⟨by decide, by decide, by decide⟩, by decide⟩,
    fun i run _ => ⟨⟨rfl, by show ReceiverState.hunt ≠ .answering; decide, by decide⟩, rfl, rfl, rfl⟩, by decide⟩

/-- R195, R159: START LINE gives the front order of the run list to an IDLE interpreter. -/
theorem test_start_line_takes_up : after (.startLine []) (stopped .idle [1, 2]) (fun t => (t.link.line, t.orders.runList,
    t.orders.interp.state, t.orders.interp.order, (t.order? 1).map (·.state))) =
    some (.running, [2], .running, some 1, some .active) := by decide

/-- Strip 212 LINEAL, past its exit, with the order table holding order 41. -/
def oneStrip : State :=
  { lineOn with
    strips := [lineal 212 100000 912]
    lineal := { lineOn.lineal with p := 105900, queue := [212] }
    orders := { lineOn.orders with table := [order 41 .active] } }

theorem witness_ReadsChangeNothing :
    Receives oneStrip (toBytes 2 212) ∧ oneStrip.strip? 212 = some (lineal 212 100000 912) ∧ Receives oneStrip [0#8] ∧
    0 < oneStrip.geometry.x ∧ 45 < oneStrip.geometry.x ∧ Receives oneStrip [] ∧ Receives oneStrip [0#8, 0#8] ∧
    Receives oneStrip (toBytes 2 41) ∧ (found oneStrip).order? 41 = some (order 41 .active) := by
  simp only [Receives]; decide

theorem witness_ResponsePayloadLengths :
    (lineOn.slot (lineOn.serialAt 255)).named.length ≤ 2 ∧ lineOn.chain.load.length ≤ 2 ∧
    lineOn.strapper.fifo.length ≤ 8 ∧ lineOn.labelWait.length ≤ 8 ∧ lineOn.orders.interp.calls.length ≤ 4 ∧
    lineOn.orders.interp.repeats.length ≤ 4 := by decide

theorem witness_NoticesCountersAttnAndGate :
    Receives lineOn [] ∧ Receives lineOn (toBytes 4 (0x1FFFF#17).toNat) ∧
    (Receives lineOn (toBytes 4 (2 ^ 17)) ∧ 2 ^ 17 < 2 ^ 32) ∧ lineOn.resetPin = false := by
  simp only [Receives]; decide

/-! ### The strip table, the infeed and the moulder -/

theorem witness_AmendStripSetsOverride :
    Receives oneStrip (toBytes 2 212 ++ overrideBytes (some .reject)) ∧ oneStrip.strip? 212 = some (lineal 212 100000 912) ∧
    (lineal 212 100000 912).state = .lineal ∧ oneStrip.strip? 65535 = none ∧
    Receives oneStrip (toBytes 2 65535 ++ overrideBytes none) ∧ Receives oneStrip (toBytes 2 0 ++ overrideBytes none) ∧
    (∃ s : State, s.strip? 212 = some { loaded 212 1 912 with state := .decided }) := by
  refine ⟨⟨by decide, by decide, by decide⟩, by decide, by decide, by decide, ⟨by decide, by decide, by decide⟩,
    ⟨by decide, by decide, by decide⟩,
    { lineOn with strips := [{ loaded 212 1 912 with state := .decided }] }, by decide⟩

/-- The moulder DRAINING with a pending run of a non-empty change set. -/
def draining (s : State) : State :=
  { s with moulder := { s.moulder with state := .draining, next := some { species := 63, profile := 15, change := 0xF#4 } } }

/-- Strips 212, expected at 113824, and 213, expected at 112824, in the queue. -/
def twoStrips (p : Nat) : State :=
  { lineOn with
    strips := [lineal 212 100000 912, lineal 213 99000 912]
    lineal := { lineOn.lineal with p := BitVec.ofNat 32 p, queue := [212, 213] } }

theorem witness_PurgeStripOnLinealSection :
    Receives oneStrip (toBytes 2 212) ∧ oneStrip.strip? 212 = some (lineal 212 100000 912) ∧
    (lineal 212 100000 912).serial = none ∧
    (∀ q ∈ oneStrip.strips, q.state = .lineal → passed oneStrip.lineal.p (oneStrip.transferLast q) = false) ∧
    oneStrip.moulder.state ≠ .draining ∧ (draining oneStrip).moulder.state = .draining ∧
    (draining oneStrip).moulder.next = some { species := 63, profile := 15, change := 0xF#4 } ∧
    (∀ x ∈ (draining oneStrip).strips, x.tag ≠ 212 → (draining oneStrip).isOldRun x = false) ∧
    (let s := twoStrips 114100
     s.watched? = some (lineal 212 100000 912) ∧ passed s.lineal.p (s.transferLast (lineal 212 100000 912)) = true ∧
      s.strip? 213 = some (lineal 213 99000 912) ∧ Receives s (toBytes 2 213)) ∧
    (let s := twoStrips 113800
     s.watched? = some (lineal 212 100000 912) ∧ s.lineal.queue = [212, (lineal 213 99000 912).tag] ∧
      s.strip? 213 = some (lineal 213 99000 912) ∧ s.chain.load = [] ∧
      passed s.lineal.p (s.transferLast (lineal 213 99000 912)) = true ∧ s.moulder.state ≠ .draining) := by
  refine ⟨⟨by decide, by decide, by decide⟩, by decide, by decide, by decide, by decide, by decide, by decide, by decide,
    ⟨by decide, by decide, by decide, by decide, by decide, by decide⟩, by decide⟩

/-- R27, R198: a purge of another strip leaves the watched strip, overdue as Tt was lowered, to the next count. -/
theorem test_overdue_watched_survives_purge :
    (after (.purgeStrip (toBytes 2 213)) (twoStrips 114100) fun t => t.strips.map (·.tag)) = some [212] ∧
    (after .encoderCount (twoStrips 114100) fun t => t.strips.map (·.tag)) = some [] := by decide

/-- A SORT decision for bay 3's bundle. -/
def sorted : Decision :=
  { disposition := .sort, cause := none, choice := some choice, dest := some { bay := 2, bundle := 2051 } }

/-- A FILLING bay with a bundle and its drops. -/
def dropsOf (b : Bundle) (planned : List PlannedDrop) (pending : Option PendingDrop) : Bay :=
  { filling b with planned := planned, pendingDrop := pending }

/-- Bay 3 FILLING with two commitments, a planned drop of strip 212 on lug 5 or a pending one. -/
def committed (planned : List PlannedDrop) (pending : Option PendingDrop) : Bay :=
  dropsOf { bundle with committed := 2 } planned pending

/-- A bundle for two strips before a commitment resolves or is released: another is left, or it is the last, below the target
and at it, with the closing flag clear and set (the rows of Table 7-4). -/
def lastOnes : List Bundle :=
  [{ bundle with committed := 2 }, { bundle with committed := 1 }, { bundle with committed := 1, deposited := 1 },
    { bundle with committed := 1, closing := true }, { bundle with committed := 1, deposited := 1, closing := true }]

/-- One strip on lug 5. -/
def onLug (r : Strip) (b : Bay) : State :=
  withBay { lineOn with
    strips := [r]
    chain := { lineOn.chain with
      serial := 8, slots := lineOn.chain.slots.set 5 { kind := .strip, named := [212] } } } 2 b

theorem quiet_of (s : State) (h1 : s.moulder.state ≠ .draining)
    (h2 : ∀ r ∈ s.strips, r.state = .lineal → passed s.lineal.p (s.transferLast r) = false) : Quiet s := ⟨h1, h2⟩

theorem witness_PurgeStripOnChain :
    let a := onLug (loaded 212 5 912) Bay.start
    let away := fun (st : StripState) (d : Decision) => onLug { loaded 212 5 912 with state := st, decision := some d } Bay.start
    let b := fun st x => onLug { loaded 212 5 912 with state := st, decision := some sorted }
      (dropsOf x [{ serial := 5, tag := 212 }] none)
    let c := fun v x => onLug { loaded 212 5 912 with state := .trimmed, decision := some sorted, dropPending := true }
      (dropsOf x [] (some { serial := 5, tag := 212, attached := v }))
    (Receives a (toBytes 2 212) ∧ a.strip? 212 = some (loaded 212 5 912) ∧ a.moulder.state ≠ .draining) ∧
    (∀ st ∈ [StripState.decided, .trimmed], ∀ d ∈ [Disposition.overflow, .reject, .ungraded, .uncut, .faulted],
      let e := { overflow with disposition := d }
      Receives (away st e) (toBytes 2 212) ∧ (away st e).moulder.state ≠ .draining ∧ e.disposition ≠ .sort ∧ e.dest = none ∧
        (away st e).strip? 212 = some { loaded 212 5 912 with state := st, decision := some e }) ∧
    (∀ st x, Receives (b st x) (toBytes 2 212) ∧ (b st x).moulder.state ≠ .draining ∧ GeometryBounds (b st x).geometry ∧
      (b st x).strip? 212 = some { loaded 212 5 912 with state := st, decision := some sorted }) ∧
    (∀ st ∈ [StripState.decided, .trimmed], ∀ x ∈ lastOnes, ((b st x).bay 2).state = .filling ∧
      ((b st x).bay 2).bundle = some x ∧
      ((b st x).bay 2).planned.find? (fun d => d.tag = 212) = some { serial := 5, tag := 212 }) ∧
    (∀ v x, Receives (c v x) (toBytes 2 212) ∧ (c v x).moulder.state ≠ .draining) ∧
    (∀ v, ∀ x ∈ lastOnes, ((c v x).bay 2).pendingDrop = some { serial := 5, tag := 212, attached := v } ∧
      (∀ j : BayId, j ≠ 2 → ((c v x).bay j).pendingDrop = none) ∧ ((c v x).bay 2).bundle = some x) := by
  have hr : ReceiverState.hunt ≠ .answering := by decide
  have hm : MoulderState.running ≠ .draining := by decide
  exact ⟨⟨⟨rfl, hr, by decide⟩, rfl, hm⟩,
    fun st _ d hd => ⟨⟨rfl, hr, by decide⟩, hm, by revert d; decide, rfl, rfl⟩,
    fun st x => ⟨⟨rfl, hr, by decide⟩, hm, default_bounds, rfl⟩, by decide,
    fun v x => ⟨⟨rfl, hr, by decide⟩, hm⟩, by decide⟩

/-- Table 6-8: what the purge frees of the starts planned for a strip on lug 5. -/
theorem test_purge_frees_starts :
    let planned := fun s : State => (s.planStarts (5 + BitVec.ofNat 32 s.geometry.e) 2).planStarts
      (5 + BitVec.ofNat 32 (s.bayOffset 2)) 1
    let left := fun (r : Strip) => after (.purgeStrip (toBytes 2 212))
      (planned (onLug { r with serial := some 5 } (dropsOf { bundle with committed := 2 } [{ serial := 5, tag := 212 }] none)))
      fun t => ((t.calEntry (5 + BitVec.ofNat 32 t.geometry.e)).planned,
        (t.calEntry (5 + BitVec.ofNat 32 (t.bayOffset 2))).planned, (t.bay 2).planned.length)
    [(StripState.decided, sorted), (.trimmed, sorted), (.decided, overflow), (.trimmed, overflow),
      (.decided, { overflow with disposition := .uncut })].map (fun x =>
        left { loaded 212 5 912 with state := x.1, decision := some x.2 }) =
      [some (0, 0, 0), some (2, 0, 0), some (0, 1, 1), some (2, 1, 1), some (2, 1, 1)] := by decide

/-- A release that closes a bundle empty, with no entry waiting and its order known. -/
theorem witness_PurgeStripOnChain_closesEmpty :
    let b : Bundle := { bundle with committed := 1, closing := true }
    (∀ x ∈ lastOnes, ¬ ClosesEmpty (dropsOf x [] none) (without x choice) ↔ x ≠ b) ∧ lineOn.orders.queue = [] ∧
    ∀ st ∈ [OrderState.active, .emitted, .cancelled],
      ({ lineOn with orders := { lineOn.orders with table := [{ order 41 st with opened := 1 }] } }).order? 41 =
        some { order 41 st with opened := 1 } := by
  simp only [ClosesEmpty]; decide

/-- Table 7-4 and R171: the purge of the last strip of a closing bundle closes it empty and completes its EMITTED order. -/
theorem test_purge_closes_empty :
    let s := onLug { loaded 212 5 912 with state := .decided, decision := some sorted }
      (dropsOf { bundle with committed := 1, closing := true } [{ serial := 5, tag := 212 }] none)
    after (.purgeStrip (toBytes 2 212))
      { s with orders := { s.orders with table := [{ order 41 .emitted with opened := 1 }] } }
      (fun t => ((t.bay 2).state, (t.bay 2).bundle, (t.order? 41).map fun o => (o.state, o.closedEmpty))) =
      some (.empty, none, some (.complete, 1)) := by decide

/-- A passage in progress with its head edge at 0 and P at p. -/
def passing (ph : Phase) (p : Nat) : State :=
  { lineOn with lineal := { lineOn.lineal with
    p := BitVec.ofNat 32 p, passage := some { phase := ph, tag := none, h := 0, u := none, long := false } } }

/-- A strip whose moulder exit is at 106000. -/
def atExit (p : Nat) : State :=
  { oneStrip with
    strips := [{ lineal 212 100000 912 with stamp := none }], lineal := { oneStrip.lineal with p := BitVec.ofNat 32 p } }

/-- The last old-run strip, past its exit, whose moulder clear is at 107824, with a pending run of a change set. -/
def cleared (change : BitVec 4) (p : Nat) : State :=
  { oneStrip with
    lineal := { oneStrip.lineal with p := BitVec.ofNat 32 p }
    moulder := { oneStrip.moulder with state := .draining, next := some { species := 63, profile := 15, change := change } } }

theorem witness_EncoderCountAdvancesP :
    lineOn.resetPin = false ∧
    (let c : State := { entered lineOn with lineal := { lineOn.lineal with p := lineOn.lineal.p + 1 } }
     c.tailDue = false ∧ c.longDue = false ∧ c.exitsDue = false ∧ c.clearDue = false ∧ c.overdue? = none) ∧
    lineOn.tailDue = false ∧ lineOn.longDue = false ∧ lineOn.exitsDue = false ∧ lineOn.clearDue = false ∧
    ({ entered (twoStrips 114024) with lineal := { (twoStrips 114024).lineal with p := 114025 } } : State).overdue? =
      some (lineal 212 100000 912) := by decide

/-- The states one count before each of the four position events, and with it due. -/
theorem witness_EncoderCountAdvancesP_due :
    (∀ p ∈ [101843, 101844], (eye212 p).tailDue = (p == 101844)) ∧ (nextCount (eye212 101843)).tailDue = true ∧
    (passing .blocked 2800).longDue = false ∧ (nextCount (passing .blocked 2800)).longDue = true ∧
    (atExit 105999).exitsDue = false ∧ (nextCount (atExit 105999)).exitsDue = true ∧
    (cleared 0xF#4 107823).clearDue = false ∧ (nextCount (cleared 0xF#4 107823)).clearDue = true := by decide

/-- 96 records. -/
def fullTable : State := { lineOn with strips := (List.range 96).map fun i => lineal (i + 1) 0 600 }

theorem witness_InfeedEyePassages :
    (lineOn.resetPin = false ∧ lineOn.lineal.passage = none ∧ lineOn.strips.length < 96 ∧ lineOn.TagsUnique ∧
      ∀ r ∈ lineOn.strips, r.tag ≠ lineOn.lineal.tagCounter) ∧
    (fullTable.resetPin = false ∧ fullTable.lineal.passage = none ∧ fullTable.strips.length = 96) ∧
    ((passing .blocked 2801).lineal.passage.map (·.phase) = some .blocked) ∧
    ((passing .clearing 2800).lineal.passage.map (·.phase) = some .clearing ∧
      ((passing .clearing 2800).lineal.p - 0).toNat < 2801 ∧ 2801 ≤ ((passing .clearing 2801).lineal.p - 0).toNat) :=
  ⟨⟨by decide, by decide, by decide, by constructor <;> decide, by decide⟩, ⟨by decide, by decide, by decide +kernel⟩, by decide,
    by decide⟩

/-- The watched strip at the last count of its window. -/
def overdue : State := { oneStrip with lineal := { oneStrip.lineal with p := 114024 } }

/-- A LONG strip, its head edge at 100000, whose tail is confirmed at 106100, past its moulder exit. -/
def longTail (p : Nat) : State :=
  { lineOn with
    strips := [{ lineal 212 100000 0 with state := .entering, lm := none, size := .long, stamp := none }]
    lineal := { lineOn.lineal with
      p := BitVec.ofNat 32 p, queue := [212], tagCounter := 213
      passage := some { phase := .clearing, tag := some 212, h := 100000, u := some 106080, long := true } } }

/-- Each event is due at P in the first state of a pair, and at P + 1 in the second. -/
theorem witness_LinealPositionEvents :
    (∀ x ∈ [(eye212 101844, entered (eye212 101844)), (eye212 101843, nextCount (eye212 101843))],
      let s := x.1
      s.resetPin = false ∧ x.2.lineal.p = 101824 + 20 ∧ (∀ r ∈ s.strips, x.2.exitDue none r = false) ∧
        (∀ r ∈ s.strips, reached x.2.lineal.p (s.exitTarget r) = false) ∧
        (∀ r ∈ s.strips, passed x.2.lineal.p (r.head + BitVec.ofNat 32 (s.geometry.dt + 2 * 912)
          + BitVec.ofNat 32 s.limits.tt) = false) ∧ x.2.overdue? = none) ∧
    (Quiet (entered (eye212 101844)) ∧ Quiet (nextCount (eye212 101843))) ∧
    (∀ x ∈ [(longTail 106100, entered (longTail 106100)), (longTail 106099, nextCount (longTail 106099))],
      let s := x.1
      s.resetPin = false ∧ x.2.lineal.p = 106080 + 20 ∧ (∀ r ∈ s.strips, x.2.exitDue none r = false) ∧
        (∀ r ∈ s.strips, s.strips.filter (fun y => y.tag = r.tag) = [r] ∧ r.stamp = none ∧
          reached x.2.lineal.p (s.exitTarget r) = true ∧ passed x.2.lineal.p (r.head
            + BitVec.ofNat 32 (s.geometry.dt + 2 * 1401) + BitVec.ofNat 32 s.limits.tt) = false) ∧ x.2.overdue? = none) ∧
    (Quiet (entered (longTail 106100)) ∧ Quiet (nextCount (longTail 106099))) ∧
    (∀ x ∈ [(passing .blocked 2801, entered (passing .blocked 2801)), (passing .blocked 2800, nextCount (passing .blocked 2800))],
      x.1.resetPin = false ∧ 2801 ≤ (x.2.lineal.p - 0).toNat ∧ x.2.overdue? = none ∧ x.2.exitsDue = false ∧
        x.2.clearDue = false) ∧
    (∀ x ∈ [(atExit 106000, entered (atExit 106000)), (atExit 105999, nextCount (atExit 105999))],
      x.1.resetPin = false ∧ x.1.strips.filter (x.2.exitDue none) = [{ lineal 212 100000 912 with stamp := none }] ∧
        x.2.overdue? = none ∧ x.2.tailDue = false ∧ x.2.longDue = false ∧ x.2.clearDue = false) ∧
    (∀ change ∈ [0x0#4, 0xF#4], ∀ x ∈ [(cleared change 107824, entered (cleared change 107824)),
        (cleared change 107823, nextCount (cleared change 107823))],
      x.1.resetPin = false ∧ x.2.clearDue = true ∧ x.1.moulder.state = .draining ∧
        x.1.moulder.next = some { species := 63, profile := 15, change := change } ∧
        (∀ r ∈ x.1.strips, x.2.isOldRun r = false) ∧ x.2.overdue? = none ∧ x.2.tailDue = false ∧ x.2.longDue = false ∧
        x.2.exitsDue = false) ∧
    (overdue.resetPin = false ∧ overdue.lineal.queue = [212] ∧ overdue.chain.load = [] ∧
      passed (overdue.lineal.p + 1) (overdue.transferLast (lineal 212 100000 912)) = true ∧
      overdue.moulder.state ≠ .draining ∧ overdue.lineal.passage = none ∧ ∀ x ∈ overdue.strips, x.stamp ≠ none) :=
  ⟨by decide, ⟨quiet_of _ (by decide) (by decide), quiet_of _ (by decide) (by decide)⟩, by decide,
    ⟨quiet_of _ (by decide) (by decide), quiet_of _ (by decide) (by decide)⟩, by decide, by decide, by decide, by decide⟩

theorem witness_MoulderRuns :
    let q : PendingRun := { species := 63, profile := 15, change := 0xF#4 }
    let s := draining oneStrip
    let idle := { State.reset with moulder := Moulder.start }
    Receives idle (runBytes q) ∧ idle.moulder.state = .idle ∧ oneStrip.moulder.state = .running ∧
    (∃ r ∈ oneStrip.strips, oneStrip.isOldRun r = true) ∧ (∀ r ∈ lineOn.strips, lineOn.isOldRun r = false) ∧
    s.moulder.state = .draining ∧ s.moulder.next = some q ∧ (∃ r ∈ s.strips, s.isOldRun r = true) ∧
    (∀ r ∈ (draining lineOn).strips, (draining lineOn).isOldRun r = false) ∧
    (Receives oneStrip [] ∧ oneStrip.moulder.state ≠ .changeover) ∧
    (Receives oneStrip (toBytes 1 0 ++ toBytes 1 255 ++ toBytes 1 255) ∧
      Receives oneStrip (toBytes 1 63 ++ toBytes 1 15 ++ toBytes 1 16)) ∧
    (∃ t, Receives t [] ∧ t.moulder.next = some q ∧ t.moulder.state = .changeover) := by
  refine ⟨⟨by decide, by decide, by decide⟩, by decide, by decide, by decide, by decide, by decide, by decide, by decide,
    by decide, ⟨⟨by decide, by decide, by decide⟩, by decide⟩,
    ⟨⟨by decide, by decide, by decide⟩, by decide, by decide, by decide⟩,
    { draining oneStrip with moulder := { (draining oneStrip).moulder with state := .changeover } },
    ⟨by decide, by decide, by decide⟩, by decide⟩

/-! ### Reports, the transfer and the chain -/

/-- A station payload with n entries and nothing else. -/
def reportBytes (n : Nat) : List Byte := List.replicate 8 0#8 ++ [BitVec.ofNat 8 n] ++ List.replicate (7 * n) 1#8

theorem witness_StationLinkReception :
    lineOn.resetPin = false ∧ lineOn.matcher.receiving = false ∧
    { lineOn with matcher := { lineOn.matcher with receiving := true } }.matcher.receiving = true ∧
    (fieldAt (reportBytes 32) 8 1 ≤ 32 ∧ (reportBytes 32).length = 9 + 7 * fieldAt (reportBytes 32) 8 1) ∧
    (fieldAt (reportBytes 0) 8 1 ≤ 32 ∧ (reportBytes 0).length = 9 + 7 * fieldAt (reportBytes 0) 8 1) ∧
    32 < fieldAt (reportBytes 33) 8 1 ∧ (reportBytes 2).tail.length ≠ 9 + 7 * fieldAt (reportBytes 2).tail 8 1 := by
  decide +kernel

theorem witness_PassPicksNearestStrip :
    (reporting 309012 642).pass { head := 309012, length := 642, moisture := 84, entries := [] }
      (fun r => r.state == .lineal) = some (lineal 520 300000 640) := by decide

theorem witness_MatchOutcomes :
    let candidate := fun r : Strip => (r.state == .lineal || r.state == .loaded) && r.report.isNone
    let late := fun r : Strip => (r.state == .decided || r.state == .trimmed) && r.report.isNone
    let again := fun r : Strip => r.state != .entering && r.report.isSome
    let q := fun (head length : Nat) => ({ head := BitVec.ofNat 32 head, length := length, moisture := 84, entries := [] } : Report)
    let part : ReportPart := { moisture := 84, defects := [], overflow := false, discarded := 0 }
    let twice := { scanned with strips := [{ lineal 520 300000 640 with report := some part }] }
    ((reporting 309012 642).resetPin = false ∧ (reporting 309012 642).matcher.matching = true ∧
      (reporting 309012 642).matcher.buffer = [q 309012 642] ∧
      (reporting 309012 642).pass (q 309012 642) candidate = some (lineal 520 300000 640)) ∧
    (scanned.pass (q 289010 499) candidate = none ∧ (scanned.pass (q 289010 499) late).isSome = true) ∧
    (twice.pass (q 309040 648) candidate = none ∧ twice.pass (q 309040 648) late = none ∧
      (twice.pass (q 309040 648) again).isSome = true) ∧
    (twice.pass (q 309041 640) candidate = none ∧ twice.pass (q 309041 640) late = none ∧
      twice.pass (q 309041 640) again = none) := by decide

/-- Strip 212 watched, P off its expectation 113824 by some counts, and the load list. -/
def atTransfer (p : Nat) (load : List LoadEntry) (last : Option Position) : State :=
  { oneStrip with
    lineal := { oneStrip.lineal with p := BitVec.ofNat 32 p }
    chain := { oneStrip.chain with load := load, lastClear := last } }

theorem witness_TransferClears :
    (let s := atTransfer 113824 [] (some 113805)
     s.resetPin = false ∧ s.chain.lastClear = some 113805 ∧ (s.lineal.p - 113805).toNat < 20) ∧
    (let s := atTransfer 114024 [] (some 114004)
     20 ≤ (s.lineal.p - 114004).toNat ∧ Quiet s ∧ s.chain.load.length < 2 ∧
      s.watched? = some (lineal 212 100000 912) ∧
      (s.lineal.p - s.transferTarget (lineal 212 100000 912)).toInt.natAbs ≤ s.limits.tt) ∧
    (∀ load ∈ [[LoadEntry.unknown], [.unknown, .unknown]],
      let s := atTransfer 114025 load none
      s.chain.load = load ∧ s.watched? = some (lineal 212 100000 912) ∧
        s.limits.tt < (s.lineal.p - s.transferTarget (lineal 212 100000 912)).toInt.natAbs) ∧
    (let s := twoStrips 113800
     s.chain.lastClear = none ∧ s.watched? = some (lineal 212 100000 912) ∧
      (s.lineal.p - s.transferTarget (lineal 212 100000 912)).toInt.natAbs ≤ s.limits.tt ∧
      s.lineal.queue = [212, (lineal 213 99000 912).tag] ∧ s.strip? 213 = some (lineal 213 99000 912) ∧
      s.chain.load = [] ∧ passed s.lineal.p (s.transferLast (lineal 213 99000 912)) = true ∧
      s.moulder.state ≠ .draining) ∧
    (let s := atTransfer 113624 [.unknown, .unknown] none
     Quiet s ∧ s.chain.load.length = 2 ∧ s.watched? = some (lineal 212 100000 912) ∧
      (lineal 212 100000 912).serial = none ∧
      (s.lineal.p - s.transferTarget (lineal 212 100000 912)).toInt.natAbs ≤ s.limits.tt) :=
  ⟨by decide, ⟨by decide, quiet_of _ (by decide) (by decide), by decide⟩, by decide, by decide,
    quiet_of _ (by decide) (by decide), by decide⟩

/-- R60, R198: a clear that matches nothing leaves the watched strip, overdue as Tt was lowered, watched. -/
theorem test_overdue_watched_survives_clear :
    (after .transferClear (atTransfer 114100 [] none) fun t => (t.strips.map (·.tag), t.chain.load)) =
      some ([212], [.unknown]) := by decide

/-- Nothing but the lug that the next tick brings to offset k may carry wood. -/
theorem alone_of (s : State) (k : Nat) (dropping : Option BayId) (hh : s.homed = []) (hg : s.geometry = Geometry.default)
    (hs : ∀ i : Fin 64, i ≠ ringIdx (lugAt s k) → s.chain.slots[i] = .clear)
    (hb : ∀ j : BayId, some j ≠ dropping → (s.bay j).planned = [] ∧ (s.bay j).pendingDrop = none) :
    AloneAt s k dropping :=
  ⟨hh, hg ▸ default_bounds, fun m h => hs (ringIdx m) h, hb⟩

theorem idle_of (s : State) (h1 : s.headSide.state ≠ .ready) (h2 : s.tailSide.state ≠ .ready) : NoPark s := by
  intro h hr; cases h
  · exact absurd hr h1
  · exact absurd hr h2

theorem headsIdle_of (s : State) (h1 : s.headSide.state ≠ .ready) (h2 : s.tailSide.state ≠ .ready)
    (h3 : s.headSide.plan = [] ∧ s.tailSide.plan = []) : HeadsIdle s := by
  refine ⟨idle_of s h1 h2, fun h => ?_⟩
  cases h
  · exact h3.1
  · exact h3.2

theorem notReady (s : State) (h1 : s.headSide.state = .homing) (h2 : s.tailSide.state = .homing)
    (h3 : s.headSide.plan = [] ∧ s.tailSide.plan = []) : HeadsIdle s :=
  headsIdle_of s (by rw [h1]; decide) (by rw [h2]; decide) h3

/-- The pending load list before a tick. -/
def loading (l : List LoadEntry) : State :=
  { lineOn with strips := [lineal 1 0 600, lineal 2 0 600], chain := { lineOn.chain with serial := 4294967295, load := l } }

theorem witness_LugTickLoads :
    ∀ l ∈ [[], [LoadEntry.strip 1], [.unknown], [.unknown, .unknown], [.strip 1, .strip 2], [.strip 1, .unknown],
      [.unknown, .strip 1]], (loading l).resetPin = false ∧ AloneAt (loading l) 0 none ∧
        (loading l).slot (lugAt (loading l) 0) = { kind := .empty, named := [] } ∧ HeadsIdle (loading l) ∧
        (loading l).chain.latch = false ∧ (loading l).chain.load = l := by
  intro l _
  exact ⟨rfl, alone_of _ _ _ rfl rfl (fun i _ => by
    have h : ∀ i : Fin 64, lineOn.chain.slots[i] = LugSlot.clear := by decide
    exact h i) (fun j _ => by
    have h : ∀ j : BayId, (lineOn.bay j).planned = [] ∧ (lineOn.bay j).pendingDrop = none := by decide
    exact h j), by
      have h : ∀ i : Fin 64, lineOn.chain.slots[i] = LugSlot.clear := by decide
      exact h _, notReady _ rfl rfl ⟨rfl, rfl⟩, rfl, rfl⟩

/-- The lug that the next tick brings to offset k carries a slot; the records of strips 1 and 2 stand on it. -/
def lugAtNext (k : Nat) (latch : Bool) (slot : LugSlot) (f : Strip → Strip) : State :=
  { lineOn with
    strips := [f (loaded 1 100 600), f (loaded 2 100 600)]
    chain := { lineOn.chain with
      serial := BitVec.ofNat 32 (99 + k), latch := latch, slots := lineOn.chain.slots.set 36 slot } }

theorem lug_next (k : Nat) (latch : Bool) (slot : LugSlot) (f : Strip → Strip)
    (hk : BitVec.ofNat 32 (99 + k) + 1 - BitVec.ofNat 32 k = 100#32) : lugAt (lugAtNext k latch slot f) k = 100 := hk

theorem ring_100 : ringIdx 100#32 = ⟨36, by decide⟩ := by decide

theorem slots_next (k : Nat) (latch : Bool) (slot : LugSlot) (f : Strip → Strip) (i : Fin 64) (h : i ≠ ringIdx 100) :
    (lugAtNext k latch slot f).chain.slots[i] = .clear := by
  have h1 : ∀ i : Fin 64, lineOn.chain.slots[i] = LugSlot.clear := by decide
  have h2 : (36 : Nat) ≠ i.val := fun e => h (ring_100 ▸ Fin.ext e.symm)
  have h3 := h1 i
  simp only [Fin.getElem_fin, lugAtNext] at h3 ⊢
  rw [Vector.getElem_set_ne _ _ h2]; exact h3

theorem bays_next : ∀ j : BayId, (lineOn.bay j).planned = [] ∧ (lineOn.bay j).pendingDrop = none := by decide

theorem alone_next (k : Nat) (latch : Bool) (slot : LugSlot) (f : Strip → Strip)
    (hk : BitVec.ofNat 32 (99 + k) + 1 - BitVec.ofNat 32 k = 100#32) : AloneAt (lugAtNext k latch slot f) k none :=
  alone_of _ _ _ rfl rfl (fun i h => slots_next k latch slot f i (lug_next k latch slot f hk ▸ h)) fun j _ => bays_next j

theorem slot_next (k : Nat) (latch : Bool) (slot : LugSlot) (f : Strip → Strip)
    (hk : BitVec.ofNat 32 (99 + k) + 1 - BitVec.ofNat 32 k = 100#32) :
    (lugAtNext k latch slot f).slot (lugAt (lugAtNext k latch slot f) k) = slot := by
  rw [lug_next k latch slot f hk]
  show (lineOn.chain.slots.set 36 slot)[(ringIdx 100#32).val] = slot
  simp only [ring_100, Vector.getElem_set_self]

theorem witness_LugTickVerifies :
    ∀ x ∈ [(true, LugSlot.mk .strip [1]), (false, .mk .empty []), (true, .mk .empty []), (false, .mk .unknown []),
      (false, .mk .strip [1]), (false, .mk .doubled [1]), (false, .mk .doubled [1, 2])],
      let s := lugAtNext 2 x.1 x.2 id
      s.resetPin = false ∧ AloneAt s s.geometry.v none ∧ HeadsIdle s ∧ s.chain.load = [] ∧ s.moulder.state ≠ .draining ∧
        s.chain.latch = x.1 ∧ s.slot (lugAt s s.geometry.v) = x.2 ∧ s.strip? 1 = some (loaded 1 100 600) ∧
        s.strip? 2 = some (loaded 2 100 600) ∧ (loaded 1 100 600).serial = some (lugAt s s.geometry.v) := by
  intro x _
  exact ⟨rfl, alone_next 2 _ _ _ (by decide), notReady _ rfl rfl ⟨rfl, rfl⟩, rfl,
    by show MoulderState.running ≠ .draining; decide, rfl, slot_next 2 _ _ _ (by decide), rfl, rfl, by
      show some (100 : Serial) = some (lugAt _ 2)
      exact congrArg some (show (100 : Serial) = BitVec.ofNat 32 101 + 1 - BitVec.ofNat 32 2 by decide)⟩

theorem witness_LugTickChainEnd :
    ∀ d ∈ [Disposition.overflow, .reject, .ungraded, .uncut, .faulted],
    ∀ slot ∈ [LugSlot.mk .strip [1], .mk .doubled [1, 2], .mk .unknown []],
      let s := lugAtNext 46 false slot fun r => { r with
        state := .trimmed, decision := some { overflow with disposition := d } }
      s.resetPin = false ∧ AloneAt s s.geometry.x none ∧ HeadsIdle s ∧ s.chain.load = [] ∧ s.chain.latch = false ∧
        s.slot (lugAt s s.geometry.x) = slot ∧
        (s.strip? 1).bind (·.decision) = some { overflow with disposition := d } ∧
        (s.strip? 2).bind (·.decision) = some { overflow with disposition := d } := by
  intro d _ slot _
  exact ⟨rfl, alone_next 46 _ _ _ (by decide), notReady _ rfl rfl ⟨rfl, rfl⟩, rfl, rfl,
    slot_next 46 _ _ _ (by decide), rfl, rfl⟩

/-- Bay 8 at X - 1 with its drop pending on the lug that reaches X, and its bundle. -/
def closingAtEnd (b : Bundle) : State :=
  let s := lugAtNext 46 false { kind := .empty, named := [1] } fun r => { r with
    state := .trimmed, decision := some sorted, dropPending := true }
  withBay { s with geometry := { s.geometry with bays := s.geometry.bays.set 7 45 } } 7
    (dropsOf b [] (some { serial := 100, tag := 1, attached := true }))

theorem witness_LugTickChainEnd_closing : ∀ b ∈ lastOnes,
    (closingAtEnd b).resetPin = false ∧ AloneAt (closingAtEnd b) (closingAtEnd b).geometry.x (some 7) ∧ HeadsIdle (closingAtEnd b) ∧
    (closingAtEnd b).chain.load = [] ∧ (closingAtEnd b).chain.latch = false ∧
    (closingAtEnd b).bayOffset 7 + 1 = (closingAtEnd b).geometry.x ∧ ((closingAtEnd b).strip? 1).bind (·.decision) = some sorted ∧
    (closingAtEnd b).slot (lugAt (closingAtEnd b) (closingAtEnd b).geometry.x) = { kind := .empty, named := [1] } ∧
    ((closingAtEnd b).strip? 1).bind (·.serial) = some (lugAt (closingAtEnd b) (closingAtEnd b).geometry.x) ∧
    ((closingAtEnd b).bay 7).pendingDrop =
      some { serial := lugAt (closingAtEnd b) (closingAtEnd b).geometry.x, tag := 1, attached := true } ∧
    ((closingAtEnd b).bay 7).bundle = some b := by
  intro b hb
  have hl : (closingAtEnd b).strip? 1 = some { loaded 1 100 600 with
      state := .trimmed, decision := some sorted, dropPending := true } := rfl
  have hk : lugAt (closingAtEnd b) (closingAtEnd b).geometry.x = 100 :=
    show BitVec.ofNat 32 145 + 1 - BitVec.ofNat 32 46 = 100#32 by decide
  have hg : GeometryBounds (closingAtEnd bundle).geometry := by constructor <;> decide
  refine ⟨rfl, ⟨rfl, hg, fun m h => slots_next 46 false _ id (ringIdx m) (by rwa [hk] at h),
    ?_⟩, notReady _ rfl rfl ⟨rfl, rfl⟩, rfl, rfl, rfl, by rw [hl]; rfl, ?_, by rw [hl, hk]; rfl, by rw [hk]; rfl, rfl⟩
  · revert b; decide
  · exact slot_next 46 false _ id (by decide)

/-! ### The decision, the heads and the drops -/

theorem no_entry_at_e (s : State) (h : s.headSide.plan = [] ∧ s.tailSide.plan = []) (n : Serial) :
    ∀ k : HeadId, ∀ e ∈ (s.head k).plan, e.serial ≠ n := by
  intro k e he
  cases k
  · exact absurd he (by show e ∉ s.headSide.plan; rw [h.1]; simp)
  · exact absurd he (by show e ∉ s.tailSide.plan; rw [h.2]; simp)

theorem witness_LugTickPreChecks :
    (∀ slot ∈ [LugSlot.mk .doubled [1, 2], .mk .doubled [1], .mk .strip [1]], ∀ f : Strip → Strip,
      let s := lugAtNext 4 false slot f
      s.resetPin = false ∧ AloneAt s s.geometry.d none ∧ s.chain.load = [] ∧ s.chain.latch = false ∧
        (∀ h : HeadId, ∀ e ∈ (s.head h).plan, e.serial ≠ lugAt s s.geometry.e) ∧
        s.slot (lugAt s s.geometry.d) = slot ∧ s.headSide.state ≠ .ready) ∧
    (let part : ReportPart := { moisture := 110, defects := [], overflow := false, discarded := 0 }
     110 ≤ lineOn.limits.moisture ∧ lineOn.limits.moisture < 111 ∧
      { loaded 1 100 600 with report := some part }.report = some part ∧ (loaded 1 100 600).size = .normal ∧
      { loaded 1 100 600 with override := some (.grade .g2) }.override = some (.grade .g2)) :=
  ⟨fun slot _ f => ⟨rfl, alone_next 4 _ _ _ (by decide), rfl, rfl, no_entry_at_e _ ⟨rfl, rfl⟩ _,
    slot_next 4 _ _ _ (by decide), by show HeadState.homing ≠ .ready; decide⟩, by decide⟩

/-- Both heads READY with their reference at lug m, and the strip of `f` on the lug that reaches D. -/
def deciding (m : Serial) (slot : LugSlot) (f : Strip → Strip) : State :=
  let h : Head := { Head.start with state := .ready, reference := some { step := 0, serial := m } }
  { lugAtNext 4 false slot f with headSide := h, tailSide := h }

/-- A strip of length lm with a report without defects. -/
def reported (lm : Nat) (r : Strip) : Strip :=
  { r with lm := some lm, report := some { moisture := 110, defects := [], overflow := false, discarded := 0 } }

theorem alone_deciding (m : Serial) (slot : LugSlot) (f : Strip → Strip) :
    AloneAt (deciding m slot f) (deciding m slot f).geometry.d none :=
  alone_of _ _ _ rfl rfl (fun i h => slots_next 4 _ _ f i (by
    have hk : lugAt (deciding m slot f) (deciding m slot f).geometry.d = 100 := lug_next 4 false slot f (by decide)
    rwa [hk] at h)) fun j _ => bays_next j

set_option maxRecDepth 10000 in
/-- The computation of 5.3 to 5.6 finds no valid option for 255 mm, a grade for 600 mm, and none in a table that enables
none; heads whose reference is 15 lugs behind are due to park. -/
theorem witness_LugTickPreChecks_computed :
    let slot := LugSlot.mk .strip [1]
    let s := fun lm => deciding 98 slot (reported lm)
    let bare := { s 600 with grades := (s 600).grades.map fun g => { g with enabled := false } }
    let r := fun lm => reported lm (loaded 1 100 600)
    (∀ m : Serial, ∀ slot : LugSlot, ∀ f : Strip → Strip, (f (loaded 1 100 600)).tag = 1 →
      let s := deciding m slot f
      s.resetPin = false ∧ AloneAt s s.geometry.d none ∧ s.chain.load = [] ∧ s.chain.latch = false ∧
        (∀ h : HeadId, ∀ e ∈ (s.head h).plan, e.serial ≠ lugAt s s.geometry.e) ∧ s.slot (lugAt s s.geometry.d) = slot ∧
        s.strip? 1 = some (f (loaded 1 100 600))) ∧
    (∀ lm, (s lm).headSide.state = .ready ∧ (s lm).tailSide.state = .ready ∧ (s lm).strip? 1 = some (r lm)) ∧
    (bareTick (s 255)).ranking (r 255).grading (lugAt (s 255) 4) = none ∧
    (((bareTick (s 600)).ranking (r 600).grading (lugAt (s 600) 4)).bind (·.grade)).isSome = true ∧
    ((bareTick bare).ranking (r 600).grading (lugAt bare 4)).map (·.grade) = some none ∧
    (let e := deciding 85 slot id
     e.limits.lpark ≤ (lugAt e e.geometry.d - 85).toNat) :=
  ⟨fun m slot f h => ⟨rfl, alone_deciding _ _ _, rfl, rfl, no_entry_at_e _ ⟨rfl, rfl⟩ _, slot_next 4 false _ f (by decide), by
      show List.find? (fun r => r.tag == 1) (f (loaded 1 100 600) :: _) = _
      rw [List.find?_cons_of_pos (by rw [h]; rfl)]⟩,
    fun lm => ⟨rfl, rfl, rfl⟩, by decide +kernel, by decide +kernel, by decide +kernel, by decide⟩

theorem witness_ChosenOptionRanksFirst :
    (fourOptions.ranking strip733 12000).isSome = true ∧ fourOptions.headSide.reference = some { step := 2, serial := 11998 } ∧
    fourOptions.tailSide.reference = some { step := 1, serial := 11998 } := by
  refine ⟨?_, by decide, by decide⟩
  have h := test_option_b_first
  cases hr : fourOptions.ranking strip733 12000 with
  | none => rw [hr] at h; simp at h
  | some o => rfl

theorem witness_OptionGradeFollowsTheTable :
    strip733.forced = none ∧ 0 < ({ headStep := 7, tailStep := 7 } : TrimOption).lf strip733.lm ∧
    (fourOptions.points[classIdx .split]).endSensitive = true ∧ 0 < fourOptions.limits.zone ∧
    PointsBounds fourOptions.points[classIdx .split] := by
  refine ⟨by decide, by decide, by decide, by decide, ?_⟩
  simp only [PointsBounds]; decide

/-- The chosen option B of strip 733. -/
theorem witness_ChoiceIsCarriedOut :
    let s := fourOptions
    let refused := { s with limits := { s.limits with air := 1 } }
    let full := { s with calendar := s.calendar.set (ringIdx 12022) { planned := 12, made := 0 } }
    (refused.airFits (12000 + BitVec.ofNat 32 s.geometry.e) 2 = false) ∧
    (s.airFits (12000 + BitVec.ofNat 32 s.geometry.e) 2 = true ∧
      s.accepts 2 choice.grade choice.band strip733.species strip733.profile = true ∧ (s.bay 2).bundle = some bundle ∧
      (∀ j, j ≠ 2 → s.accepts j choice.grade choice.band strip733.species strip733.profile = false) ∧
      s.airFits (12000 + BitVec.ofNat 32 (s.bayOffset 2)) 1 = true) ∧
    (∀ j, s.accepts j .g2 choice.band strip733.species strip733.profile = false) ∧
    (full.airFits (12000 + BitVec.ofNat 32 full.geometry.e) 2 = true ∧
      full.airFits (12000 + BitVec.ofNat 32 (full.bayOffset 2)) 1 = false) ∧
    (let two := withBay full 4 (filling { bundle with serial := 2052, copy := { recipe with target := 3 } })
     let accepts := fun j => two.accepts j choice.grade choice.band strip733.species strip733.profile = true
     accepts 2 ∧ accepts 4 ∧ two.bayRemaining 2 < two.bayRemaining 4 ∧ (∀ j, accepts j → j = 2 ∨ j = 4) ∧
      two.airFits (12000 + BitVec.ofNat 32 two.geometry.e) 2 = true ∧
      two.airFits (12000 + BitVec.ofNat 32 (two.bayOffset 2)) 1 = false ∧
      two.airFits (12000 + BitVec.ofNat 32 (two.bayOffset 4)) 1 = true) := by decide

/-- A record with the OVERFLOW decision. -/
def overflowed (r : Strip) : Strip := { r with state := .decided, decision := some overflow }

/-- The strip 1 on the lug that reaches E, with the front entries of the heads, each with an entry of another step
behind it. -/
def cutting (d : Decision) (b : Bay) (inPosition : Bool) (head tail : List PlanEntry) : State :=
  let h : Head := { Head.start with inPosition := inPosition, plan := head ++ [plunge 101 3] }
  withBay { lugAtNext 10 false { kind := .strip, named := [1] } fun r => { r with state := .decided, decision := some d } with
    headSide := h, tailSide := { h with inPosition := true, plan := tail ++ [plunge 101 0] } } 2 b

/-- A plan entry that only moves. -/
def move (n : Serial) (step : Nat) : PlanEntry := { plunge n step with plunge := false }

theorem lug_cutting (d : Decision) (b : Bay) (v : Bool) (p q : List PlanEntry) :
    lugAt (cutting d b v p q) (cutting d b v p q).geometry.e = 100 :=
  show BitVec.ofNat 32 109 + 1 - BitVec.ofNat 32 10 = 100#32 by decide

theorem alone_cutting (d : Decision) (b : Bay) (v : Bool) (p q : List PlanEntry) (dropping : Option BayId)
    (hb : ∀ j : BayId, some j ≠ dropping → ((withBay lineOn 2 b).bay j).planned = [] ∧
      ((withBay lineOn 2 b).bay j).pendingDrop = none) :
    AloneAt (cutting d b v p q) (cutting d b v p q).geometry.e dropping :=
  alone_of _ _ _ rfl rfl (fun i h => slots_next 10 false _ id i (by rwa [lug_cutting d b v p q] at h)) hb

theorem witness_LugTickCutsOrIsLate : ∀ v : Bool, ∀ x ∈ [([plunge 100 0], [plunge 100 0]), ([plunge 100 0], [move 100 0]),
      ([move 100 0], [move 100 0])], ∀ y ∈ (overflow, Bay.start, none) ::
        lastOnes.map fun b => (sorted, dropsOf b [{ serial := 100, tag := 1 }] none, some (2 : BayId)),
    let s := cutting y.1 y.2.1 v x.1 x.2
    s.resetPin = false ∧ AloneAt s s.geometry.e y.2.2 ∧ NoPark s ∧ s.chain.load = [] ∧ s.chain.latch = false ∧
    s.slot (lugAt s s.geometry.e) = { kind := .strip, named := [1] } ∧
    s.strip? 1 = some { loaded 1 100 600 with state := .decided, decision := some y.1 } ∧
    (∀ k, y.2.2 = some k → (s.bay k).planned = [{ serial := lugAt s s.geometry.e, tag := 1 }] ∧
      (s.bay k).pendingDrop = none ∧ ∃ b ∈ lastOnes, (s.bay k).bundle = some b) ∧
    (frontOn s.headSide (lugAt s s.geometry.e)).isSome = true ∧ (frontOn s.tailSide (lugAt s s.geometry.e)).isSome = true ∧
    s.headSide.inPosition = v ∧ s.tailSide.inPosition = true := by
  have hbs : ∀ y ∈ (overflow, Bay.start, none) ::
        lastOnes.map fun b => (sorted, dropsOf b [{ serial := 100, tag := 1 }] none, some (2 : BayId)),
      (∀ j : BayId, some j ≠ y.2.2 → ((withBay lineOn 2 y.2.1).bay j).planned = [] ∧
        ((withBay lineOn 2 y.2.1).bay j).pendingDrop = none) ∧
      ∀ k, y.2.2 = some k → ((withBay lineOn 2 y.2.1).bay k).planned = [{ serial := 100, tag := 1 }] ∧
        ((withBay lineOn 2 y.2.1).bay k).pendingDrop = none ∧
        ∃ b ∈ lastOnes, ((withBay lineOn 2 y.2.1).bay k).bundle = some b := by decide
  have hfs : ∀ x ∈ [([plunge 100 0], [plunge 100 0]), ([plunge 100 0], [move 100 0]), ([move 100 0], [move 100 0])],
      ((x.1 ++ [plunge 101 3]).head?.filter fun e => e.serial = 100).isSome = true ∧
      ((x.2 ++ [plunge 101 0]).head?.filter fun e => e.serial = 100).isSome = true := by decide
  intro v x hx y hy s
  have hl : lugAt s s.geometry.e = 100 := lug_cutting _ _ _ _ _
  refine ⟨rfl, alone_cutting _ _ _ _ _ _ (hbs y hy).1,
    idle_of _ (by show HeadState.homing ≠ .ready; decide) (by show HeadState.homing ≠ .ready; decide), rfl, rfl,
    slot_next 10 false _ id (by decide), rfl, ?_, ?_, ?_, rfl, rfl⟩
  · rw [hl]; exact (hbs y hy).2
  · rw [hl]; exact (hfs x hx).1
  · rw [hl]; exact (hfs x hx).2

/-- Bay 3 with lug 100 next to reach it, which strip 1 stands on, and lug 99 just past it, which strip 2 dropped from. -/
def dropping (b : Bundle) (plan : List PlannedDrop) (pending : Option PendingDrop) (at99 at100 : LugSlot) : State :=
  let s := withBay (lugAtNext 22 false at100 id) 2 (dropsOf b plan pending)
  { s with
    strips := [loaded 1 100 600, { loaded 2 99 600 with state := .trimmed, decision := some sorted, dropPending := true }]
    chain := { s.chain with slots := s.chain.slots.set 35 at99 } }

theorem slots_dropping (c : Bundle) (p : List PlannedDrop) (d : Option PendingDrop) (a b : LugSlot) (x : Serial)
    (h1 : ringIdx x ≠ ⟨36, by decide⟩) (h2 : ringIdx x ≠ ⟨35, by decide⟩) :
    (dropping c p d a b).slot x = { kind := .empty, named := [] } := by
  have h : (35 : Nat) ≠ (ringIdx x).val := fun e => h2 (Fin.ext e.symm)
  have h3 := slots_next 22 false b id (ringIdx x) (ring_100 ▸ h1)
  show ((lugAtNext 22 false b id).chain.slots.set 35 a)[(ringIdx x).val] = _
  rw [Vector.getElem_set_ne _ _ h]; exact h3

theorem slot_dropping (c : Bundle) (p : List PlannedDrop) (d : Option PendingDrop) (a b : LugSlot) :
    (∀ x : Serial, x = 100 → (dropping c p d a b).slot x = b) ∧ ∀ x : Serial, x = 99 → (dropping c p d a b).slot x = a := by
  refine ⟨fun x h => ?_, fun x h => ?_⟩
  · subst h
    show ((lineOn.chain.slots.set 36 b).set 35 a)[(ringIdx 100#32).val] = b
    simp only [ring_100]
    rw [Vector.getElem_set_ne _ _ (by decide), Vector.getElem_set_self]
  · subst h
    have h : ringIdx 99#32 = ⟨35, by decide⟩ := by decide
    show ((lineOn.chain.slots.set 36 b).set 35 a)[(ringIdx 99#32).val] = a
    simp only [h, Vector.getElem_set_self]

theorem witness_LugTickDrops : ∀ b ∈ lastOnes,
    let plan : List PlannedDrop := [{ serial := 100, tag := 1 }]
    let pend : Option PendingDrop := some { serial := 99, tag := 2, attached := true }
    let none' := LugSlot.mk .empty []
    let from2 := LugSlot.mk .empty [2]
    let on1 := LugSlot.mk .strip [1]
    (∀ x ∈ [(plan, none, none', on1), ([], pend, from2, none'), (plan, pend, from2, on1)],
      let s := dropping b x.1 x.2.1 x.2.2.1 x.2.2.2
      let n := lugAt s (s.bayOffset 2)
      let m := lugAt s (s.bayOffset 2 + 1)
      s.resetPin = false ∧ s.homed = [] ∧ GeometryBounds s.geometry ∧ HeadsIdle s ∧ s.chain.load = [] ∧
        s.chain.latch = false ∧
        (∀ y : Serial, ringIdx y ≠ ringIdx n → ringIdx y ≠ ringIdx m → s.slot y = { kind := .empty, named := [] }) ∧
        s.slot n = x.2.2.2 ∧ s.slot m = x.2.2.1) ∧
    (∀ x ∈ [(plan, none, none', on1), ([], pend, from2, none'), (plan, pend, from2, on1)],
      let s := dropping b x.1 x.2.1 x.2.2.1 x.2.2.2
      (∀ j : BayId, j ≠ 2 → (s.bay j).planned = [] ∧ (s.bay j).pendingDrop = none) ∧ (s.bay 2).planned = x.1 ∧
        (s.bay 2).pendingDrop = x.2.1 ∧ (s.bay 2).bundle = some b ∧
        lugAt s (s.bayOffset 2) = 100 ∧ lugAt s (s.bayOffset 2 + 1) = 99 ∧ (s.strip? 1).isSome = true ∧
        (s.strip? 2).bind (·.serial) = some 99 ∧ (s.strip? 2).bind (·.decision) = some sorted) := by
  intro b hb
  refine ⟨fun x _ => ?_, by revert b; decide⟩
  have hn : BitVec.ofNat 32 121 + 1 - BitVec.ofNat 32 22 = 100#32 := by decide
  have hm : BitVec.ofNat 32 121 + 1 - BitVec.ofNat 32 23 = 99#32 := by decide
  refine ⟨rfl, rfl, default_bounds, notReady _ rfl rfl ⟨rfl, rfl⟩, rfl, rfl, fun y h1 h2 => slots_dropping _ _ _ _ _ y ?_ ?_,
    (slot_dropping _ _ _ _ _).1 _ hn, (slot_dropping _ _ _ _ _).2 _ hm⟩
  · exact fun h => h1 (h.trans (show _ = ringIdx (BitVec.ofNat 32 121 + 1 - BitVec.ofNat 32 22) by rw [hn]; decide))
  · exact fun h => h2 (h.trans (show _ = ringIdx (BitVec.ofNat 32 121 + 1 - BitVec.ofNat 32 23) by rw [hm]; decide))

/-- Strip 212 has dropped from lug 5 into bay 3, which holds bundle b. -/
def dropped (b : Bundle) (attached : Bool) : State :=
  onLug { loaded 212 5 912 with state := .trimmed, decision := some sorted, dropPending := true }
    (dropsOf b [] (some { serial := 5, tag := 212, attached := attached }))

theorem witness_DropResolution :
    lineOn.resetPin = false ∧ (lineOn.bay 0).pendingDrop = none ∧ sorted.choice = some choice ∧
    ∀ v, ∀ b ∈ lastOnes, let s := dropped b v
      s.resetPin = false ∧ (s.bay 2).pendingDrop = some { serial := 5, tag := 212, attached := v } ∧
      (s.strip? 212).bind (·.decision) = some sorted ∧ (s.strip? 212).bind (·.serial) = some 5 ∧
      (s.bay 2).bundle = some b := by decide

/-- Table 7-4: a confirm with another commitment left, or with the last one resolved below the target and at it, with the
closing flag clear and set. -/
theorem test_last_commitment :
    lastOnes.map (fun b => after (.bayConfirm 2 true) (dropped b true)
      (fun t => ((t.bay 2).state, ((t.bay 2).bundle.map (·.short)), t.count .bundlesShort))) =
    [some (.filling, some false, 0), some (.filling, some false, 0), some (.settling, some false, 0),
      some (.settling, some true, 1), some (.settling, some false, 0)] := by decide

theorem witness_ReservationKeepsAirLaw :
    (1 ≤ (airWindow 0).limits.window ∧ (airWindow 0).limits.window ≤ 16 ∧ (airWindow 0).ringHolds 302 = true ∧
      (airWindow 0).ringHolds 348 = true ∧ (airWindow 0).ringHolds 285 = true) ∧
    ((airWindow 0).reserve 302 2).2 = true ∧ ((airWindow 1).reserve 301 2).2 = false := by decide

/-- The HEAD-SIDE head in a state, with its fault input. -/
def headIn (st : HeadState) (fault : Bool) : State :=
  { lineOn with
    headSide := { Head.start with state := st }, inputs := { lineOn.inputs with faultHead := fault } }

theorem witness_HeadHandshake :
    (∀ st ∈ [HeadState.ready, .homing, .fault], (headIn st false).resetPin = false ∧
      ((headIn st false).head .headSide).state = st) ∧
    ({ headIn .ready false with homed := [.tailSide, .headSide] }.homed ≠ [] ∧ (headIn .ready false).resetPin = false) ∧
    (Receives (headIn .fault false) [1#8] ∧ (headIn .fault false).inputs.faultHead = false) ∧
    (Receives (headIn .fault true) [1#8] ∧ (headIn .fault true).inputs.faultHead = true) ∧
    (Receives lineOn (toBytes 1 0) ∧ Receives lineOn (toBytes 1 3) ∧ Receives lineOn (toBytes 1 255)) := by
  simp only [Receives]; decide

/-- A HEAD-SIDE queue with the plunges of an OVERFLOW strip on lug 100 and a SORT strip on lug 102, each behind a move, and
bay 3 with bundle b and the planned drop of the latter. -/
def planned (b : Bundle) (cuts : List PlanEntry) : State :=
  withBay { lineOn with
    headSide := { Head.start with plan := move 99 0 :: cuts }
    tailSide := { Head.start with plan := [plunge 100 0, plunge 102 1] }
    strips := [overflowed (loaded 1 100 600), { loaded 2 102 600 with state := .decided, decision := some sorted },
      loaded 3 100 600] } 2 (dropsOf b [{ serial := 90, tag := 9 }, { serial := 102, tag := 2 }] none)

theorem witness_PositionerFaultCancelsCuts :
    let sortStrip := { loaded 2 102 600 with state := .decided, decision := some sorted }
    let decidedOn := fun (s : State) (n : Serial) => s.strips.filter fun r => r.state = .decided && r.serial = some n
    (∀ b ∈ lastOnes,
      let one := planned b [plunge 100 0]
      let sort := planned b [plunge 102 0]
      one.resetPin = false ∧ HeadId.tailSide ≠ .headSide ∧ (one.head .headSide).state ≠ .fault ∧
      (one.head .headSide).plan.filter (·.plunge) = [plunge 100 0] ∧
      decidedOn one 100 = [overflowed (loaded 1 100 600)] ∧ one.strip? 1 = some (overflowed (loaded 1 100 600)) ∧
      overflow.dest = none ∧ (sort.head .headSide).plan.filter (·.plunge) = [plunge 102 0] ∧
      decidedOn sort 102 = [sortStrip] ∧ sort.strip? 2 = some sortStrip ∧ sorted.choice = some choice ∧
      (sort.bay 2).bundle = some b ∧
      (sort.bay 2).planned.find? (fun x => x.tag = 2) = some { serial := 102, tag := 2 }) ∧
    GeometryBounds (planned bundle []).geometry ∧
    (let cuts := [(plunge 100 0, overflowed (loaded 1 100 600)), (plunge 102 0, sortStrip)]
     let s := planned { bundle with committed := 2 } (cuts.map (·.1))
     (s.head .headSide).plan.filter (·.plunge) = cuts.map (·.1) ∧ (cuts.map (·.1.serial)).Nodup ∧
      (∀ x ∈ cuts, decidedOn s x.1.serial = [x.2] ∧ s.strip? x.2.tag = some x.2) ∧
      (cuts.filter fun x => (x.2.decision.bind (·.dest)).any fun g => g.bay = 2).length < 2) ∧
    (headIn .fault false).headSide.state = .fault ∧
    (lineOn.head .headSide).state ≠ .fault ∧ ∀ e ∈ (lineOn.head .headSide).plan, e.plunge = false :=
  ⟨by decide, default_bounds, by decide, by decide, by decide, by decide⟩

/-- R108: both strips of two queued plunges become UNCUT and are counted, and the SORT one's planned drop goes. -/
theorem test_fault_cancels_two :
    after (.positionerFault .headSide true) (planned { bundle with committed := 2 } [plunge 100 0, plunge 102 0])
      (fun t => (t.strips.map fun r => r.decision.map (·.disposition), t.count .headFaultCancels,
        (t.bay 2).planned.map (·.tag), (t.bay 2).bundle.map (·.committed))) =
    some ([some .uncut, some .uncut, none], 2, [9], some 1) := by decide

/-! ### Bays, the strapper and labels -/

theorem witness_BayRequests :
    let p := toBytes 1 (bayNum 2)
    let s := fun b : Bay => withBay lineOn 2 b
    (∀ b : Bay, Receives (s b) p) ∧
    (∀ b ∈ [{ bundle with committed := 1 }, { bundle with deposited := 2 }, { bundle with unverified := 1 }, bundle],
      ((s (filling b)).bay 2).state = .filling ∧ ((s (filling b)).bay 2).bundle = some b) ∧
    (∀ b ∈ lastOnes, ((s { filling b with state := .fault, origin := some .filling }).bay 2).state = .fault ∧
      ((s { filling b with state := .fault, origin := some .filling }).bay 2).origin = some .filling ∧
      ((s { filling b with state := .fault, origin := some .filling }).bay 2).bundle = some b ∧
      (s (filling b)).inputs.bayFault[2] = false) ∧
    { bundle with deposited := 2 }.total = recipe.target ∧ { bundle with unverified := 1 }.total ≠ recipe.target ∧
    bundle.total = 0 ∧ 0 < bundle.copy.target ∧ (found (s (filling bundle))).orders.queue = [] ∧
    (∀ o ∈ [FaultOrigin.filling, .settling, .strapTimeout],
      ((s { bayIn .fault with origin := some o }).bay 2).origin = some o ∧
      ((s { bayIn .fault with origin := some o }).bay 2).state = .fault) ∧
    lineOn.inputs.bayFault[2] = false ∧ faulty.inputs.bayFault[2] = true ∧
    (lineOn.bay 2).state = .disabled ∧ (lineOn.bay 2).starved = false ∧ (found lineOn).orders.queue = [] ∧
    ((s (bayIn .empty)).bay 2).state = .empty ∧
    { lineOn with strapper := { lineOn.strapper with state := .busy } }.strapper.state ≠ .idle ∧
    (s { bayIn .fault with origin := some .strapTimeout }).strapper.state = .idle := by
  refine ⟨fun b => ⟨rfl, by show ReceiverState.hunt ≠ .answering; decide, by decide⟩, ?_⟩
  decide

/-- R135, R133 and R137: CLEAR BAY of a bay that was FILLING, its bundle without a commitment: open, complete, short and
empty; and of one whose strap timed out, which an IDLE strapper takes. -/
theorem test_clear_bay :
    [({ bundle with deposited := 1 }, FaultOrigin.filling), ({ bundle with deposited := 2 }, .filling),
      ({ bundle with deposited := 1, closing := true }, .filling), ({ bundle with closing := true }, .filling),
      (bundle, .strapTimeout)].map (fun x =>
        after (.clearBay (toBytes 1 3)) (withBay lineOn 2 { filling x.1 with state := .fault, origin := some x.2 })
          (fun t => ((t.bay 2).state, (t.bay 2).bundle.map (·.short), t.strapper.current))) =
    [some (.filling, some false, none), some (.settling, some false, none), some (.settling, some true, none),
      some (.empty, none, none), some (.strapping, some false, some 2)] := by decide

theorem witness_BayLossesCancelDrops :
    let b := onLug { loaded 212 5 912 with state := .decided, decision := some sorted }
      (committed [{ serial := 5, tag := 212 }] none)
    let s := fun st => withBay lineOn 2 (bayIn st)
    (b.resetPin = false ∧ (b.bay 2).state = .filling ∧ (b.bay 2).planned = [{ serial := 5, tag := 212 }] ∧
      (b.strip? 212).bind (·.decision) = some sorted ∧ (b.bay 2).bundle = some { bundle with committed := 2 } ∧
      (found b).orders.queue = []) ∧
    Receives b (toBytes 1 (bayNum 2)) ∧
    (∀ st ∈ [BayState.filling, .settling, .fault, .disabled, .empty, .waitStrap, .strapping, .labelWait, .discharging],
      ((s st).bay 2).state = st ∧ ((s st).bay 2).planned = []) := by
  refine ⟨by decide, ⟨by decide, by decide, by decide⟩, by decide⟩

/-- The strapper in a state with bay 3, and a FIFO. -/
def strapping (st : StrapperState) (cur : Option BayId) (fifo : List BayId) (b : BayState) : State :=
  { withBay lineOn 2 (bayIn b) with strapper := { state := st, current := cur, fifo := fifo, timer := none } }

/-- n label records of other bundles. -/
def labels (n : Nat) : List Label :=
  (List.range n).map fun i =>
    { bundle := i + 1, order := 41, bay := 2, recipe := 5, template := 1, text := [], check := 0, truncated := false
      uncertain := false, short := false, fetched := true }

theorem witness_StrapperServesBays :
    ((strapping .fault none [] .settling).strapper.state ≠ .idle ∧
      ((strapping .fault none [] .settling).bay 2).state = .settling) ∧
    ((strapping .idle none [] .settling).strapper.state = .idle ∧ (strapping .idle none [] .settling).strapper.fifo = []) ∧
    ((lineOn.bay 2).state ≠ .settling) ∧
    ((strapping .idle none [2, 3] .waitStrap).strapper.state = .idle ∧
      (strapping .idle none [2, 3] .waitStrap).strapper.fifo = 2 :: [3]) ∧
    (let s := strapping .busy (some 2) [] .strapping
     s.strapper.state = .busy ∧ s.strapper.current = some 2 ∧ s.strapper.current ≠ some 7 ∧ s.strapper.fifo = [] ∧
      s.labelWait = [] ∧ s.labels.table.length < 16 ∧ (s.bay 2).bundle = some bundle ∧ (labels 16).length = 16) ∧
    (Receives (strapping .fault none [] .empty) [] ∧ (strapping .fault none [] .empty).strapper.fifo = []) ∧
    (Receives (strapping .fault none [2] .waitStrap) [] ∧ (strapping .fault none [2] .waitStrap).strapper.fifo = 2 :: []) ∧
    (Receives lineOn [] ∧ lineOn.strapper.state ≠ .fault) := by
  simp only [Receives]; decide

/-- Bay 3 EMPTY, with an entry of order 41 in the recipe queue and the bundle serial counter at n. -/
def opening (n : Nat) : State :=
  let s := withBay lineOn 2 (bayIn .empty)
  { s with
    bundleSerial := n
    orders := { s.orders with
      recipes := s.orders.recipes.set 5 (some recipe), table := [order 41 .emitted], queue := [{ order := 41, recipe := 5 }] } }

theorem witness_BundlesOpenAndDischarge :
    (∀ n ∈ [1, 999999], (opening n).resetPin = false ∧ ((opening n).bay 2).state = .empty ∧
      (∀ j, j < (2 : BayId) → ((opening n).bay j).state ≠ .empty) ∧
      (opening n).orders.queue = { order := 41, recipe := 5 } :: [] ∧
      (opening n).orders.recipes[(5 : Fin 32)] = some recipe ∧ (opening n).order? 41 = some (order 41 .emitted) ∧
      (order 41 .emitted).labelled + (order 41 .emitted).aborted + (order 41 .emitted).closedEmpty
        ≤ (order 41 .emitted).opened ∧
      1 ≤ (opening n).bundleSerial ∧ (opening n).bundleSerial ≤ 999999 ∧ (opening n).labels.table.length ≤ 16) ∧
    lineOn.orders.queue = [] ∧
    ((withBay lineOn 2 (bayIn .discharging)).bay 2).state = .discharging ∧ (bayIn .discharging).starved = false ∧
    ∀ n ∈ [1, 999999], let s := withBay (opening n) 2 (bayIn .discharging)
      s.resetPin = false ∧ (s.bay 2).state = .discharging ∧ s.orders.queue = { order := 41, recipe := 5 } :: [] ∧
      s.orders.recipes[(5 : Fin 32)] = some recipe ∧ s.order? 41 = some (order 41 .emitted) ∧ s.bundleSerial = n := by decide

/-- R126: a bay that is discharged takes the waiting entry in the same step. -/
theorem test_discharge_takes_entry : after (.dischargeComplete 2 true) (withBay (opening 7) 2 (bayIn .discharging))
    (fun t => ((t.bay 2).state, (t.bay 2).bundle.map (·.serial), t.orders.queue, t.count .bundlesDischarged,
      t.count .bundlesOpened)) = some (.filling, some 7, [], 1, 1) := by decide

/-- A label table of n FETCHED records and a READY one. -/
def labelled (n : Nat) : State :=
  { lineOn with labels := { lineOn.labels with
    table := labels n ++ [{ bundle := 999999, order := 41, bay := 2, recipe := 5, template := 1, text := [], check := 0
                            truncated := false, uncertain := false, short := false, fetched := false }] } }

/-- A bay enters EMPTY while an entry waits: after an empty close of its order's bundle, and when it is enabled. -/
theorem witness_EntersEmpty_entryWaits :
    let s := opening 7
    let told := emptyClosed { s with orders := { s.orders with table := [{ order 41 .emitted with opened := 1 }] } } 41
    let enabled := found (withBay s 2 Bay.start)
    (∀ v ∈ [told, enabled], v.orders.queue = { order := 41, recipe := 5 } :: [] ∧
      v.orders.recipes[(5 : Fin 32)] = some recipe ∧ 1 ≤ v.bundleSerial ∧ v.bundleSerial ≤ 999999 ∧
      v.labels.table.length ≤ 16) ∧
    told.order? 41 = some { order 41 .emitted with opened := 1, closedEmpty := 1 } ∧
    enabled.order? 41 = some (order 41 .emitted) ∧ ((withBay s 2 Bay.start).bay 2).state = .disabled ∧
    Receives (withBay s 2 Bay.start) (toBytes 1 (bayNum 2)) := by
  simp only [Receives]; decide

/-- R147, R126, and R134, R133: a bay that is enabled, and one whose bundle CLOSE BUNDLE closes empty, takes the entry. -/
theorem test_enters_empty_takes_entry :
    ∀ x ∈ [(Instr.enableBay (toBytes 1 3), Bay.start, 0), (.closeBundle (toBytes 1 3), filling { bundle with closing := true }, 1)],
      after x.1 (withBay (opening 7) 2 x.2.1) (fun t => ((t.bay 2).bundle.map (·.serial), t.orders.queue.length,
        t.count .bundlesClosedEmpty, t.count .bundlesOpened)) = some (some 7, 0, x.2.2, 1) := by decide

/-- R171: an order already marked settled is not noticed again at an empty close. -/
theorem test_settled_once :
    [true, false].map (fun v =>
      let o := { order 41 .cancelled with opened := 1, settled := v }
      let s := withBay lineOn 2 (filling { bundle with closing := true })
      after (.closeBundle (toBytes 1 3)) { s with orders := { s.orders with table := [o] } }
        (fun t => ((t.order? 41).map (·.settled), t.isPending .orderComplete))) =
    [some (some true, false), some (some true, true)] := by decide

theorem witness_LabelRequestsAndFormation :
    let waiting := { withBay lineOn 2 (bayIn .labelWait) with labelWait := [2] }
    (Receives (labelled 1) (toBytes 4 0) ∧
      ((labelled 1).labels.table.find? (fun x => x.fetched = false)).map (·.bundle) = some 999999) ∧
    (Receives (labelled 1) (toBytes 4 999999) ∧
      ((labelled 1).labels.table.find? (fun x => x.bundle = 999999)).map (·.fetched) = some false) ∧
    (((labelled 1).labels.table.find? (fun x => x.bundle = 1)).map (·.fetched) = some true ∧ (labelled 1).labelWait = []) ∧
    (waiting.resetPin = false ∧ waiting.labelWait = 2 :: [] ∧ (waiting.bay 2).bundle = some bundle ∧
      waiting.labels.table.length < 16) ∧ (labelled 15).labels.table.length = 16 ∧
    (let full := { waiting with labels := (labelled 15).labels }
     Receives full (toBytes 4 1) ∧ full.labelWait = 2 :: [] ∧ (full.bay 2).bundle = some bundle ∧
      full.labels.table.length ≤ 16 ∧
      (full.labels.table.find? (fun x => x.bundle = 1)).map (·.fetched) = some true) := by
  simp only [Receives]; decide

theorem witness_LabelTextIsCutAndChecked :
    (∀ x ∈ [0x80#8, 0x41#8], x ≠ 0x8B#8) ∧ 0 < bundle3017.gradeCounts[gradeIdx .g3] ∧
    (∀ k : Grade, Grade.g3.num < k.num → bundle3017.gradeCounts[gradeIdx k] = 0) :=
  ⟨by decide, by decide, fun k h => by cases k <;> revert h <;> decide⟩

/-! ### Orders -/

theorem witness_ProgramsAndOrders :
    let w : ProgramWord := { code := 255, a := 255, b := 65535 }
    (Receives lineOn (toBytes 2 128 ++ (List.replicate 128 w).flatMap wordBytes) ∧ 128 + 128 ≤ 256 ∧
      ∀ x ∈ List.replicate 128 w, x.code ≤ 255 ∧ x.a ≤ 255 ∧ x.b ≤ 65535) ∧
    (Receives lineOn (toBytes 2 255 ++ [w, w].flatMap wordBytes) ∧ 256 < 255 + [w, w].length) ∧
    (Receives lineOn (toBytes 2 65535 ++ toBytes 2 255) ∧ lineOn.order? 65535 = none ∧
      (found lineOn).orders.interp.state = .idle ∧ lineOn.link.line = .running ∧ (found lineOn).orders.runList = []) ∧
    (oneStrip.order? 41).isSome = true ∧ State.reset.link.line ≠ .running ∧
    { lineOn with orders := { lineOn.orders with table := List.replicate 8 (order 41 .active) } }.orders.table.length = 8 := by
  refine ⟨⟨⟨by decide, by decide, by decide +kernel⟩, by decide, fun x h => by
    rw [List.eq_of_mem_replicate h]; decide⟩, ⟨⟨by decide, by decide, by decide⟩, by decide⟩,
    ⟨⟨by decide, by decide, by decide⟩, by decide⟩, by decide⟩

/-- The interpreter in a state with order 41. -/
def interpIn (st : InterpreterState) : State :=
  { lineOn with orders := { lineOn.orders with
    table := [order 41 .active], interp := { Interpreter.start with state := st, order := some 41 } } }

theorem witness_InterpreterStartsAndResumes :
    let s := { held .idle [1, 2] with link := lineOn.link }
    (s.resetPin = false ∧ s.orders.interp.state = .idle ∧ ¬ (s.link.line ≠ .running ∨ s.link.hold = true) ∧
      s.orders.runList = 1 :: [2] ∧ s.order? 1 = some (order 1 .loaded)) ∧
    lineOn.orders.runList = [] ∧ (interpIn .paused).orders.interp.state = .paused ∧
    ¬ ((interpIn .paused).link.line ≠ .running ∨ (interpIn .paused).link.hold = true) ∧
    Receives (interpIn .held) (toBytes 2 41) ∧ (interpIn .held).orders.interp.state = .held ∧
    (interpIn .held).orders.interp.order = some 41 ∧ ((interpIn .held).order? 41).isSome = true ∧
    Receives lineOn (toBytes 2 65535) ∧ lineOn.order? 65535 = none := by
  simp only [Receives]; decide

/-- The interpreter executes a word of order 41 at address 10. -/
def atWord (w : ProgramWord) (calls : List Nat) (repeats : List RepeatFrame) (spin : Nat) : State :=
  { lineOn with orders := { lineOn.orders with
    table := [order 41 .active]
    program := lineOn.orders.program.set 10 w
    interp := { Interpreter.start with
      state := .running, order := some 41, pc := 10, calls := calls, repeats := repeats, spin := spin } } }

theorem executes_atWord (w : ProgramWord) (c : List Nat) (r : List RepeatFrame) (n : Nat) : Executes (atWord w c r n) 41 :=
  ⟨rfl, rfl, rfl, rfl⟩

theorem witness_WordsMoveTheInterpreter :
    let frame := fun n => ({ body := 255, left := n } : RepeatFrame)
    let word := fun s : State => s.orders.program[s.orders.interp.pc]
    let s := fun code b => atWord { code := code, a := 0, b := b } [255] [frame (some 2)] 62
    (∀ code ∈ [0, 2, 3, 4, 5, 6, 7], Executes (s code 255) 41 ∧ (word (s code 255)).code = code ∧ (s code 255).orders.runList = []) ∧
    (s 0 0).order? 41 = some (order 41 .active) ∧ (s 2 255).orders.interp.spin < 63 ∧
    (11 : Fin 256).val = (s 2 255).orders.interp.pc.val + 1 ∧ (s 2 255).orders.interp.repeats.length < 4 ∧
    (word (s 2 1)).b = 1 ∧ (word (s 2 255)).b = 255 ∧ (s 3 0).orders.interp.repeats.getLast? = some (frame (some 2)) ∧
    (atWord { code := 3, a := 0, b := 0 } [] [frame none] 0).orders.interp.repeats.getLast? = some (frame none) ∧
    (atWord { code := 3, a := 0, b := 0 } [] [frame (some 1)] 0).orders.interp.repeats.getLast? = some (frame (some 1)) ∧
    (frame (some 2)).body = (255 : Fin 256).val ∧ (word (s 5 255)).b = (255 : Fin 256).val ∧
    (s 5 255).orders.interp.calls.length < 4 ∧ (s 6 0).orders.interp.calls.getLast? = some (255 : Fin 256).val ∧
    (∃ x : State, Executes x 41 ∧ ∃ e ∈ x.orders.queue, e.order = 41) :=
  ⟨fun code h => ⟨executes_atWord _ _ _ _, by revert code; decide, rfl⟩, by decide, by decide, by decide, by decide, by decide,
    by decide, by decide, by decide, by decide, by decide, by decide, by decide, by decide,
    { interpIn .running with orders := { (interpIn .running).orders with queue := [{ order := 41, recipe := 5 }] } },
    ⟨by decide, by decide, by decide, by decide⟩, by decide⟩

/-- An END word that leaves order 41 EMITTED or COMPLETE, with a run list behind it. -/
def ending (run : List Nat) : State :=
  let s := atWord { code := 0, a := 0, b := 0 } [] [] 0
  { s with orders := { s.orders with runList := run, table := s.orders.table ++ run.map (order · .loaded) } }

theorem witness_WordsMoveTheInterpreter_takesUp :
    let t := ended (entered (ending [42, 43])) 41 (order 41 .active)
    Executes (ending [42, 43]) 41 ∧ (ending [42, 43]).order? 41 = some (order 41 .active) ∧
    t.orders.runList = 42 :: [43] ∧ t.link.line = .running ∧ t.link.hold = false ∧ t.order? 42 = some (order 42 .loaded) :=
  ⟨⟨rfl, rfl, rfl, rfl⟩, by decide, by decide, by decide, by decide, by decide⟩

/-- R161, R159: END completes an order that opened no bundle, and the interpreter takes up the front of the run list. -/
theorem test_end_takes_up : after .endWord (ending [42, 43]) (fun t => ((t.order? 41).map (·.state), t.orders.interp.state,
    t.orders.interp.order, t.orders.runList, t.isPending .orderComplete)) =
    some (some .complete, .running, some 42, [43], true) := by decide

/-- The interpreter executes a word of order 41 at address 255. -/
def lastWord (w : ProgramWord) (calls : List Nat) (repeats : List RepeatFrame) : State :=
  { lineOn with orders := { lineOn.orders with
    table := [order 41 .active]
    program := lineOn.orders.program.set 255 w
    interp := { Interpreter.start with state := .running, order := some 41, pc := 255, calls := calls, repeats := repeats } } }

theorem witness_WordsFaultTheOrder :
    let word := fun s : State => s.orders.program[s.orders.interp.pc]
    let full := fun code b => atWord { code := code, a := 31, b := b } [1, 2, 3, 4]
      (List.replicate 4 { body := 1, left := none }) 0
    (∀ code ∈ [1, 2, 3, 4, 5, 6, 8], Executes (full code 256) 41 ∧ (word (full code 256)).code = code) ∧
    (word (full 1 0)).b = 0 ∧ 255 < (word (full 1 256)).b ∧ (word (full 1 255)).b ≤ 255 ∧
    (∀ r : Fin 32, r.val = (word (full 1 255)).a → (full 1 255).orders.recipes[r] = none) ∧
    (full 2 1).orders.interp.repeats.length = 4 ∧ (full 5 255).orders.interp.calls.length = 4 ∧
    (atWord { code := 3, a := 0, b := 0 } [] [] 0).orders.interp.repeats = [] ∧
    (atWord { code := 6, a := 0, b := 0 } [] [] 0).orders.interp.calls = [] ∧
    (let spun := fun code => atWord { code := code, a := 0, b := 255 } [255] [{ body := 255, left := some 2 }] 63
     ∀ code ∈ [2, 3, 4, 5, 6], Executes (spun code) 41 ∧ (spun code).orders.interp.spin = 63 ∧
      (word (spun code)).code = code ∧ (11 : Fin 256).val = (spun code).orders.interp.pc.val + 1) ∧
    (let last := fun code left => lastWord { code := code, a := 0, b := 1 } [256] [{ body := 256, left := left }]
     ∀ code ∈ [1, 2, 3, 4, 6, 7], ∀ left ∈ [none, some 1, some 2], Executes (last code left) 41 ∧
      (last code left).orders.interp.pc = 255 ∧ (word (last code left)).code = code ∧
      (last code left).orders.interp.repeats.getLast? = some { body := 256, left := left } ∧
      (last code left).orders.interp.calls.getLast? = some 256) ∧
    (let s := lastWord { code := 1, a := 5, b := 16 } [] []
     let e := { s with orders := { s.orders with recipes := s.orders.recipes.set 5 (some recipe) } }
     Executes e 41 ∧ e.orders.interp.pc = 255 ∧ word e = { code := 1, a := 5, b := 16 } ∧
      (e.orders.recipes[(5 : Fin 32)]).isSome = true ∧ (∀ k, (e.bay k).state ≠ .empty) ∧
      e.orders.queue.length + 16 ≤ 16 ∧ e.order? 41 = some (order 41 .active) ∧ (order 41 .active).emitted + 16 ≤ 65535) :=
  ⟨fun code h => ⟨executes_atWord _ _ _ _, by revert code; decide⟩, by decide, by decide, by decide, by decide, by decide,
    by decide, by decide, by decide,
    fun code h => ⟨executes_atWord _ _ _ _, rfl, by revert code; decide, rfl⟩,
    fun code h left _ => ⟨⟨rfl, rfl, rfl, rfl⟩, rfl, rfl, rfl, rfl⟩,
    ⟨⟨rfl, rfl, rfl, rfl⟩, by decide, by decide, by decide, by decide, by decide, by decide, by decide⟩⟩

theorem witness_EmissionFillsTheQueue :
    let s := order41 11 { Interpreter.start with spin := 2 } 15
    let waiting := fun n => ({ s with orders := { s.orders with
      interp := { s.orders.interp with state := .queueWait, remainder := n, recipe := 5 } } } : State)
    s.resetPin = false ∧ s.orders.interp.order = some 41 ∧ s.order? 41 = some (order 41 .active) ∧
    (12 : Fin 256).val = s.orders.interp.pc.val + 1 ∧ s.orders.queue.length ≤ 16 ∧ (∀ k, (s.bay k).state ≠ .empty) ∧
    (order 41 .active).emitted + min 2 (16 - s.orders.queue.length) ≤ 65535 ∧
    s.orders.interp.state = .running ∧ s.orders.interp.remainder = 0 ∧ s.orders.program[s.orders.interp.pc].code = 1 ∧
    s.orders.program[s.orders.interp.pc].a = (5 : Fin 32).val ∧ s.orders.program[s.orders.interp.pc].b = 2 ∧
    (s.orders.recipes[(5 : Fin 32)]).isSome = true ∧ (waiting 255).orders.interp.remainder = 255 ∧
    (waiting 1).orders.queue.length < 16 ∧ (waiting 1).orders.interp.state = .queueWait ∧
    (order41 11 Interpreter.start 16).orders.queue.length = 16 ∧
    (let e := withBay (order41 11 Interpreter.start 0) 2 (bayIn .empty)
     (e.bay 2).state = .empty ∧ (∀ j, j ≠ 2 → (e.bay j).state ≠ .empty) ∧ e.orders.queue = [] ∧
      e.orders.recipes[(5 : Fin 32)] = some recipe ∧ e.order? 41 = some (order 41 .active) ∧ 1 ≤ e.bundleSerial ∧
      e.bundleSerial ≤ 999999 ∧ e.labels.table.length ≤ 16 ∧ (order 41 .active).emitted + min 2 17 ≤ 65535) := by decide

/-- Order 41 with an emitted count and an interpreter on a BUNDLE word of 2, or in QUEUE_WAIT with 2 left. -/
def nearEnd (emitted : Nat) (waits : Bool) (run : List Nat) : State :=
  let s := order41 11 (if waits then { Interpreter.start with remainder := 2, recipe := 5 } else Interpreter.start) 3
  { s with orders := { s.orders with
    table := { order 41 .active with emitted := emitted } :: run.map (order · .loaded), runList := run
    interp := { s.orders.interp with state := if waits then .queueWait else .running } } }

theorem witness_EmissionFillsTheQueue_cut : ∀ emitted ∈ [65534, 65535], ∀ waits, ∀ run ∈ [[], [42]],
    let s := nearEnd emitted waits run
    s.resetPin = false ∧ s.orders.interp.order = some 41 ∧ s.order? 41 = some { order 41 .active with emitted := emitted } ∧
    (12 : Fin 256).val = s.orders.interp.pc.val + 1 ∧ (∀ k, (s.bay k).state ≠ .empty) ∧ emitted ≤ 65535 ∧
    65535 - emitted < 2 ∧ s.orders.queue.length + (65535 - emitted) < 16 ∧
    (waits = false → s.orders.interp.state = .running ∧ s.orders.interp.remainder = 0 ∧
      s.orders.program[s.orders.interp.pc] = { code := 1, a := 5, b := 2 } ∧ (s.orders.recipes[(5 : Fin 32)]).isSome = true) ∧
    (waits = true → s.orders.interp.remainder = 2 ∧ s.orders.interp.state = .queueWait) ∧ s.orders.runList = run ∧
    s.link.line = .running ∧ s.link.hold = false ∧ ∀ id ∈ run, s.order? id = some (order id .loaded) := by decide

/-- R162: the order that has emitted 65535 entries ends as at END with ORDER_FAULT raised and no fault code set. -/
theorem test_emission_cut : ∀ x ∈ [(false, Instr.bundleWord), (true, .emissionResume)],
    after x.2 (nearEnd 65534 x.1 [42]) (fun t => (((t.order? 41).map fun o => (o.state, o.emitted, o.faultCode)),
      t.isPending .orderFault, t.orders.queue.length, t.orders.interp.order)) =
    some (some (.emitted, 65535, none), true, 4, some 42) := by decide

/-- R168: an EMPTY bay takes the first of two entries as it joins the queue. -/
theorem test_emission_to_empty_bay : after .bundleWord (withBay (order41 11 Interpreter.start 0) 2 (bayIn .empty))
    (fun t => ((t.bay 2).state, t.orders.queue.length, (t.order? 41).map fun o => (o.emitted, o.opened),
      t.orders.interp.pc)) = some (.filling, 1, some (2, 1), 12) := by decide

theorem witness_CancelAndRetireOrder :
    let s := fun st => ({ lineOn with orders := { lineOn.orders with table := [{ order 41 st with settled := true }] } } : State)
    Receives lineOn (toBytes 2 0) ∧ (∀ st, Receives (s st) (toBytes 2 41)) ∧
    (∀ st ∈ [OrderState.loaded, .active, .emitted, .faulted, .complete, .cancelled],
      (found (s st)).order? 41 = some { order 41 st with settled := true }) ∧
    (found (interpIn .running)).order? 41 = some (order 41 .active) ∧ (found lineOn).order? 41 = none ∧
    (order 41 .cancelled).settled = false ∧
    (∀ b ∈ [{ bundle with committed := 1 }, { bundle with deposited := 2 }, { bundle with deposited := 1 }, bundle],
      let x := withBay (s .emitted) 2 (filling b)
      (x.bay 2).bundle = some b ∧ b.order = 41 ∧ (x.bay 2).state = .filling ∧ ∀ e ∈ x.orders.queue, e.order = 41) ∧
    bundle.total = 0 ∧ { bundle with deposited := 2 }.total = bundle.copy.target ∧
    (let x := withBay (s .emitted) 2 { bayIn .fault with origin := some .filling }
     (x.bay 2).state = .fault ∧ (x.bay 2).origin = some .filling ∧ (x.bay 2).bundle = some bundle) :=
  ⟨⟨by decide, by decide, by decide⟩, fun _ => ⟨rfl, by show ReceiverState.hunt ≠ .answering; decide, by decide⟩, by decide,
    by decide, by decide, by decide, by decide⟩

/-- Bays FILLING with a bundle that stays open, is complete, is short, and twice with nothing in a closing one; a bay in FAULT
with a bundle that is complete; the others DISABLED. Some entries of order 41 wait. -/
def outcomes (entries : Nat) : State :=
  let b := fun n : Nat => { bundle with serial := 2051 + n, committed := 1 }
  let bays := [filling (b 0), filling { b 1 with deposited := 2 }, filling { b 2 with deposited := 1, closing := true },
    filling { b 3 with closing := true }, filling { b 4 with closing := true },
    { filling { b 5 with deposited := 2 } with state := .fault, origin := some .filling }]
  { draining fourOptions with
    bays := Vector.ofFn fun k => (bays[k.val]?).getD Bay.start
    bundleSerial := 2057
    orders := { lineOn.orders with
      recipes := lineOn.orders.recipes.set 5 (some recipe), table := [{ order 41 .emitted with opened := 6 }]
      queue := List.replicate entries { order := 41, recipe := 5 } } }

theorem witness_ResetTrackingClearsTheTracking :
    (∀ n, Receives (outcomes n) []) ∧
    (let u := forgotten (outcomes 1)
     (∀ k : BayId, k.val < 5 → (u.bay k).state = .filling) ∧ (u.bay 5).state = .fault ∧ (u.bay 6).bundle = none ∧
      (∀ k : BayId, k.val < 6 → (u.bay k).bundle.map (·.serial) = some (2051 + k.val)) ∧
      u.orders.queue = { order := 41, recipe := 5 } :: [] ∧ u.orders.recipes[(5 : Fin 32)] = some recipe ∧
      u.order? 41 = some { order 41 .emitted with opened := 6 } ∧ 1 ≤ u.bundleSerial ∧ u.bundleSerial ≤ 999999 ∧
      u.labels.table.length ≤ 16) ∧
    (∀ k ∈ [(3 : BayId), 4], let b := { bundle with serial := 2051 + k.val, closing := true }
      ((forgotten (outcomes 0)).bay k).bundle = some b ∧ ClosesEmpty ((forgotten (outcomes 0)).bay k) b) ∧
    (forgotten (outcomes 0)).orders.queue = [] :=
  ⟨fun n => ⟨rfl, by show ReceiverState.hunt ≠ .answering; decide, by decide⟩, by decide, by simp only [ClosesEmpty]; decide,
    by decide⟩

/-- R151, R126, R176: the bays after RESET TRACKING, with one entry waiting: the first bay that closes empty takes it. -/
theorem test_reset_tracking_bays : after (.resetTracking []) (outcomes 1)
    (fun t => (allBays.map fun k => ((t.bay k).state, (t.bay k).bundle.map (·.serial)), t.orders.queue.length,
      (t.order? 41).map fun o => (o.closedEmpty, o.opened), t.link.line)) =
    some ([(.filling, some 2051), (.settling, some 2052), (.settling, some 2053), (.filling, some 2057), (.empty, none),
      (.fault, some 2056), (.disabled, none), (.disabled, none)], 0, some (2, 7), .running) := by decide

/-- R39, R120: the moulder goes to CHANGEOVER, and both heads, READY before, are sent step 0. -/
theorem test_reset_tracking_homes : after (.resetTracking []) (outcomes 0)
    (fun t => (t.moulder.state, t.headSide.state, t.tailSide.state, t.pulses, t.link.cause)) =
    some (.changeover, .homing, .homing, [.step .headSide 0, .step .tailSide 0], .tracking) := by decide

theorem witness_FramesDecodeToTheirCommand :
    (Instr.setMillId [1#8, 0x30#8]).wellFormed = true ∧
    encodeRequest (.setMillId [1#8, 0x30#8]) = some (requestFrame 0x07#8 [1#8, 0x30#8]) ∧ isRequestCode 0x75#8 = false ∧
    [0#8, 0#8] ≠ toBytes 2 (checkCode (toBytes 2 0 ++ 0x70#8 :: [])).toNat ∧ reportWellFormed (reportBytes 32) = true :=
  ⟨by decide, rfl, by decide, by decide +kernel, by decide +kernel⟩

theorem witness_invariants_meet_a_step :
    (∃ t, step { lineOn with pending := [.lugTick] } = .next t) ∧ lineOn.TagsUnique ∧ (interpIn .running).BooksBalance ∧
    (let s := withBay (strapping .busy (some 3) [2] .waitStrap) 3 (bayIn .strapping)
     { withBay s 4 (bayIn .labelWait) with labelWait := [4], pending := [.strapComplete 4] }.BayQueuesSound) ∧
    ({ lineOn with
      chain := { lineOn.chain with serial := 109 }, pending := [.lugTick]
      headSide := { Head.start with state := .ready, plan := [plunge 101 0, move 105 0] } } : State).PlansInWindow ∧
    ({ withBay lineOn 2 (committed [{ serial := 90, tag := 1 }, { serial := 105, tag := 2 }] none) with
      chain := { lineOn.chain with serial := 109 }, pending := [.lugTick] } : State).PlannedInWindow :=
  ⟨⟨_, rfl⟩, by constructor <;> decide, by constructor <;> decide, by constructor <;> decide,
    ⟨by decide, fun h => by cases h <;> decide, fun h => by cases h <;> decide, fun h => by cases h <;> decide⟩,
    ⟨by decide, by decide, by decide⟩⟩

end Sys2Proof.Tests
end

section
/-! PROOF. The requests START LINE, STOP LINE, HOLD INFEED and RELEASE INFEED. -/

namespace Sys2Proof.Machine

open Sys2Proof

variable (s : State)

/-! ## The pause condition, the gate condition, and what a change of the pause touches (8.4, R36, R159, R166) -/

/-- The pause condition is clear on a RUNNING line outside LINK_HOLD. -/
theorem pauseCondition_eq_false_iff : s.pauseCondition = false ↔ s.link.line = .running ∧ s.link.hold = false := by
  simp [State.pauseCondition]

/-- A line that is not RUNNING pauses. -/
theorem pauseCondition_of_line_ne (h : s.link.line ≠ .running) : s.pauseCondition = true := by
  simp [State.pauseCondition, h]

/-- The gate condition needs a RUNNING line (R36). -/
theorem gateCondition_of_line_ne (h : s.link.line ≠ .running) : s.gateCondition = false := by
  simp [State.gateCondition, h]

/-- The interpreter pauses within the order unit. -/
theorem pauseInterp_frame : pauseInterp s = { s with orders := (pauseInterp s).orders } := by
  unfold pauseInterp; split <;> rfl

/-- An order is taken up within the order unit. -/
theorem takeUpFront_frame : takeUpFront s = { s with orders := (takeUpFront s).orders } := by
  unfold takeUpFront; split <;> rfl

/-- A change of the pause condition acts within the order unit. -/
theorem pauseChanged_frame : pauseChanged s = { s with orders := (pauseChanged s).orders } := by
  obtain ⟨-, h⟩ | ⟨-, -, h⟩ | ⟨-, -, h⟩ := pauseChanged_cases s
  · rw [h]; exact pauseInterp_frame s
  · rw [h]; rfl
  · obtain h' | ⟨-, h'⟩ := takeUp_cases s
    · rw [h, h']
    · rw [h, h']; exact takeUpFront_frame s

@[simp] theorem pauseChanged_link : (pauseChanged s).link = s.link := by rw [pauseChanged_frame]
@[simp] theorem pauseChanged_lineal : (pauseChanged s).lineal = s.lineal := by rw [pauseChanged_frame]

/-- Under the pause condition a RUNNING or QUEUE_WAIT interpreter is PAUSED (R166). -/
theorem pauseChanged_orders_of_pause (h : s.pauseCondition = true) :
    (pauseChanged s).orders = { s.orders with interp :=
      if s.orders.interp.state = .running ∨ s.orders.interp.state = .queueWait then
        { s.orders.interp with state := .paused } else s.orders.interp } := by
  simp only [pauseChanged, h, if_true, pauseInterp]
  split <;> rfl

/-- Outside the pause condition a PAUSED interpreter resumes (R166). -/
theorem pauseChanged_of_paused (h : s.pauseCondition = false) (hi : s.orders.interp.state = .paused) :
    pauseChanged s = resumePaused s := by
  simp [pauseChanged, resumeDue, h, hi]

/-- Outside the pause condition an interpreter that is not PAUSED takes up an order, if one is due (R159). -/
theorem pauseChanged_of_not_paused (h : s.pauseCondition = false) (hi : s.orders.interp.state ≠ .paused) :
    pauseChanged s = takeUp s := by
  simp [pauseChanged, resumeDue, h, hi]

/-- A take-up is due for an IDLE interpreter outside the pause condition with a run list (R159). -/
theorem takeUpDue_iff :
    takeUpDue s = true ↔ s.orders.interp.state = .idle ∧ s.pauseCondition = false ∧ s.orders.runList ≠ [] := by
  simp [takeUpDue, and_assoc]

/-- No take-up is due for an interpreter that is not IDLE, or without a run list (R159). -/
theorem takeUp_of_busy_or_empty (h : s.orders.interp.state ≠ .idle ∨ s.orders.runList = []) : takeUp s = s := by
  have hdue : ¬ takeUpDue s = true := by
    rw [takeUpDue_iff]
    rintro ⟨hidle, -, hrun⟩
    exact h.elim (· hidle) hrun
  simp [takeUp, hdue]

/-! ## A request that is heard (R193, R203) -/

/-- Hearing a request acts on the line link unit's record, and on the order unit when LINK_HOLD ends. -/
theorem heard_frame :
    heard s = { s with link := { s.link with watchdog := s.limits.watchdogStart, hold := false }
                       orders := (heard s).orders } := by
  cases h : s.link.hold with
  | false => rw [heard_clear s h]; rfl
  | true => simp only [heard, h, if_true]; exact pauseChanged_frame _

@[simp] theorem heard_line : (heard s).link.line = s.link.line := by rw [heard_frame]
@[simp] theorem heard_hold : (heard s).link.hold = false := by rw [heard_frame]
@[simp] theorem heard_lineal : (heard s).lineal = s.lineal := by rw [heard_frame]

/-! ## The line state (R195) -/

/-- The line state changes in the link unit's record, with its effect on the order unit. -/
theorem setLine_frame (v : LineState) :
    setLine v s = { s with link := { s.link with line := v }, orders := (setLine v s).orders } :=
  pauseChanged_frame _

@[simp] theorem setLine_line (v : LineState) : (setLine v s).link.line = v := by rw [setLine_frame]

/-- A line that leaves RUNNING pauses a RUNNING or QUEUE_WAIT interpreter (R166). -/
theorem setLine_orders_of_ne {v : LineState} (h : v ≠ .running) :
    (setLine v s).orders = { s.orders with interp :=
      if s.orders.interp.state = .running ∨ s.orders.interp.state = .queueWait then
        { s.orders.interp with state := .paused } else s.orders.interp } :=
  pauseChanged_orders_of_pause _ (pauseCondition_of_line_ne _ h)

/-- The line comes to RUNNING outside LINK_HOLD: no pause condition holds. -/
theorem pauseCondition_line_running (h : s.link.hold = false) :
    (s.updLink fun l => { l with line := .running }).pauseCondition = false :=
  (pauseCondition_eq_false_iff _).mpr ⟨rfl, h⟩

/-- A PAUSED interpreter resumes when the line comes to RUNNING outside LINK_HOLD (R166). -/
theorem setLine_running_orders_of_paused (h : s.link.hold = false) (hi : s.orders.interp.state = .paused) :
    (setLine .running s).orders = { s.orders with interp := { s.orders.interp with
      state := if 0 < s.orders.interp.remainder ∧ 16 ≤ s.orders.queue.length then .queueWait else .running } } := by
  rw [setLine, pauseChanged_of_paused _ (pauseCondition_line_running s h) hi]
  rfl

/-- An interpreter that is not PAUSED, and not IDLE or without a run list, stays when the line comes to RUNNING (R159,
R166). -/
theorem setLine_running_orders_of_stays (h : s.link.hold = false) (hi : s.orders.interp.state ≠ .paused)
    (hn : s.orders.interp.state ≠ .idle ∨ s.orders.runList = []) : (setLine .running s).orders = s.orders := by
  rw [setLine, pauseChanged_of_not_paused _ (pauseCondition_line_running s h) hi,
    takeUp_of_busy_or_empty (s.updLink _) hn]
  rfl

end Sys2Proof.Machine

namespace Sys2Proof.Claims

open Sys2Proof Sys2Proof.Machine

/-! ## Requests as the claims name their outcomes -/

/-- An OK answer is `okOf`. -/
theorem answer_ok (c : Byte) (p : List Byte) (h : State) : answer c .ok p h = okOf c p h := rfl

/-- A refusal is answered as `refusedOf` (R194). -/
theorem answer_refused (c : Byte) {e : Status} (he : e ≠ .ok) (h : State) : answer c e [] h = refusedOf c e h := by
  cases e with
  | ok => exact absurd rfl he
  | _ => rfl

@[simp] theorem okOf_line (c : Byte) (p : List Byte) (h : State) : (okOf c p h).link.line = h.link.line := rfl

/-- A received request of a right length is answered as its block replies in the state `found` (R193). -/
theorem takeEvent_request {s : State} {p : List Byte} (hr : Receives s p) (c : Byte) {ok : Nat → Bool}
    (f : List Byte → State → Reply) (ho : ok p.length = true) :
    takeEvent (request c ok f p) s = .next (respond c (found s) (f p (found s))) := by
  obtain ⟨hpin, hreceiver, hlength⟩ := hr
  rw [takeEvent_run s _ hpin, request_taken s.clearPulses c ok f p hreceiver hlength ho]
  rfl

/-- A received request that its block takes is answered OK with an empty payload. -/
theorem takeEvent_request_taken {s t : State} {p : List Byte} (hr : Receives s p) (c : Byte) {ok : Nat → Bool}
    {f : List Byte → State → Reply} (ho : ok p.length = true) (hf : f p (found s) = taken t) :
    takeEvent (request c ok f p) s = .next (okOf c [] t) := by
  rw [takeEvent_request hr c f ho, hf]
  exact congrArg _ (answer_ok c [] t)

/-- A received request that its block refuses is answered with the refusal. -/
theorem takeEvent_request_refused {s : State} {p : List Byte} (hr : Receives s p) (c : Byte) {ok : Nat → Bool}
    {f : List Byte → State → Reply} (ho : ok p.length = true) {e : Status} (he : e ≠ .ok)
    (hf : f p (found s) = .error e) : takeEvent (request c ok f p) s = .next (refusedOf c e (found s)) := by
  rw [takeEvent_request hr c f ho, hf]
  exact congrArg _ (answer_refused c he _)

@[simp] theorem found_line (s : State) : (found s).link.line = s.link.line := heard_line _
@[simp] theorem found_hold (s : State) : (found s).link.hold = false := heard_hold _
@[simp] theorem found_lineal (s : State) : (found s).lineal = s.lineal := heard_lineal _

/-! ## The replies to the four requests (R195, R37) -/

theorem startLine_unconfigured {h : State} (hl : h.link.line = .unconfigured) (p : List Byte) :
    startLine p h = .error .notConfigured := by simp [startLine, hl]

theorem startLine_stopped {h : State} (hl : h.link.line = .stopped) (p : List Byte) :
    startLine p h = taken (setLine .running h) := by simp [startLine, hl]

theorem startLine_running {h : State} (hl : h.link.line = .running) (p : List Byte) :
    startLine p h = .error .wrongState := by simp [startLine, hl]

theorem stopLine_unconfigured {h : State} (hl : h.link.line = .unconfigured) (p : List Byte) :
    stopLine p h = .error .notConfigured := by simp [stopLine, hl]

theorem stopLine_stopped {h : State} (hl : h.link.line = .stopped) (p : List Byte) :
    stopLine p h = .error .wrongState := by simp [stopLine, hl]

theorem stopLine_running {h : State} (hl : h.link.line = .running) (p : List Byte) :
    stopLine p h = taken (setLine .stopped h) := by simp [stopLine, hl]

/-! ## The answers in each line state -/

/-- The OK answer after a change of the line state: the link unit's record, its count and the order unit. -/
theorem okOf_setLine (c : Byte) (v : LineState) (h : State) :
    okOf c [] (setLine v h) = { okOf c [] h with
      link := { (okOf c [] h).link with line := v }, orders := (setLine v h).orders } := by
  rw [setLine_frame h v]
  rfl

/-- The front order of the run list is taken up by an IDLE interpreter when the line comes to RUNNING outside LINK_HOLD
(R159). -/
theorem setLine_running_orders_of_takeUp {h : State} (hh : h.link.hold = false) {id : Nat} {rest : List Nat} {o : Order}
    (hi : h.orders.interp.state = .idle) (hrun : h.orders.runList = id :: rest) (ho : h.order? id = some o) :
    (setLine .running h).orders = (takenUp h id rest o.start).orders := by
  have hpause := pauseCondition_line_running h hh
  have hdue : takeUpDue (h.updLink fun l => { l with line := .running }) = true :=
    (takeUpDue_iff _).mpr ⟨hi, hpause, by simp [hrun]⟩
  have hstart : (h.updLink fun l => { l with line := .running }).order? id = some o := ho
  rw [setLine, pauseChanged_of_not_paused _ hpause (by simp [hi]), takeUp, if_pos hdue]
  simp [takeUpFront, hrun, hstart, takenUp, tookUp, State.updOrder]

/-- START LINE on a STOPPED line is answered OK (R195). -/
theorem exec_startLine_stopped {s : State} (hr : Receives s []) (hl : s.link.line = .stopped) :
    exec (.startLine []) s = .next (okOf 0x10#8 [] (setLine .running (found s))) :=
  takeEvent_request_taken hr 0x10#8 rfl (startLine_stopped ((found_line s).trans hl) [])

/-- STOP LINE on a RUNNING line is answered OK (R195). -/
theorem exec_stopLine_running {s : State} (hr : Receives s []) (hl : s.link.line = .running) :
    exec (.stopLine []) s = .next (okOf 0x11#8 [] (setLine .stopped (found s))) :=
  takeEvent_request_taken hr 0x11#8 rfl (stopLine_running ((found_line s).trans hl) [])

/-- START LINE is refused as its reply says (R195). -/
theorem exec_startLine_refused {s : State} (hr : Receives s []) {e : Status} (he : e ≠ .ok)
    (hf : startLine [] (found s) = .error e) : exec (.startLine []) s = .next (refusedOf 0x10#8 e (found s)) :=
  takeEvent_request_refused hr 0x10#8 rfl he hf

/-- STOP LINE is refused as its reply says (R195). -/
theorem exec_stopLine_refused {s : State} (hr : Receives s []) {e : Status} (he : e ≠ .ok)
    (hf : stopLine [] (found s) = .error e) : exec (.stopLine []) s = .next (refusedOf 0x11#8 e (found s)) :=
  takeEvent_request_refused hr 0x11#8 rfl he hf

/-- HOLD INFEED sets the infeed hold in every state (R37). -/
theorem exec_holdInfeed {s : State} (hr : Receives s []) :
    exec (.holdInfeed []) s =
      .next (okOf 0x12#8 [] { found s with lineal := { s.lineal with infeedHold := true } }) := by
  rw [← found_lineal]
  exact takeEvent_request_taken hr 0x12#8 (f := holdInfeed) rfl rfl

/-- RELEASE INFEED clears the infeed hold in every state (R37). -/
theorem exec_releaseInfeed {s : State} (hr : Receives s []) :
    exec (.releaseInfeed []) s =
      .next (okOf 0x13#8 [] { found s with lineal := { s.lineal with infeedHold := false } }) := by
  rw [← found_lineal]
  exact takeEvent_request_taken hr 0x13#8 (f := releaseInfeed) rfl rfl

/-- Settles O15, by the reply of each request in each line state; the order unit follows the change of the pause
condition. -/
theorem lineAndInfeedRequests : Obligations.LineAndInfeedRequests := by
  intro s hr
  refine ⟨fun hl => ?start, fun hl => ?stop, fun hl => ?unconfigured, fun hl => ?startRefused, fun hl => ?stopRefused,
    exec_holdInfeed hr, exec_releaseInfeed hr⟩
  case start =>
    refine ⟨_, ⟨exec_startLine_stopped hr hl, okOf_setLine _ _ _⟩, ?paused, ?idle, ?stays⟩
    case paused => exact setLine_running_orders_of_paused _ (found_hold s)
    case idle => exact fun id rest o hi hrun ho => setLine_running_orders_of_takeUp (found_hold s) hi hrun ho
    case stays => exact setLine_running_orders_of_stays _ (found_hold s)
  case stop =>
    exact ⟨_, ⟨exec_stopLine_running hr hl, okOf_setLine _ _ _⟩, gateCondition_of_line_ne _ (by simp),
      setLine_orders_of_ne _ (by decide)⟩
  case unconfigured =>
    have hfound : (found s).link.line = .unconfigured := (found_line s).trans hl
    exact ⟨exec_startLine_refused hr (by decide) (startLine_unconfigured hfound []),
      exec_stopLine_refused hr (by decide) (stopLine_unconfigured hfound [])⟩
  case startRefused => exact exec_startLine_refused hr (by decide) (startLine_running ((found_line s).trans hl) [])
  case stopRefused => exact exec_stopLine_refused hr (by decide) (stopLine_stopped ((found_line s).trans hl) [])

end Sys2Proof.Claims
end

section
/-! PROOF. The outcomes of a match, and the report part that is written. -/

namespace Sys2Proof.Machine

open Sys2Proof

variable (s : State)

/-! ## What a pass reads (R45) -/

/-- The nearest of some strips does not depend on the pulses. -/
@[simp] theorem State.nearest_clearPulses (q : Report) (l : List Strip) : s.clearPulses.nearest q l = s.nearest q l := by
  induction l with
  | nil => rfl
  | cons r rest ih => simp only [State.nearest, ih]; rfl

/-- A pass does not depend on the pulses. -/
@[simp] theorem State.pass_clearPulses (q : Report) (set : Strip → Bool) : s.clearPulses.pass q set = s.pass q set :=
  s.nearest_clearPulses q _

/-! ## The first pass that finds a strip gives the outcome (R45 to R47) -/

section Outcome

variable {s : State} {q : Report} {r : Strip}

theorem matchOutcome_of_candidate (hc : s.pass q Strip.isCandidate = some r) : matchOutcome q s = matched q r s := by
  simp [matchOutcome, hc]

theorem matchOutcome_of_late (hc : s.pass q Strip.isCandidate = none) (hl : s.pass q Strip.isLate = some r) :
    matchOutcome q s = lateReport r s := by
  simp [matchOutcome, hc, hl]

theorem matchOutcome_of_duplicate (hc : s.pass q Strip.isCandidate = none) (hl : s.pass q Strip.isLate = none)
    (hd : s.pass q Strip.isDuplicate = some r) : matchOutcome q s = s.bump .reportDuplicate := by
  simp [matchOutcome, hc, hl, hd]

theorem matchOutcome_of_orphan (hc : s.pass q Strip.isCandidate = none) (hl : s.pass q Strip.isLate = none)
    (hd : s.pass q Strip.isDuplicate = none) :
    matchOutcome q s = (s.bump .reportOrphan).raise .reportOrphan := by
  simp [matchOutcome, hc, hl, hd]

end Outcome

/-! ## The report leaves the buffer, before or after its outcome is written (R43) -/

theorem leaveBuffer_bump (c : Counter) : leaveBuffer (s.bump c) = (leaveBuffer s).bump c := rfl

theorem leaveBuffer_raise (n : Notice) : leaveBuffer (s.raise n) = (leaveBuffer s).raise n := rfl

theorem leaveBuffer_lateReport (r : Strip) : leaveBuffer (lateReport r s) = lateReport r (leaveBuffer s) := rfl

theorem leaveBuffer_matched (q : Report) (r : Strip) : leaveBuffer (matched q r s) = matched q r (leaveBuffer s) := by
  simp only [matched]
  split <;> rfl

/-- The front report leaves: the rest stays, and the matcher goes on while it is not empty. -/
theorem leaveBuffer_of_buffer {q : Report} {rest : List Report} (hb : s.matcher.buffer = q :: rest) :
    leaveBuffer s = { s with matcher := { s.matcher with buffer := rest, matching := !rest.isEmpty } } := by
  simp [leaveBuffer, State.updMatcher, hb]

/-- A MATCHING matcher completes with the outcome of the front report, which leaves the buffer. -/
theorem matchCompletion_of_buffer {q : Report} {rest : List Report} (hm : s.matcher.matching = true)
    (hb : s.matcher.buffer = q :: rest) : matchCompletion s = leaveBuffer (matchOutcome q s) := by
  simp [matchCompletion, hm, hb]

/-! ## The sets of the three passes, as tests that answer a Bool (R45, R46) -/

theorem isCandidate_eq :
    Strip.isCandidate = fun r => (r.state == .lineal || r.state == .loaded) && r.report.isNone := by
  funext r
  cases h : r.report <;> simp [Strip.isCandidate, h, beq_eq_decide]

theorem isLate_eq : Strip.isLate = fun r => (r.state == .decided || r.state == .trimmed) && r.report.isNone := by
  funext r
  cases h : r.report <;> simp [Strip.isLate, h, beq_eq_decide]

theorem isDuplicate_eq : Strip.isDuplicate = fun r => r.state != .entering && r.report.isSome := by
  funext r
  simp [Strip.isDuplicate, bne, beq_eq_decide]

end Sys2Proof.Machine

namespace Sys2Proof.Claims

open Sys2Proof Sys2Proof.Machine

/-- The state in which the front report has left the buffer, with nothing written of its outcome. -/
def reportLeft (s : State) (rest : List Report) : State :=
  { entered s with matcher := { s.matcher with buffer := rest, matching := !rest.isEmpty } }

section Completion

variable {s : State} {q : Report} {rest : List Report} (hpin : s.resetPin = false)
  (hm : s.matcher.matching = true) (hb : s.matcher.buffer = q :: rest)

include hb in
theorem leaveBuffer_clearPulses : leaveBuffer s.clearPulses = reportLeft s rest :=
  leaveBuffer_of_buffer s.clearPulses hb

include hpin hm hb

/-- A match completes: the outcome of the front report is written and the report leaves the buffer (R43). -/
theorem exec_matchCompletion :
    exec .matchCompletion s = .next (leaveBuffer (matchOutcome q s.clearPulses)) := by
  rw [← matchCompletion_of_buffer s.clearPulses hm hb]
  exact takeEvent_run s matchCompletion hpin

/-- MATCHED: the part is written to the candidate (R45, R50). -/
theorem exec_matchCompletion_matched {r : Strip} (hc : s.pass q Strip.isCandidate = some r) :
    exec .matchCompletion s = .next (matched q r (reportLeft s rest)) := by
  rw [exec_matchCompletion hpin hm hb, matchOutcome_of_candidate (by simpa using hc), leaveBuffer_matched,
    leaveBuffer_clearPulses hb]

/-- LATE: the strip is marked (R46). -/
theorem exec_matchCompletion_late {r : Strip} (hc : s.pass q Strip.isCandidate = none)
    (hl : s.pass q Strip.isLate = some r) :
    exec .matchCompletion s = .next (lateReport r (reportLeft s rest)) := by
  rw [exec_matchCompletion hpin hm hb, matchOutcome_of_late (by simpa using hc) (by simpa using hl),
    leaveBuffer_lateReport, leaveBuffer_clearPulses hb]

/-- DUPLICATE: only counted (R46, R47). -/
theorem exec_matchCompletion_duplicate {r : Strip} (hc : s.pass q Strip.isCandidate = none)
    (hl : s.pass q Strip.isLate = none) (hd : s.pass q Strip.isDuplicate = some r) :
    exec .matchCompletion s = .next ((reportLeft s rest).bump .reportDuplicate) := by
  rw [exec_matchCompletion hpin hm hb,
    matchOutcome_of_duplicate (by simpa using hc) (by simpa using hl) (by simpa using hd), leaveBuffer_bump,
    leaveBuffer_clearPulses hb]

/-- ORPHAN: counted, with its notice (R46, R47). -/
theorem exec_matchCompletion_orphan (hc : s.pass q Strip.isCandidate = none)
    (hl : s.pass q Strip.isLate = none) (hd : s.pass q Strip.isDuplicate = none) :
    exec .matchCompletion s = .next (((reportLeft s rest).bump .reportOrphan).raise .reportOrphan) := by
  rw [exec_matchCompletion hpin hm hb,
    matchOutcome_of_orphan (by simpa using hc) (by simpa using hl) (by simpa using hd), leaveBuffer_raise,
    leaveBuffer_bump, leaveBuffer_clearPulses hb]

end Completion

/-- What MATCHED writes for a strip of measured length lm: the record's part, the counters of the match and of the
discarded entries, and the overflow's counter (R49, R50). -/
theorem matched_of_length {r : Strip} {lm : Nat} (h : r.lm = some lm) (q : Report) (s : State) :
    matched q r s =
      let t := ((s.updStrip r.tag fun x => { x with report := some (reportPart lm q) }).bump .reportMatched).bumpBy
        .defectsDiscarded (reportPart lm q).discarded
      if (reportPart lm q).overflow then t.bump .reportOverflow else t := by
  simp only [matched, h, Option.getD_some]

/-- Settles O28, by the first of the three passes that finds a strip. -/
theorem matchOutcomes : Obligations.MatchOutcomes := by
  intro s q rest hpin hm hb after candidate late again kept part
  have hcandidate : Strip.isCandidate = candidate := isCandidate_eq
  have hlate : Strip.isLate = late := isLate_eq
  have hagain : Strip.isDuplicate = again := isDuplicate_eq
  have hpart : ∀ lm, reportPart lm q = part lm := fun _ => rfl
  rw [← hcandidate, ← hlate, ← hagain]
  refine ⟨fun r lm hc hlm => ?matched, fun r hc hl => ?late, fun r hc hl hd => ?duplicate, fun hc hl hd => ?orphan⟩
  case matched =>
    rw [exec_matchCompletion_matched hpin hm hb hc, matched_of_length hlm, hpart]
    rfl
  case late => exact exec_matchCompletion_late hpin hm hb hc hl
  case duplicate => exact exec_matchCompletion_duplicate hpin hm hb hc hl hd
  case orphan => exact exec_matchCompletion_orphan hpin hm hb hc hl hd

end Sys2Proof.Claims
end

section
/-! PROOF. The options, their reach and their ranking: which option is chosen. -/

namespace Sys2Proof.Machine

open Sys2Proof

/-! ## The 64 options and reach (R77 to R79) -/

theorem mem_allSteps (step : Nat) : step ∈ allSteps ↔ step ≤ 7 := by
  simp only [allSteps, List.mem_cons, List.not_mem_nil, or_false]
  omega

theorem mem_allOptions (o : TrimOption) : o ∈ allOptions ↔ o.headStep ≤ 7 ∧ o.tailStep ≤ 7 := by
  simp only [allOptions, List.mem_flatMap, List.mem_map, mem_allSteps]
  constructor
  · rintro ⟨a, ha, b, hb, rfl⟩
    exact ⟨ha, hb⟩
  · rintro ⟨ha, hb⟩
    exact ⟨_, ha, _, hb, rfl⟩

/-- The difference of the steps without its sign, as two bounds on the signed difference (R79). -/
theorem Reference.reaches_iff (ref : Reference) (speed : Nat) (n : Serial) (step : Nat) :
    ref.reaches speed n step = true ↔ (step : Int) - ref.step ≤ speed * (n - ref.serial).toNat ∧
      (ref.step : Int) - step ≤ speed * (n - ref.serial).toNat := by
  rw [Reference.reaches, decide_eq_true_iff, ← Int.natCast_mul]
  omega

/-- A head with a reference reaches what the reference reaches (R78). -/
theorem Head.reaches_of_reference {r : Head} {ref : Reference} (h : r.reference = some ref) (speed : Nat) (n : Serial)
    (step : Nat) : r.reaches speed n step = ref.reaches speed n step := by
  simp only [Head.reaches, h]

theorem State.valid_iff (s : State) (lm : Nat) (n : Serial) (o : TrimOption) :
    s.valid lm n o = true ↔ Config.shortestFinished ≤ o.lf lm ∧
      s.headSide.reaches s.limits.speed n o.headStep = true ∧ s.tailSide.reaches s.limits.speed n o.tailStep = true := by
  simp only [State.valid, Bool.and_eq_true, decide_eq_true_iff, and_assoc]

/-! ## Value (R86, R87) -/

theorem mem_allBays (k : BayId) : k ∈ allBays := by
  revert k
  decide

theorem State.wanted_iff (s : State) (q : Grading) (g : Grade) (band : Nat) :
    s.wanted q g band = true ↔ ∃ k, s.accepts k g band q.species q.profile = true := by
  simp only [State.wanted, List.any_eq_true, mem_allBays, true_and]

theorem State.rate_value (s : State) (q : Grading) (o : TrimOption) :
    (s.rate q o).value = s.optionValue q (o.lf q.lm) (s.optionGrade q o) := rfl

/-! ## The ranking as a linear order (R88) -/

/-- The four criteria of R88 as one lexicographic key; an option with a greater key ranks earlier. -/
def RankedOption.key (a : RankedOption) : ℕ ×ₗ ℕ ×ₗ ℕᵒᵈ ×ₗ ℕᵒᵈ :=
  toLex (a.value, toLex (a.lf, toLex (OrderDual.toDual a.option.headStep, OrderDual.toDual a.option.tailStep)))

theorem RankedOption.before_iff_key_lt (a b : RankedOption) : a.before b = true ↔ b.key < a.key := by
  simp only [RankedOption.before, RankedOption.key, Prod.Lex.toLex_lt_toLex, OrderDual.toDual_lt_toDual,
    OrderDual.toDual_inj]
  split_ifs <;> simp only [decide_eq_true_iff] <;> omega

/-- Options of equal keys have equal steps. -/
theorem RankedOption.option_eq_of_key_eq {a b : RankedOption} (h : a.key = b.key) : a.option = b.option := by
  simp only [RankedOption.key, EmbeddingLike.apply_eq_iff_eq, Prod.mk.injEq] at h
  obtain ⟨-, -, hhead, htail⟩ := h
  exact congrArg₂ TrimOption.mk hhead htail

theorem firstRanked_eq_none_iff (l : List RankedOption) : firstRanked l = none ↔ l = [] := by
  cases l with
  | nil => simp [firstRanked]
  | cons a rest =>
    simp only [firstRanked, reduceCtorEq, iff_false]
    split
    · split <;> exact Option.some_ne_none _
    · exact Option.some_ne_none _

/-- The first of a list is one of the list, and its key is the greatest. -/
theorem mem_and_key_le_of_firstRanked {l : List RankedOption} {o : RankedOption} (h : firstRanked l = some o) :
    o ∈ l ∧ ∀ x ∈ l, x.key ≤ o.key := by
  induction l generalizing o with
  | nil => simp [firstRanked] at h
  | cons a rest ih =>
    cases hrest : firstRanked rest with
    | none =>
      obtain rfl := (firstRanked_eq_none_iff rest).mp hrest
      obtain rfl : a = o := Option.some.inj h
      simp
    | some b =>
      obtain ⟨hmem, hmax⟩ := ih hrest
      simp only [firstRanked, hrest] at h
      split at h <;> obtain rfl := Option.some.inj h
      next hba =>
        have hlt := (RankedOption.before_iff_key_lt _ _).mp hba
        exact ⟨List.mem_cons_of_mem _ hmem, List.forall_mem_cons.mpr ⟨hlt.le, hmax⟩⟩
      next hba =>
        have hle := not_lt.mp (mt (RankedOption.before_iff_key_lt _ _).mpr hba)
        exact ⟨List.mem_cons_self, List.forall_mem_cons.mpr ⟨le_rfl, fun x hx => (hmax x hx).trans hle⟩⟩

/-- The first of a list ranks before each of the list with other steps. -/
theorem before_of_firstRanked {l : List RankedOption} {o x : RankedOption} (h : firstRanked l = some o) (hx : x ∈ l)
    (hne : x.option ≠ o.option) : o.before x = true := by
  have hle := (mem_and_key_le_of_firstRanked h).2 x hx
  exact (RankedOption.before_iff_key_lt o x).mpr (hle.lt_of_ne (mt RankedOption.option_eq_of_key_eq hne))

/-! ## The chosen option (R77, R88) -/

theorem State.mem_rated_iff (s : State) (q : Grading) (n : Serial) (x : RankedOption) :
    x ∈ (allOptions.filter (s.valid q.lm n)).map (s.rate q) ↔
      ∃ p ∈ allOptions, s.valid q.lm n p = true ∧ s.rate q p = x := by
  simp only [List.mem_map, List.mem_filter, and_assoc]

theorem State.ranking_eq_none_iff (s : State) (q : Grading) (n : Serial) :
    s.ranking q n = none ↔ ∀ p ∈ allOptions, s.valid q.lm n p = false := by
  simp only [State.ranking, firstRanked_eq_none_iff, List.map_eq_nil_iff, List.filter_eq_nil_iff,
    Bool.not_eq_true]

end Sys2Proof.Machine

namespace Sys2Proof.Claims

open Sys2Proof Sys2Proof.Machine

/-- What the chosen option is: a valid one, as rated, before every other valid one. -/
theorem chosen_of_ranking {s : State} {q : Grading} {n : Serial} {o : RankedOption} (h : s.ranking q n = some o) :
    o.option ∈ allOptions ∧ s.valid q.lm n o.option = true ∧ o = s.rate q o.option ∧
      ∀ p ∈ allOptions, s.valid q.lm n p = true → p ≠ o.option → o.before (s.rate q p) = true := by
  obtain ⟨p, hp, hvalid, rfl⟩ := (s.mem_rated_iff q n o).mp (mem_and_key_le_of_firstRanked h).1
  refine ⟨hp, hvalid, rfl, fun x hx hxv hne => ?_⟩
  exact before_of_firstRanked h ((s.mem_rated_iff q n _).mpr ⟨x, hx, hxv, rfl⟩) hne

/-- Settles O34: the ranking is a linear order, in which firstRanked finds the greatest. -/
theorem chosenOptionRanksFirst : Obligations.ChosenOptionRanksFirst := by
  intro s q n
  refine ⟨fun o => chosen_of_ranking, s.ranking_eq_none_iff q n, mem_allOptions, ?reach, ?value⟩
  case reach =>
    intro p r1 r2 h1 h2
    rw [s.valid_iff, Head.reaches_of_reference h1, Head.reaches_of_reference h2, r1.reaches_iff, r2.reaches_iff,
      TrimOption.lf, trimOf, trimOf, and_assoc]
    rfl
  case value =>
    intro p
    rw [s.rate_value]
    cases s.optionGrade q p with
    | none => rfl
    | some g => simp only [State.optionValue, s.wanted_iff, bandOf]

end Sys2Proof.Claims
end

section
/-! PROOF. The grade of an option and the points of a defect. -/

namespace Sys2Proof.Machine

open Sys2Proof

/-! ## A defect's points (R82) -/

/-- A defect's points before the end zones are regarded: those of its size, halved and rounded up on EDGE. -/
def Defect.facePoints (d : Defect) (c : ClassPoints) : Nat :=
  match d.face with
  | .top => c.base d.size
  | .edge => c.base d.size - c.base d.size / 2

/-- A defect overlaps the head end zone or the tail end zone of an option. -/
def Defect.InEndZone (d : Defect) (lm zone : Nat) (o : TrimOption) : Prop :=
  (d.x < o.start + zone ∧ o.start < d.x + d.extent) ∨ (d.x < o.stop lm ∧ o.stop lm - zone < d.x + d.extent)

theorem Defect.overlaps_iff (d : Defect) (a b : Nat) : d.overlaps a b = true ↔ d.x < b ∧ a < d.x + d.extent := by
  simp only [Defect.overlaps, Bool.and_eq_true, decide_eq_true_iff]

theorem Defect.points_of_endZone {d : Defect} {c : ClassPoints} {lm zone : Nat} {o : TrimOption}
    (hc : c.endSensitive = true) (hzone : 0 < zone) (hin : d.InEndZone lm zone o) :
    d.points c lm zone o = 2 * d.facePoints c := by
  rw [Defect.InEndZone, ← d.overlaps_iff, ← d.overlaps_iff, ← Bool.or_eq_true] at hin
  simp only [Defect.points, Defect.facePoints, hc, hzone, hin, decide_true, Bool.and_self, if_true]
  cases d.face <;> dsimp only <;> omega

theorem Defect.points_of_not_doubled {d : Defect} {c : ClassPoints} {lm zone : Nat} {o : TrimOption}
    (h : c.endSensitive = false ∨ zone = 0 ∨ ¬ d.InEndZone lm zone o) : d.points c lm zone o = d.facePoints c := by
  rw [Defect.InEndZone, ← d.overlaps_iff, ← d.overlaps_iff, ← Bool.or_eq_true, ← Nat.le_zero, ← not_lt] at h
  rw [Defect.points, if_neg (by simp only [Bool.and_eq_true, decide_eq_true_iff]; grind), Defect.facePoints]
  cases d.face <;> dsimp only
  omega

theorem ClassPoints.base_le {c : ClassPoints} {m : Nat} (h0 : c.p0 ≤ m) (h1 : c.p1 ≤ m) (h2 : c.p2 ≤ m) (h3 : c.p3 ≤ m)
    (size : Nat) : c.base size ≤ m := by
  unfold ClassPoints.base
  split_ifs <;> assumption

theorem Defect.facePoints_le_base (d : Defect) (c : ClassPoints) : d.facePoints c ≤ c.base d.size := by
  unfold Defect.facePoints
  split
  · exact le_rfl
  · exact Nat.sub_le _ _

theorem Defect.points_le_double (d : Defect) (c : ClassPoints) (lm zone : Nat) (o : TrimOption) :
    d.points c lm zone o ≤ 2 * c.base d.size := by
  have hface := d.facePoints_le_base c
  by_cases h : c.endSensitive = false ∨ zone = 0 ∨ ¬ d.InEndZone lm zone o
  · rw [Defect.points_of_not_doubled h]
    omega
  · push Not at h
    obtain ⟨hc, hzone, hin⟩ := h
    rw [Defect.points_of_endZone (Bool.ne_false_iff.mp hc) (Nat.pos_of_ne_zero hzone) hin]
    omega

/-! ## Density and the search for a grade (R81, R83 to R85) -/

theorem remaining_eq_filter (defects : List Defect) (lm : Nat) (o : TrimOption) :
    remaining defects lm o = defects.filter fun d => o.start < d.x + d.extent ∧ d.x < o.stop lm := by
  simp only [remaining, Defect.remains, Bool.decide_and]

/-- Dmax against a density without its division: the rounding up takes nothing from an exact comparison. -/
theorem density_le_iff {lf : Nat} (hlf : 0 < lf) (total derate dmax : Nat) :
    density total lf derate ≤ dmax ↔ total * 1000 ≤ (dmax - derate) * lf ∧ derate ≤ dmax := by
  have hceil : (total * 1000 + lf - 1) / lf ≤ dmax - derate ↔ total * 1000 ≤ (dmax - derate) * lf := by
    rw [Nat.div_le_iff_le_mul_add_pred hlf, Nat.mul_comm lf]
    omega
  rw [density, ← hceil]
  generalize (total * 1000 + lf - 1) / lf = ceil
  omega

theorem GradeEntry.qualifies_iff (g : GradeEntry) (dens : Nat) (left : List Defect) :
    g.qualifies dens left = true ↔
      g.enabled = true ∧ dens ≤ g.dmax ∧ ∀ d ∈ left, g.forbidden.getLsbD (classIdx d.cls) = false := by
  simp only [GradeEntry.qualifies, Bool.and_eq_true, decide_eq_true_iff, List.all_eq_true, Bool.not_eq_true', and_assoc]

theorem mem_allGrades (g : Grade) : g ∈ allGrades := by
  cases g <;> decide

theorem allGrades_pairwise : allGrades.Pairwise fun a b => a.num < b.num := by
  decide

/-- In a list of grades from better to worse, the first that passes a test is the one that no better one precedes. -/
theorem find?_eq_some_iff_of_pairwise {l : List Grade} (hl : l.Pairwise fun a b => a.num < b.num) (p : Grade → Bool)
    (g : Grade) : l.find? p = some g ↔ g ∈ l ∧ p g = true ∧ ∀ k ∈ l, k.num < g.num → ¬ p k = true := by
  induction l with
  | nil => simp
  | cons a rest ih =>
    obtain ⟨hfirst, hrest⟩ := List.pairwise_cons.mp hl
    cases ha : p a with
    | true =>
      rw [List.find?_cons_of_pos ha, Option.some_inj]
      constructor
      · rintro rfl
        exact ⟨List.mem_cons_self, ha, List.forall_mem_cons.mpr
          ⟨fun hlt => absurd hlt (lt_irrefl _), fun k hk hlt => absurd hlt (hfirst k hk).not_gt⟩⟩
      · rintro ⟨hg, -, hbetter⟩
        obtain rfl | hg := List.mem_cons.mp hg
        · rfl
        · exact absurd ha (hbetter a List.mem_cons_self (hfirst g hg))
    | false =>
      rw [List.find?_cons_of_neg (by simp [ha]), ih hrest]
      constructor
      · rintro ⟨hg, hpg, hbetter⟩
        exact ⟨List.mem_cons_of_mem _ hg, hpg, List.forall_mem_cons.mpr ⟨fun _ => by simp [ha], hbetter⟩⟩
      · rintro ⟨hg, hpg, hbetter⟩
        have hne : g ≠ a := fun h => by simp [h, ha] at hpg
        exact ⟨List.mem_of_ne_of_mem hne hg, hpg, (List.forall_mem_cons.mp hbetter).2⟩

theorem State.gradeFrom_eq_some_iff (s : State) (cap : Grade) (dens : Nat) (left : List Defect) (g : Grade) :
    s.gradeFrom cap dens left = some g ↔ cap.num ≤ g.num ∧ s.grades[gradeIdx g].qualifies dens left = true ∧
      ∀ k : Grade, cap.num ≤ k.num → k.num < g.num → ¬ s.grades[gradeIdx k].qualifies dens left = true := by
  simp only [State.gradeFrom, find?_eq_some_iff_of_pairwise allGrades_pairwise, mem_allGrades, true_and,
    Bool.and_eq_true, decide_eq_true_iff, not_and, forall_const, and_assoc]
  exact and_congr_right fun _ => and_congr_right fun _ => forall_congr' fun _ => forall_comm

theorem State.gradeFrom_eq_none_iff (s : State) (cap : Grade) (dens : Nat) (left : List Defect) :
    s.gradeFrom cap dens left = none ↔
      ∀ g : Grade, cap.num ≤ g.num → ¬ s.grades[gradeIdx g].qualifies dens left = true := by
  simp only [State.gradeFrom, List.find?_eq_none, mem_allGrades, Bool.and_eq_true, decide_eq_true_iff, not_and,
    forall_const]

theorem State.optionGrade_of_forced {s : State} {q : Grading} {g : Grade} (h : q.forced = some g) (o : TrimOption) :
    s.optionGrade q o = some g := by
  simp only [State.optionGrade, h]

theorem State.optionGrade_of_not_forced {s : State} {q : Grading} (h : q.forced = none) (o : TrimOption) :
    s.optionGrade q o = s.gradeFrom q.cap (density (s.pointsTotal q.defects q.lm o) (o.lf q.lm) q.derate)
      (remaining q.defects q.lm o) := by
  simp only [State.optionGrade, h]

end Sys2Proof.Machine

namespace Sys2Proof.Claims

open Sys2Proof Sys2Proof.Machine

/-- Settles O35: the search from the cap by its first success, the points by whether they are doubled. -/
theorem optionGradeFollowsTheTable : Obligations.OptionGradeFollowsTheTable := by
  refine ⟨fun s q o => ⟨fun g h => State.optionGrade_of_forced h o, ?grade⟩, ?points⟩
  case grade =>
    intro hforced hlf left total fits
    have hleft : remaining q.defects q.lm o = left := remaining_eq_filter q.defects q.lm o
    have htotal : s.pointsTotal q.defects q.lm o = total := by rw [State.pointsTotal, hleft]
    have hfits : ∀ g, s.grades[gradeIdx g].qualifies (density total (o.lf q.lm) q.derate) left = true ↔ fits g := by
      intro g
      rw [GradeEntry.qualifies_iff, density_le_iff hlf, and_assoc]
    simp only [State.optionGrade_of_not_forced hforced, hleft, htotal, State.gradeFrom_eq_some_iff,
      State.gradeFrom_eq_none_iff, hfits, implies_true, and_self]
  case points =>
    intro d c lm z o base faced b e
    have hfaced : d.facePoints c = faced := rfl
    rw [← hfaced]
    refine ⟨fun h => Defect.points_of_not_doubled (.inl h), fun h => Defect.points_of_not_doubled (.inr (.inl h)),
      fun hc hz => ⟨Defect.points_of_endZone hc hz, fun hhead htail =>
        Defect.points_of_not_doubled (.inr (.inr (not_or.mpr ⟨hhead, htail⟩)))⟩, ?bound⟩
    rintro ⟨-, -, -, -, h0, h1, h2, h3⟩
    have hbase := ClassPoints.base_le h0 h1 h2 h3 d.size
    have hdouble := d.points_le_double c lm z o
    omega

end Sys2Proof.Claims
end

section
/-! PROOF. CANCEL ORDER and RETIRE ORDER. -/

namespace Sys2Proof.Machine

open Sys2Proof

/-! ## A number as bytes, and a request that names an order -/

@[simp] theorem length_toBytes (len n : Nat) : (toBytes len n).length = len := by
  induction len generalizing n with
  | zero => rfl
  | succ len ih => simp [toBytes, ih]

/-- The bytes of a number that fits spell it. -/
theorem ofBytes_toBytes {len n : Nat} (h : n < 256 ^ len) : ofBytes (toBytes len n) = n := by
  induction len generalizing n with
  | zero => simp_all [ofBytes, toBytes]
  | succ len ih =>
    have hdiv : ofBytes (toBytes len (n / 256)) = n / 256 := ih (by rw [pow_succ] at h; omega)
    simp only [ofBytes, toBytes, List.foldl_append, List.foldl_cons, List.foldl_nil, BitVec.toNat_ofNat] at hdiv ⊢
    rw [hdiv]
    omega

/-- A payload that is one number holds it in its only field. -/
theorem fieldAt_toBytes {len n : Nat} (h : n < 256 ^ len) : fieldAt (toBytes len n) 0 len = n := by
  rw [fieldAt, List.drop_zero, List.take_of_length_le (length_toBytes len n).le, ofBytes_toBytes h]

section OrderRequest

variable {f : State → Order → Reply} {p : List Byte} {s : State} {id : Nat} (hp : fieldAt p 0 2 = id)
include hp

theorem orderRequest_zero (h : id = 0) : orderRequest f p s = .error .badArgument := by
  simp [orderRequest, hp, h]

theorem orderRequest_none (h : 1 ≤ id) (ho : s.order? id = none) : orderRequest f p s = .error .notFound := by
  simp [orderRequest, hp, ho, Nat.one_le_iff_ne_zero.mp h]

theorem orderRequest_some {o : Order} (h : 1 ≤ id) (ho : s.order? id = some o) : orderRequest f p s = f s o := by
  simp [orderRequest, hp, ho, Nat.one_le_iff_ne_zero.mp h]

end OrderRequest

/-! ## The record of an order -/

variable (s : State)

/-- An order that is found carries the id asked for. -/
theorem State.order?_id {s : State} {id : Nat} {o : Order} (h : s.order? id = some o) : o.id = id := by
  simpa using List.find?_some h

/-- The record of another order stands. -/
theorem State.order?_updOrder_ne {i id : Nat} (h : i ≠ id) (f : Order → Order) (hf : ∀ o, (f o).id = o.id) :
    (s.updOrder i f).order? id = s.order? id := by
  rw [s.order?_updOrder i id f hf]
  cases ho : s.order? id with
  | none => rfl
  | some o => simp [State.order?_id ho, h.symm]

/-- The record of the order is changed. -/
theorem State.order?_updOrder_self (id : Nat) (f : Order → Order) (hf : ∀ o, (f o).id = o.id) :
    (s.updOrder id f).order? id = (s.order? id).map f := by
  rw [s.order?_updOrder id id f hf]
  cases ho : s.order? id with
  | none => rfl
  | some o => simp [State.order?_id ho]

/-! ## The recipe queue under a change of the pause condition (R159, R166) -/

@[simp] theorem takeUpFront_queue : (takeUpFront s).orders.queue = s.orders.queue := by
  unfold takeUpFront
  split <;> rfl

@[simp] theorem takeUp_queue : (takeUp s).orders.queue = s.orders.queue := by
  obtain h | ⟨-, h⟩ := takeUp_cases s <;> simp [h]

@[simp] theorem pauseInterp_queue : (pauseInterp s).orders.queue = s.orders.queue := by
  unfold pauseInterp
  split <;> rfl

@[simp] theorem pauseChanged_queue : (pauseChanged s).orders.queue = s.orders.queue := by
  obtain ⟨-, h⟩ | ⟨-, -, h⟩ | ⟨-, -, h⟩ := pauseChanged_cases s
  · simp [h]
  · rw [h]; rfl
  · simp [h]

@[simp] theorem heard_queue : (heard s).orders.queue = s.orders.queue := by
  cases h : s.link.hold with
  | false => rw [heard_clear s h]; rfl
  | true => simp only [heard, h, if_true, pauseChanged_queue]; rfl

/-! ## The bays under the operations of the order unit -/

@[simp] theorem State.bay_bump (c : Counter) (k : BayId) : (s.bump c).bay k = s.bay k := rfl
@[simp] theorem State.bay_raise (n : Notice) (k : BayId) : (s.raise n).bay k = s.bay k := rfl
@[simp] theorem State.bay_updOrder (id : Nat) (f : Order → Order) (k : BayId) : (s.updOrder id f).bay k = s.bay k := rfl
@[simp] theorem State.bay_updInterp (f : Interpreter → Interpreter) (k : BayId) : (s.updInterp f).bay k = s.bay k := rfl

@[simp] theorem bay_placeFreed (k : BayId) : (placeFreed s).bay k = s.bay k := by
  obtain h | ⟨-, h⟩ := placeFreed_cases s <;> simp [h]

@[simp] theorem bay_orderTest (id : Nat) (k : BayId) : (orderTest s id).bay k = s.bay k := by
  obtain h | ⟨_, -, -, -, -, h⟩ | ⟨_, -, -, -, -, h⟩ := orderTest_cases s id <;> simp [h]

@[simp] theorem bay_takeUp (k : BayId) : (takeUp s).bay k = s.bay k := by
  obtain h | ⟨-, h⟩ := takeUp_cases s
  · rw [h]
  · rw [h, takeUpFront_frame]; rfl

/-! ## Opening and closing in one bay leave the others (R126, R133) -/

/-- A bundle that is opened: the order of the oldest entry counts it, the entry leaves the queue, and the order's
completion test follows (R126). The bay's new record is left open here. -/
theorem openBundle_of_entry {k : BayId} {e : QueueEntry} {rest : List QueueEntry} {copy : Recipe}
    (hq : s.orders.queue = e :: rest) (hr : s.orders.recipes[e.recipe] = some copy) :
    ∃ (f : Bay → Bay) (serial : Nat), openBundle s k =
      let u := s.updOrder e.order fun o => { o with opened := o.opened + 1 }
      let v : State := { u with orders := { u.orders with queue := rest }, bundleSerial := serial }
      orderTest (placeFreed ((v.updBay k f).bump .bundlesOpened)) e.order := by
  simp only [openBundle, hq, hr]
  exact ⟨_, _, rfl⟩

theorem bay_openBundle_ne {k j : BayId} (h : j ≠ k) : (openBundle s k).bay j = s.bay j := by
  obtain hs | ⟨e, rest, copy, hq, hr⟩ := openBundle_cases s k
  · rw [hs]
  · obtain ⟨f, serial, hs⟩ := openBundle_of_entry s (k := k) hq hr
    simp only [hs, bay_orderTest, bay_placeFreed, State.bay_bump, State.bay_updBay_ne _ h]
    rfl

/-- A bay enters EMPTY and takes the oldest entry, stays EMPTY and starved, or becomes starved (R126). -/
theorem enterEmpty_cases (k : BayId) :
    let u := s.updBay k fun b => { b with state := .empty, origin := none, bundle := none, settleTimer := none }
    (s.orders.queue ≠ [] ∧ enterEmpty s k = openBundle u k) ∨
    (s.orders.queue = [] ∧ (s.bay k).starved = true ∧ enterEmpty s k = u) ∨
    (s.orders.queue = [] ∧ enterEmpty s k = (u.raise .recipeStarved).updBay k fun b => { b with starved := true }) := by
  by_cases hq : s.orders.queue = []
  · cases hs : (s.bay k).starved with
    | true => exact .inr (.inl ⟨hq, rfl, by simp [enterEmpty, hq, hs]⟩)
    | false => exact .inr (.inr ⟨hq, by simp [enterEmpty, hq, hs]⟩)
  · exact .inl ⟨hq, by simp [enterEmpty, hq]⟩

theorem bay_enterEmpty_ne {k j : BayId} (h : j ≠ k) : (enterEmpty s k).bay j = s.bay j := by
  obtain ⟨-, hs⟩ | ⟨-, -, hs⟩ | ⟨-, hs⟩ := enterEmpty_cases s k
  · rw [hs, bay_openBundle_ne _ h, State.bay_updBay_ne _ h]
  · rw [hs, State.bay_updBay_ne _ h]
  · rw [hs, State.bay_updBay_ne _ h, State.bay_raise, State.bay_updBay_ne _ h]

/-- With no entry waiting the bay is EMPTY and starved (R126). -/
theorem bay_enterEmpty_of_queue_nil {k : BayId} (hq : s.orders.queue = []) : (enterEmpty s k).bay k =
    { s.bay k with state := .empty, origin := none, bundle := none, settleTimer := none, starved := true } := by
  obtain ⟨hne, -⟩ | ⟨-, hstarved, hs⟩ | ⟨-, hs⟩ := enterEmpty_cases s k
  · exact absurd hq hne
  · rw [hs, State.bay_updBay, ← hstarved]
  · rw [hs, State.bay_updBay, State.bay_raise, State.bay_updBay]

theorem bay_startSettle_ne {k j : BayId} (h : j ≠ k) : (startSettle s k).bay j = s.bay j := s.bay_updBay_ne h _

theorem bay_updBundle_ne {k j : BayId} (h : j ≠ k) (f : Bundle → Bundle) : (s.updBundle k f).bay j = s.bay j :=
  s.bay_updBay_ne h _

@[simp] theorem bay_startSettle (k : BayId) : (startSettle s k).bay k =
    { s.bay k with state := .settling, origin := none, settleTimer := some (s.bay k).settleTime } := s.bay_updBay k _

@[simp] theorem bay_updBundle (k : BayId) (f : Bundle → Bundle) : (s.updBundle k f).bay k =
    { s.bay k with bundle := (s.bay k).bundle.map f } := s.bay_updBay k _

/-! ## The completion test, row by row of Table 7-4 -/

theorem completionTest_of_not_filling {k : BayId} (h : (s.bay k).state ≠ .filling) (test : Bool) :
    completionTest s k test = s := by
  obtain hs | ⟨_, hf, -⟩ := completionTest_cases s k test
  · exact hs
  · exact absurd hf h

section CompletionTest

variable {s} {k : BayId} {b : Bundle} (hf : (s.bay k).state = .filling) (hb : (s.bay k).bundle = some b) (test : Bool)
include hf hb

theorem completionTest_of_committed (hc : 0 < b.committed) : completionTest s k test = s := by
  simp [completionTest, hf, hb, hc]

theorem completionTest_of_complete (hc : b.committed = 0) (ht : b.total = b.copy.target) :
    completionTest s k test = startSettle s k := by
  simp [completionTest, hf, hb, hc, ht]

theorem completionTest_of_short (hc : b.committed = 0) (hcl : b.closing = true) (ht : b.total ≠ b.copy.target)
    (h0 : 0 < b.total) : completionTest s k test =
      startSettle ((s.updBundle k fun b => { b with short := true }).bump .bundlesShort) k := by
  simp [completionTest, hf, hb, hc, hcl, ht, h0]

theorem completionTest_of_empty (hc : b.committed = 0) (hcl : b.closing = true) (h0 : b.total = 0)
    (ht : 0 < b.copy.target) : completionTest s k test = closeEmpty s k b.order test := by
  simp [completionTest, hf, hb, hc, hcl, h0, ht.ne]

end CompletionTest

theorem bay_closeEmpty_false_ne {k j : BayId} (h : j ≠ k) (id : Nat) :
    (closeEmpty s k id false).bay j = s.bay j :=
  bay_enterEmpty_ne _ h

theorem bay_completionTest_ne {k j : BayId} (h : j ≠ k) : (completionTest s k false).bay j = s.bay j := by
  obtain hs | ⟨b, -, -, -, ⟨-, hs⟩ | ⟨-, -, -, hs⟩ | ⟨-, -, -, hs⟩⟩ := completionTest_cases s k false
  · rw [hs]
  · rw [hs, bay_startSettle_ne _ h]
  · rw [hs, bay_startSettle_ne _ h, State.bay_bump, bay_updBundle_ne _ h]
  · rw [hs, bay_closeEmpty_false_ne _ h]

/-! ## The books of an order whose bundles close (R133, R169 step 2) -/

/-- From s to t, n bundles of order id have closed empty and its record counts them; only entries of the recipe queue have
been taken besides, and the counters of a cancellation stand. -/
structure ClosesFor (id n : Nat) (s t : State) : Prop where
  order : t.order? id = (s.order? id).map fun o => { o with closedEmpty := o.closedEmpty + n }
  queue : t.orders.queue <:+ s.orders.queue
  cancelled : t.count .ordersCancelled = s.count .ordersCancelled
  withdrawn : t.count .entriesWithdrawn = s.count .entriesWithdrawn

namespace ClosesFor

variable {id n : Nat} {s t u : State}

theorem refl : ClosesFor id 0 s s := ⟨by simp, List.suffix_rfl, rfl, rfl⟩

theorem trans {m : Nat} (h : ClosesFor id m s t) (h' : ClosesFor id n t u) : ClosesFor id (m + n) s u where
  order := by simp [h'.order, h.order, Function.comp_def, Nat.add_assoc]
  queue := h'.queue.trans h.queue
  cancelled := h'.cancelled.trans h.cancelled
  withdrawn := h'.withdrawn.trans h.withdrawn

/-- What keeps the record and the counters, and takes entries at most, closes no bundle of the order. -/
theorem kept (h : ClosesFor id n s t) (ho : u.order? id = t.order? id) (hq : u.orders.queue <:+ t.orders.queue)
    (hc : u.count .ordersCancelled = t.count .ordersCancelled)
    (hw : u.count .entriesWithdrawn = t.count .entriesWithdrawn) : ClosesFor id n s u :=
  ⟨ho.trans h.order, hq.trans h.queue, hc.trans h.cancelled, hw.trans h.withdrawn⟩

theorem updBay (h : ClosesFor id n s t) (k : BayId) (f : Bay → Bay) : ClosesFor id n s (t.updBay k f) :=
  h.kept rfl List.suffix_rfl rfl rfl

theorem updBundle (h : ClosesFor id n s t) (k : BayId) (f : Bundle → Bundle) : ClosesFor id n s (t.updBundle k f) :=
  h.updBay k _

theorem raise (h : ClosesFor id n s t) (x : Notice) : ClosesFor id n s (t.raise x) :=
  h.kept rfl List.suffix_rfl rfl rfl

theorem bump (h : ClosesFor id n s t) (c : Counter) (hc : c ≠ .ordersCancelled) (hw : c ≠ .entriesWithdrawn) :
    ClosesFor id n s (t.bump c) :=
  h.kept rfl List.suffix_rfl (t.count_bump_ne hc.symm) (t.count_bump_ne hw.symm)

theorem placeFreed (h : ClosesFor id n s t) : ClosesFor id n s (placeFreed t) := by
  obtain ht | ⟨-, ht⟩ := placeFreed_cases t
  · rwa [ht]
  · rw [ht]
    exact h.kept rfl List.suffix_rfl rfl rfl

/-- The record of another order may change. -/
theorem updOrder (h : ClosesFor id n s t) {i : Nat} (hi : i ≠ id) (f : Order → Order) (hf : ∀ o, (f o).id = o.id) :
    ClosesFor id n s (t.updOrder i f) :=
  h.kept (t.order?_updOrder_ne hi f hf) List.suffix_rfl rfl rfl

theorem orderTest (h : ClosesFor id n s t) {i : Nat} (hi : i ≠ id) : ClosesFor id n s (orderTest t i) := by
  obtain ht | ⟨_, -, -, -, -, ht⟩ | ⟨_, -, -, -, -, ht⟩ := orderTest_cases t i
  · rwa [ht]
  · rw [ht]
    exact ((h.updOrder hi (fun o => { o with state := .complete }) fun _ => rfl).raise .orderComplete).bump
      .ordersCompleted (by decide) (by decide)
  · rw [ht]
    exact (h.updOrder hi (fun o => { o with settled := true }) fun _ => rfl).raise .orderComplete

/-- Entries may leave the front of the queue, and the bundle serial may advance. -/
theorem leaveRest (h : ClosesFor id n s t) {rest : List QueueEntry} (hrest : rest <:+ t.orders.queue) (serial : Nat) :
    ClosesFor id n s { t with orders := { t.orders with queue := rest }, bundleSerial := serial } :=
  h.kept rfl hrest rfl rfl

/-- A bundle that is opened is another order's when no entry of this one waits. -/
theorem openBundle (h : ClosesFor id n s t) (hfree : ∀ e ∈ t.orders.queue, e.order ≠ id) (k : BayId) :
    ClosesFor id n s (openBundle t k) := by
  obtain ht | ⟨e, rest, copy, hq, hr⟩ := openBundle_cases t k
  · rwa [ht]
  · have he : e.order ≠ id := hfree e (by simp [hq])
    have hrest : rest <:+ t.orders.queue := hq ▸ List.suffix_cons e rest
    obtain ⟨f, serial, ht⟩ := openBundle_of_entry t (k := k) hq hr
    rw [ht]
    have hopened := h.updOrder he (fun o => { o with opened := o.opened + 1 }) fun _ => rfl
    exact (((hopened.leaveRest hrest serial).updBay k f).bump .bundlesOpened (by decide) (by decide)).placeFreed.orderTest he

theorem enterEmpty (h : ClosesFor id n s t) (hfree : ∀ e ∈ t.orders.queue, e.order ≠ id) (k : BayId) :
    ClosesFor id n s (enterEmpty t k) := by
  obtain ⟨-, ht⟩ | ⟨-, -, ht⟩ | ⟨-, ht⟩ := enterEmpty_cases t k
  · rw [ht]
    exact (h.updBay k _).openBundle hfree k
  · rw [ht]
    exact h.updBay k _
  · rw [ht]
    exact ((h.updBay k _).raise _).updBay k _

end ClosesFor

variable {s} {id : Nat}

/-- A bundle of the order that closes empty is counted once (R133, R169). -/
theorem closeEmpty_closesFor (hfree : ∀ e ∈ s.orders.queue, e.order ≠ id) (k : BayId) :
    ClosesFor id 1 s (closeEmpty s k id false) := by
  have hcounted : ClosesFor id 1 s (s.updOrder id fun o => { o with closedEmpty := o.closedEmpty + 1 }) :=
    ⟨s.order?_updOrder_self id _ fun _ => rfl, List.suffix_rfl, rfl, rfl⟩
  exact (hcounted.bump .bundlesClosedEmpty (by decide) (by decide)).enterEmpty hfree k

/-- A bay whose bundle closes empty is EMPTY and starved when no entry waits (R126). -/
theorem bay_closeEmpty_of_queue_nil (hq : s.orders.queue = []) (k : BayId) : (closeEmpty s k id false).bay k =
    { s.bay k with state := .empty, origin := none, bundle := none, settleTimer := none, starved := true } := by
  have hclosed : ((s.updOrder id fun o => { o with closedEmpty := o.closedEmpty + 1 }).bump
    .bundlesClosedEmpty).orders.queue = [] := hq
  exact bay_enterEmpty_of_queue_nil _ hclosed

/-- The bay's completion test closes its bundle empty: FILLING, the bundle closing, no commitment and no strip (Table 7-4). -/
def Bay.closesEmpty (r : Bay) : Bool :=
  r.state = .filling && r.bundle.any fun b => b.closing && b.committed = 0 && b.total = 0 && 0 < b.copy.target

theorem Bay.closesEmpty_iff {r : Bay} : r.closesEmpty = true ↔ r.state = .filling ∧
    ∃ b, r.bundle = some b ∧ b.closing = true ∧ b.committed = 0 ∧ b.total = 0 ∧ 0 < b.copy.target := by
  simp [Bay.closesEmpty, Option.any_eq_true, and_assoc]

/-- A completion test inside a cancellation counts the bundle when it closes empty. -/
theorem completionTest_closesFor {k : BayId} (hown : ∀ b, (s.bay k).bundle = some b → b.order = id)
    (hfree : ∀ e ∈ s.orders.queue, e.order ≠ id) :
    ClosesFor id (if (s.bay k).closesEmpty then 1 else 0) s (completionTest s k false) := by
  by_cases hempty : (s.bay k).closesEmpty = true
  · obtain ⟨hf, b, hb, hcl, hc, h0, ht⟩ := Bay.closesEmpty_iff.mp hempty
    rw [if_pos hempty, completionTest_of_empty hf hb false hc hcl h0 ht, hown b hb]
    exact closeEmpty_closesFor hfree k
  · rw [if_neg hempty]
    obtain hs | ⟨b, hf, hb, hc, ⟨-, hs⟩ | ⟨-, -, -, hs⟩ | ⟨ht, hcl, h0, -⟩⟩ := completionTest_cases s k false
    · rw [hs]
      exact .refl
    · rw [hs]
      exact ClosesFor.refl.updBay k _
    · rw [hs]
      exact ((ClosesFor.refl.updBundle k _).bump _ (by decide) (by decide)).updBay k _
    · exact absurd (Bay.closesEmpty_iff.mpr ⟨hf, b, hb, hcl, hc, h0, by omega⟩) hempty

/-! ## Several bays apply their completion test (R126) -/

theorem testBays_cons (k : BayId) (l : List BayId) (s : State) :
    testBays false (k :: l) s = testBays false l (completionTest s k false) := rfl

theorem bay_testBays_of_not_mem {l : List BayId} {k : BayId} (h : k ∉ l) (s : State) :
    (testBays false l s).bay k = s.bay k := by
  induction l generalizing s with
  | nil => rfl
  | cons a l ih =>
    obtain ⟨hka, hkl⟩ := not_or.mp (mt List.mem_cons.mpr h)
    rw [testBays_cons, ih hkl, bay_completionTest_ne _ hka]

/-- The order counts the bundles that close empty, each once. -/
theorem testBays_closesFor {l : List BayId} (hl : l.Nodup)
    (hown : ∀ k ∈ l, ∀ b, (s.bay k).bundle = some b → b.order = id) (hfree : ∀ e ∈ s.orders.queue, e.order ≠ id) :
    ClosesFor id (l.countP fun k => (s.bay k).closesEmpty) s (testBays false l s) := by
  induction l generalizing s with
  | nil => exact .refl
  | cons a l ih =>
    obtain ⟨ha, hl⟩ := List.nodup_cons.mp hl
    have hfirst := completionTest_closesFor (hown a List.mem_cons_self) hfree
    have hbays : ∀ k ∈ l, (completionTest s a false).bay k = s.bay k := fun k hk =>
      bay_completionTest_ne s (ne_of_mem_of_not_mem hk ha)
    have hrest := ih hl (fun k hk => hbays k hk ▸ hown k (List.mem_cons_of_mem a hk))
      fun e he => hfree e (hfirst.queue.mem he)
    have hcount : (l.countP fun k => ((completionTest s a false).bay k).closesEmpty) =
        l.countP fun k => (s.bay k).closesEmpty :=
      List.countP_congr fun k hk => by rw [hbays k hk]
    rw [testBays_cons, List.countP_cons, Nat.add_comm, ← hcount]
    exact hfirst.trans hrest

/-- Each of the bays makes its test in a state that still has its record, with entries taken by the bays before it. -/
theorem bay_testBays_of_mem {l : List BayId} (hl : l.Nodup)
    (hown : ∀ k ∈ l, ∀ b, (s.bay k).bundle = some b → b.order = id) (hfree : ∀ e ∈ s.orders.queue, e.order ≠ id) {k : BayId} (hk : k ∈ l) :
    ∃ u, u.bay k = s.bay k ∧ u.orders.queue <:+ s.orders.queue ∧
      (testBays false l s).bay k = (completionTest u k false).bay k := by
  obtain ⟨l1, l2, rfl⟩ := List.append_of_mem hk
  obtain ⟨hl1, hl2, hdisjoint⟩ := List.nodup_append.mp hl
  have hbefore : k ∉ l1 := fun h => hdisjoint k h k List.mem_cons_self rfl
  have hafter : k ∉ l2 := (List.nodup_cons.mp hl2).1
  refine ⟨testBays false l1 s, bay_testBays_of_not_mem hbefore s, ?_, ?_⟩
  · exact (testBays_closesFor hl1 (fun j hj => hown j (List.mem_append_left _ hj)) hfree).queue
  · rw [show testBays false (l1 ++ k :: l2) s = testBays false (k :: l2) (testBays false l1 s) from List.foldl_append,
      testBays_cons, bay_testBays_of_not_mem hafter]

/-! ## The bundles of a cancelled order are set closing (R135) -/

/-- A bay whose bundle is set closing. -/
def Bay.setClosing (r : Bay) : Bay := { r with bundle := r.bundle.map fun b => { b with closing := true } }

/-- The bundles of some bays are set closing. -/
def State.setClosing (s : State) (l : List BayId) : State :=
  l.foldl (fun s k => s.updBundle k fun b => { b with closing := true }) s

theorem closeForCancel_eq (id : Nat) (s : State) : closeForCancel id s =
    testBays false (allBays.filter (s.closedBy id)) (s.setClosing (allBays.filter (s.closedBy id))) := rfl

theorem State.setClosing_cons (s : State) (k : BayId) (l : List BayId) :
    s.setClosing (k :: l) = (s.updBundle k fun b => { b with closing := true }).setClosing l := rfl

theorem setClosing_closesFor (l : List BayId) (s : State) : ClosesFor id 0 s (s.setClosing l) := by
  induction l generalizing s with
  | nil => exact .refl
  | cons k l ih => exact (ClosesFor.refl.updBundle k _).trans (ih _)

theorem State.setClosing_orders (l : List BayId) (s : State) : (s.setClosing l).orders = s.orders := by
  induction l generalizing s with
  | nil => rfl
  | cons k l ih => rw [State.setClosing_cons, ih, State.updBundle_orders]

theorem Bay.setClosing_setClosing (r : Bay) : r.setClosing.setClosing = r.setClosing := by
  simp [Bay.setClosing, Function.comp_def]

theorem State.bay_setClosing (l : List BayId) (s : State) (k : BayId) :
    (s.setClosing l).bay k = if k ∈ l then (s.bay k).setClosing else s.bay k := by
  induction l generalizing s with
  | nil => rfl
  | cons a l ih =>
    rw [State.setClosing_cons, ih]
    by_cases hka : k = a
    · subst hka
      have hself : (s.updBundle k fun b => { b with closing := true }).bay k = (s.bay k).setClosing := bay_updBundle s k _
      simp [hself, Bay.setClosing_setClosing]
    · simp [hka, bay_updBundle_ne s hka]

/-! ## The bays and the books through step 2 of a cancellation (R169) -/

theorem allBays_nodup : allBays.Nodup := by decide

theorem State.closedBy_iff {k : BayId} : s.closedBy id k = true ↔
    ((s.bay k).state = .filling ∨ ((s.bay k).state = .fault ∧ (s.bay k).origin = some .filling)) ∧
      ∃ b, (s.bay k).bundle = some b ∧ b.order = id := by
  simp [State.closedBy]

theorem bay_closeForCancel_of_not_closedBy {k : BayId} (h : s.closedBy id k = false) :
    (closeForCancel id s).bay k = s.bay k := by
  have hk : k ∉ allBays.filter (s.closedBy id) := by simp [h]
  rw [closeForCancel_eq, bay_testBays_of_not_mem hk, State.bay_setClosing, if_neg hk]

/-- A bay's bundle set closing is of the order that had it closed. -/
theorem order_of_mem_closedBy {k : BayId} (hk : k ∈ allBays.filter (s.closedBy id)) {b : Bundle}
    (hb : ((s.setClosing (allBays.filter (s.closedBy id))).bay k).bundle = some b) : b.order = id := by
  obtain ⟨-, c, hc, hid⟩ := State.closedBy_iff.mp (List.mem_filter.mp hk).2
  rw [State.bay_setClosing, if_pos hk, Bay.setClosing, hc] at hb
  rw [← hid, ← Option.some_inj.mp hb]

section CloseForCancel

variable (hfree : ∀ e ∈ s.orders.queue, e.order ≠ id)
include hfree

/-- A bay set closing then makes its completion test, when the bays before it may have taken entries. -/
theorem bay_closeForCancel_of_closedBy {k : BayId} (h : s.closedBy id k = true) :
    ∃ u, u.bay k = (s.bay k).setClosing ∧ u.orders.queue <:+ s.orders.queue ∧
      (closeForCancel id s).bay k = (completionTest u k false).bay k := by
  have hk : k ∈ allBays.filter (s.closedBy id) := by simp [h, mem_allBays]
  obtain ⟨u, hu, hq, ht⟩ := bay_testBays_of_mem (allBays_nodup.filter _) (fun j hj b => order_of_mem_closedBy hj)
    (by rwa [State.setClosing_orders]) hk
  exact ⟨u, by rw [hu, State.bay_setClosing, if_pos hk], by rwa [State.setClosing_orders] at hq, ht⟩

theorem closeForCancel_closesFor : ClosesFor id
    (allBays.countP fun k => s.closedBy id k && (s.bay k).setClosing.closesEmpty) s (closeForCancel id s) := by
  have hclosed := testBays_closesFor (allBays_nodup.filter (s.closedBy id)) (fun k hk b => order_of_mem_closedBy hk)
    (by rwa [State.setClosing_orders])
  have hcount : ((allBays.filter (s.closedBy id)).countP fun k =>
      ((s.setClosing (allBays.filter (s.closedBy id))).bay k).closesEmpty) =
      allBays.countP fun k => s.closedBy id k && (s.bay k).setClosing.closesEmpty := by
    rw [List.countP_filter]
    refine List.countP_congr fun k _ => ?_
    cases h : s.closedBy id k <;> simp [State.bay_setClosing, h, mem_allBays]
  rw [closeForCancel_eq, ← hcount, ← Nat.zero_add (List.countP _ _)]
  exact (setClosing_closesFor _ s).trans hclosed

end CloseForCancel

/-- The bundles that a cancellation closes empty: of the order, in FILLING bays, with no commitment and no strip (R135). -/
theorem closedBy_and_closesEmpty (s : State) (id : Nat) (k : BayId) :
    (s.closedBy id k && (s.bay k).setClosing.closesEmpty) = (decide ((s.bay k).state = .filling) &&
      (s.bay k).bundle.any fun b => b.order = id && b.committed = 0 && b.total = 0 && 0 < b.copy.target) := by
  cases hb : (s.bay k).bundle with
  | none => simp [Bay.setClosing, Bay.closesEmpty, hb]
  | some b =>
    have htotal : { b with closing := true }.total = b.total := rfl
    by_cases hf : (s.bay k).state = .filling
    · simp [State.closedBy, Bay.setClosing, Bay.closesEmpty, hb, hf, htotal, Bool.and_assoc]
    · simp [Bay.setClosing, Bay.closesEmpty, hf]

/-! ## Step 1 of a cancellation: the entries leave the queue (R169) -/

/-- The order's entries have left the queue and are counted, the interpreter not regarded. -/
def leftQueue (s : State) (id : Nat) : State :=
  let u := s.updOrder id fun o => { o with withdrawn := o.withdrawn + s.queuedCount id }
  State.bumpBy { u with orders := { u.orders with queue := s.orders.queue.filter fun e => e.order ≠ id } }
    .entriesWithdrawn (s.queuedCount id)

/-- The withdrawal may resume the interpreter, and else leaves it. -/
theorem withdrawEntries_eq (s : State) (id : Nat) :
    ∃ f : Interpreter → Interpreter, withdrawEntries s id = (leftQueue s id).updInterp f := by
  by_cases h : s.queuedCount id = 0 ∨ s.orders.interp.order = some id
  · exact ⟨fun i => i, if_pos h⟩
  · have hfreed : withdrawEntries s id = placeFreed (leftQueue s id) := if_neg h
    obtain hs | ⟨-, hs⟩ := placeFreed_cases (leftQueue s id)
    · exact ⟨fun i => i, hfreed.trans hs⟩
    · exact ⟨_, hfreed.trans hs⟩

section WithdrawEntries

variable (s : State) (id : Nat)

@[simp] theorem bay_withdrawEntries (k : BayId) : (withdrawEntries s id).bay k = s.bay k := by
  obtain ⟨f, h⟩ := withdrawEntries_eq s id
  rw [h]; rfl

@[simp] theorem closedBy_withdrawEntries (k : BayId) : (withdrawEntries s id).closedBy id k = s.closedBy id k := by
  simp [State.closedBy]

theorem withdrawEntries_queue :
    (withdrawEntries s id).orders.queue = s.orders.queue.filter fun e => e.order ≠ id := by
  obtain ⟨f, h⟩ := withdrawEntries_eq s id
  rw [h]; rfl

theorem withdrawEntries_order? : (withdrawEntries s id).order? id =
    (s.order? id).map fun o => { o with withdrawn := o.withdrawn + s.queuedCount id } := by
  obtain ⟨f, h⟩ := withdrawEntries_eq s id
  rw [h]; exact s.order?_updOrder_self id (fun o => { o with withdrawn := o.withdrawn + s.queuedCount id }) fun _ => rfl

theorem withdrawEntries_count_entriesWithdrawn : (withdrawEntries s id).count .entriesWithdrawn =
    min Config.counterLimit (s.count .entriesWithdrawn + s.queuedCount id) := by
  obtain ⟨f, h⟩ := withdrawEntries_eq s id
  rw [h]; exact State.count_bumpBy_self _ _ _

theorem withdrawEntries_count_ordersCancelled :
    (withdrawEntries s id).count .ordersCancelled = s.count .ordersCancelled := by
  obtain ⟨f, h⟩ := withdrawEntries_eq s id
  rw [h]; exact State.count_bumpBy_ne _ (by decide) _

end WithdrawEntries

/-! ## Steps 3 to 5 of a cancellation (R169) -/

/-- Neither the recipe queue, nor the run list, nor the interpreter names the order. -/
structure GivenUp (id : Nat) (s : State) : Prop where
  queue : ∀ e ∈ s.orders.queue, e.order ≠ id
  runList : id ∉ s.orders.runList
  interp : s.orders.interp.order ≠ some id

/-- The order leaves the run list, and an interpreter that holds it gives it up (R169). -/
theorem letGo_cases (s : State) (id : Nat) :
    let u : State := { s with orders := { s.orders with runList := s.orders.runList.filter (· ≠ id) } }
    letGo s id = giveUp u ∨ (s.orders.interp.order ≠ some id ∧ letGo s id = u) := by
  by_cases h : s.orders.interp.order = some id <;> simp [letGo, h]

@[simp] theorem bay_letGo (s : State) (id : Nat) (k : BayId) : (letGo s id).bay k = s.bay k := by
  obtain h | ⟨-, h⟩ := letGo_cases s id <;> rw [h] <;> rfl

@[simp] theorem count_letGo (s : State) (id : Nat) (c : Counter) : (letGo s id).count c = s.count c := by
  obtain h | ⟨-, h⟩ := letGo_cases s id <;> rw [h] <;> rfl

theorem letGo_order? (s : State) (id : Nat) : (letGo s id).order? id = s.order? id := by
  obtain h | ⟨-, h⟩ := letGo_cases s id <;> rw [h] <;> rfl

/-- An order's completion test writes to the order table at most (R171). -/
theorem orderTest_orders (s : State) (id : Nat) :
    (orderTest s id).orders = { s.orders with table := (orderTest s id).orders.table } := by
  obtain h | ⟨_, -, -, -, -, h⟩ | ⟨_, -, -, -, -, h⟩ := orderTest_cases s id
  · rw [h]
  · rw [h]; rfl
  · rw [h]; rfl

/-- The interpreter takes up the front order of the run list, which becomes ACTIVE, or stays (R159). -/
theorem takeUp_takes (s : State) : takeUp s = s ∨ ∃ (i : Nat) (rest : List Nat) (interp : Interpreter),
    s.orders.runList = i :: rest ∧ interp.order = some i ∧ takeUp s =
      let u := s.updOrder i fun o => { o with state := .active }
      { u with orders := { u.orders with runList := rest, interp := interp } } := by
  obtain h | ⟨-, h⟩ := takeUp_cases s
  · exact .inl h
  · cases hrun : s.orders.runList with
    | nil => exact .inl (h.trans (by simp [takeUpFront, hrun]))
    | cons i rest =>
      refine .inr ⟨i, rest, _, rfl, ?_, h.trans (by simp only [takeUpFront, hrun]; rfl)⟩
      rfl

namespace GivenUp

variable {id : Nat} {s : State}

theorem of_letGo (h : ∀ e ∈ s.orders.queue, e.order ≠ id) : GivenUp id (letGo s id) := by
  have hrun : id ∉ s.orders.runList.filter (· ≠ id) := by simp
  obtain hs | ⟨hinterp, hs⟩ := letGo_cases s id
  · rw [hs]
    exact ⟨h, hrun, nofun⟩
  · rw [hs]
    exact ⟨h, hrun, hinterp⟩

theorem orderTest (h : GivenUp id s) (i : Nat) : GivenUp id (orderTest s i) := by
  obtain ⟨hqueue, hrun, hinterp⟩ := h
  constructor <;> rw [orderTest_orders] <;> assumption

/-- The order that is taken up is another one. -/
theorem takeUp (h : GivenUp id s) : GivenUp id (takeUp s) := by
  obtain ht | ⟨i, rest, interp, hrun, hinterp, ht⟩ := takeUp_takes s
  · rwa [ht]
  · obtain ⟨hne, hrest⟩ := not_or.mp (mt List.mem_cons.mpr (hrun ▸ h.runList))
    rw [ht]
    exact ⟨h.queue, hrest, fun heq => hne (Option.some_inj.mp (hinterp.symm.trans heq)).symm⟩

theorem order?_takeUp (h : GivenUp id s) : (Machine.takeUp s).order? id = s.order? id := by
  obtain ht | ⟨i, rest, interp, hrun, -, ht⟩ := takeUp_takes s
  · rw [ht]
  · obtain ⟨hne, -⟩ := not_or.mp (mt List.mem_cons.mpr (hrun ▸ h.runList))
    rw [ht]
    exact s.order?_updOrder_ne (Ne.symm hne) _ fun _ => rfl

end GivenUp

@[simp] theorem count_takeUp (s : State) (c : Counter) : (takeUp s).count c = s.count c := by
  obtain h | ⟨-, h⟩ := takeUp_cases s
  · rw [h]
  · rw [h, takeUpFront_frame]; rfl

theorem count_orderTest_ne (s : State) (id : Nat) {c : Counter} (h : c ≠ .ordersCompleted) :
    (orderTest s id).count c = s.count c := by
  obtain hs | ⟨_, -, -, -, -, hs⟩ | ⟨_, -, -, -, -, hs⟩ := orderTest_cases s id
  · rw [hs]
  · rw [hs, State.count_bump_ne _ h]; rfl
  · rw [hs]; rfl

/-- The completion test of a CANCELLED order marks it settled when its bundles have all ended (R171). -/
theorem orderTest_order?_of_cancelled {s : State} {id : Nat} {o : Order} (ho : s.order? id = some o)
    (hs : o.state = .cancelled) :
    (orderTest s id).order? id = some { o with settled := o.settled || o.allEnded } := by
  have hne : ¬ (o.state = .emitted ∧ s.queuedCount id = 0 ∧ o.allEnded) := by simp [hs]
  by_cases h : o.allEnded = true ∧ o.settled = false
  · have hself := s.order?_updOrder_self id (fun o => { o with settled := true }) fun _ => rfl
    simp only [orderTest, ho, if_neg hne, if_pos (show _ ∧ _ from ⟨hs, h⟩)]
    exact hself.trans (by simp [ho, h])
  · have hset : (o.settled || o.allEnded) = o.settled := by grind
    simp only [orderTest, ho, if_neg hne, if_neg (show ¬ (_ ∧ _) from fun hc => h hc.2), hset]

/-- Step 3 and the marking of the order's record as CANCELLED, counted (R169). -/
def setCancelled (s : State) (id : Nat) : State :=
  ((letGo s id).updOrder id fun o => { o with state := .cancelled }).bump .ordersCancelled

/-- Steps 3 to 5 of a cancellation: the order's completion test follows, and an interpreter that held the order takes up
the next one. -/
def endCancel (held : Bool) (s : State) (id : Nat) : State :=
  let tested := orderTest (setCancelled s id) id
  if held then takeUp tested else tested

theorem cancel_eq (s : State) (id : Nat) : cancel s id =
    endCancel (decide (s.orders.interp.order = some id)) (closeForCancel id (withdrawEntries s id)) id := rfl

/-- An order's record as steps 3 to 5 leave it: CANCELLED, settled when every bundle it opened has ended. -/
def Order.cancelled (o : Order) : Order := { o with state := .cancelled, settled := o.settled || o.allEnded }

section EndCancel

variable (s : State) (held : Bool) (id : Nat)

theorem endCancel_cases : endCancel held s id = orderTest (setCancelled s id) id ∨
    endCancel held s id = takeUp (orderTest (setCancelled s id) id) := by
  cases held
  · exact .inl rfl
  · exact .inr rfl

theorem bay_endCancel (k : BayId) : (endCancel held s id).bay k = s.bay k := by
  obtain h | h := endCancel_cases s held id <;> simp [h, setCancelled]

theorem count_endCancel {c : Counter} (hc : c ≠ .ordersCompleted) :
    (endCancel held s id).count c = (setCancelled s id).count c := by
  obtain h | h := endCancel_cases s held id <;> simp [h, count_orderTest_ne _ _ hc]

theorem endCancel_count_ordersCancelled :
    (endCancel held s id).count .ordersCancelled = min Config.counterLimit (s.count .ordersCancelled + 1) := by
  rw [count_endCancel s held id (by decide), ← count_letGo s id]
  exact State.count_bump_self _ _

theorem endCancel_count_entriesWithdrawn :
    (endCancel held s id).count .entriesWithdrawn = s.count .entriesWithdrawn := by
  rw [count_endCancel s held id (by decide), ← count_letGo s id]
  exact State.count_bump_ne _ (by decide)

variable {s id}

theorem GivenUp.of_setCancelled (h : ∀ e ∈ s.orders.queue, e.order ≠ id) : GivenUp id (setCancelled s id) :=
  ⟨(GivenUp.of_letGo h).queue, (GivenUp.of_letGo h).runList, (GivenUp.of_letGo h).interp⟩

theorem GivenUp.of_endCancel (h : ∀ e ∈ s.orders.queue, e.order ≠ id) : GivenUp id (endCancel held s id) := by
  have htested := (GivenUp.of_setCancelled h).orderTest id
  obtain hs | hs := endCancel_cases s held id
  · rwa [hs]
  · rw [hs]
    exact htested.takeUp

theorem endCancel_order? (h : ∀ e ∈ s.orders.queue, e.order ≠ id) {o : Order} (ho : s.order? id = some o) :
    (endCancel held s id).order? id = some o.cancelled := by
  have hset : (setCancelled s id).order? id = some { o with state := .cancelled } := by
    have hself := (letGo s id).order?_updOrder_self id (fun o => { o with state := .cancelled }) fun _ => rfl
    rw [letGo_order?, ho] at hself
    exact hself
  have htested : (orderTest (setCancelled s id) id).order? id = some o.cancelled :=
    orderTest_order?_of_cancelled hset rfl
  obtain hs | hs := endCancel_cases s held id
  · rw [hs, htested]
  · rw [hs, ((GivenUp.of_setCancelled h).orderTest id).order?_takeUp, htested]

end EndCancel

/-! ## The cancellation of an order (R169) -/

section Cancel

variable (s : State) (id : Nat)

theorem queue_free_of_withdrawEntries : ∀ e ∈ (withdrawEntries s id).orders.queue, e.order ≠ id := by
  simp [withdrawEntries_queue]

/-- How many bundles a cancellation of the order closes empty. -/
def State.emptyBundles (s : State) (id : Nat) : Nat :=
  (allBays.filter fun k => (s.bay k).state = .filling && (s.bay k).bundle.any fun b =>
    b.order = id && b.committed = 0 && b.total = 0 && 0 < b.copy.target).length

/-- Steps 1 and 2 of a cancellation, for the order's books. -/
theorem withdrawn_closesFor : ClosesFor id (s.emptyBundles id)
    (withdrawEntries s id) (closeForCancel id (withdrawEntries s id)) := by
  have h := closeForCancel_closesFor (queue_free_of_withdrawEntries s id)
  rw [State.emptyBundles]
  simpa only [closedBy_withdrawEntries, closedBy_and_closesEmpty, bay_withdrawEntries, List.countP_eq_length_filter] using h

theorem queue_free_of_closeForCancel :
    ∀ e ∈ (closeForCancel id (withdrawEntries s id)).orders.queue, e.order ≠ id := fun e he =>
  queue_free_of_withdrawEntries s id e ((withdrawn_closesFor s id).queue.mem he)

theorem cancel_givenUp : GivenUp id (cancel s id) := by
  rw [cancel_eq]
  exact .of_endCancel _ (queue_free_of_closeForCancel s id)

theorem cancel_order? {o : Order} (ho : s.order? id = some o) : (cancel s id).order? id = some (Order.cancelled { o with
    withdrawn := o.withdrawn + s.queuedCount id
    closedEmpty := o.closedEmpty + s.emptyBundles id }) := by
  rw [cancel_eq]
  refine endCancel_order? _ (queue_free_of_closeForCancel s id) ?_
  rw [(withdrawn_closesFor s id).order, withdrawEntries_order?, ho]
  rfl

theorem cancel_count_ordersCancelled :
    (cancel s id).count .ordersCancelled = min Config.counterLimit (s.count .ordersCancelled + 1) := by
  rw [cancel_eq, endCancel_count_ordersCancelled, (withdrawn_closesFor s id).cancelled,
    withdrawEntries_count_ordersCancelled]

theorem cancel_count_entriesWithdrawn : (cancel s id).count .entriesWithdrawn =
    min Config.counterLimit (s.count .entriesWithdrawn + s.queuedCount id) := by
  rw [cancel_eq, endCancel_count_entriesWithdrawn, (withdrawn_closesFor s id).withdrawn,
    withdrawEntries_count_entriesWithdrawn]

variable {s id} {k : BayId}

theorem bay_cancel_of_not_closedBy (h : s.closedBy id k = false) : (cancel s id).bay k = s.bay k := by
  rw [cancel_eq, bay_endCancel, bay_closeForCancel_of_not_closedBy (by rwa [closedBy_withdrawEntries]),
    bay_withdrawEntries]

/-- A bay of the order makes its completion test with the bundle closing, entries of other orders waiting at most. -/
theorem bay_cancel_of_closedBy (h : s.closedBy id k = true) : ∃ u, u.bay k = (s.bay k).setClosing ∧
    u.orders.queue <:+ s.orders.queue.filter (fun e => e.order ≠ id) ∧
    (cancel s id).bay k = (completionTest u k false).bay k := by
  obtain ⟨u, hu, hq, ht⟩ := bay_closeForCancel_of_closedBy (queue_free_of_withdrawEntries s id)
    (show (withdrawEntries s id).closedBy id k = true by rwa [closedBy_withdrawEntries])
  rw [bay_withdrawEntries] at hu
  rw [withdrawEntries_queue] at hq
  exact ⟨u, hu, hq, by rw [cancel_eq, bay_endCancel, ht]⟩

/-- The bay of another order's bundle is not touched (R135). -/
theorem bay_cancel_of_other (h : ∀ b, (s.bay k).bundle = some b → b.order ≠ id) : (cancel s id).bay k = s.bay k := by
  refine bay_cancel_of_not_closedBy (Bool.eq_false_iff.mpr fun hclosed => ?_)
  obtain ⟨-, b, hb, hid⟩ := State.closedBy_iff.mp hclosed
  exact h b hb hid

/-- A bay neither FILLING nor in FAULT with origin FILLING is not touched (R135). -/
theorem bay_cancel_of_past_filling (hf : (s.bay k).state ≠ .filling)
    (hfault : (s.bay k).state ≠ .fault ∨ (s.bay k).origin ≠ some .filling) : (cancel s id).bay k = s.bay k := by
  refine bay_cancel_of_not_closedBy (Bool.eq_false_iff.mpr fun hclosed => ?_)
  obtain ⟨hstate | ⟨hstate, horigin⟩, -⟩ := State.closedBy_iff.mp hclosed
  · exact hf hstate
  · exact hfault.elim (· hstate) (· horigin)

/-- In FAULT with origin FILLING the bundle is set closing and the test waits for the end of the fault (R135). -/
theorem bay_cancel_of_fault {b : Bundle} (hf : (s.bay k).state = .fault) (horigin : (s.bay k).origin = some .filling)
    (hb : (s.bay k).bundle = some b) (hid : b.order = id) :
    (cancel s id).bay k = { s.bay k with bundle := some { b with closing := true } } := by
  obtain ⟨u, hu, -, ht⟩ := bay_cancel_of_closedBy (State.closedBy_iff.mpr ⟨.inr ⟨hf, horigin⟩, b, hb, hid⟩)
  rw [Bay.setClosing, hb] at hu
  rw [ht, completionTest_of_not_filling u (by rw [hu, hf]; decide), hu]
  rfl

section Filling

variable {b : Bundle} (hf : (s.bay k).state = .filling) (hb : (s.bay k).bundle = some b) (hid : b.order = id)
include hf hb hid

/-- A FILLING bay of the order makes its test on the closing bundle. -/
theorem bay_cancel_of_filling : ∃ u, u.bay k = { s.bay k with bundle := some { b with closing := true } } ∧
    (u.bay k).state = .filling ∧ (u.bay k).bundle = some { b with closing := true } ∧
    u.orders.queue <:+ s.orders.queue.filter (fun e => e.order ≠ id) ∧
    (cancel s id).bay k = (completionTest u k false).bay k := by
  obtain ⟨u, hset, hq, ht⟩ := bay_cancel_of_closedBy (State.closedBy_iff.mpr ⟨.inl hf, b, hb, hid⟩)
  have hu : u.bay k = { s.bay k with bundle := some { b with closing := true } } := by
    rw [hset, Bay.setClosing, hb]; rfl
  exact ⟨u, hu, by rw [hu, hf], by rw [hu], hq, ht⟩

theorem bay_cancel_of_committed (hc : 0 < b.committed) :
    (cancel s id).bay k = { s.bay k with bundle := some { b with closing := true } } := by
  obtain ⟨u, hu, hfu, hbu, -, ht⟩ := bay_cancel_of_filling hf hb hid
  rw [ht, completionTest_of_committed hfu hbu false hc, hu]

theorem bay_cancel_of_complete (hc : b.committed = 0) (htotal : b.total = b.copy.target) :
    (cancel s id).bay k = { s.bay k with
      state := .settling, origin := none, settleTimer := some (s.bay k).settleTime
      bundle := some { b with closing := true } } := by
  obtain ⟨u, hu, hfu, hbu, -, ht⟩ := bay_cancel_of_filling hf hb hid
  rw [ht, completionTest_of_complete hfu hbu false hc htotal,
    bay_startSettle, hu]

theorem bay_cancel_of_short (hc : b.committed = 0) (h0 : 0 < b.total) (htotal : b.total ≠ b.copy.target) :
    (cancel s id).bay k = { s.bay k with
      state := .settling, origin := none, settleTimer := some (s.bay k).settleTime
      bundle := some { b with closing := true, short := true } } := by
  obtain ⟨u, hu, hfu, hbu, -, ht⟩ := bay_cancel_of_filling hf hb hid
  rw [ht, completionTest_of_short hfu hbu false hc rfl htotal h0,
    bay_startSettle, State.bay_bump, bay_updBundle, hu]
  rfl

/-- A bundle that closes empty leaves its bay EMPTY and starved when only entries of the order waited. -/
theorem bay_cancel_of_empty (hc : b.committed = 0) (h0 : b.total = 0) (htarget : 0 < b.copy.target)
    (hq : ∀ e ∈ s.orders.queue, e.order = id) : (cancel s id).bay k = { s.bay k with
      state := .empty, origin := none, bundle := none, settleTimer := none, starved := true } := by
  obtain ⟨u, hu, hfu, hbu, hqueue, ht⟩ := bay_cancel_of_filling hf hb hid
  have hnil : u.orders.queue = [] := by
    have hnone : s.orders.queue.filter (fun e => e.order ≠ id) = [] := by simpa using hq
    rwa [hnone, List.suffix_nil] at hqueue
  rw [ht, completionTest_of_empty hfu hbu false hc rfl h0 htarget,
    bay_closeEmpty_of_queue_nil hnil, hu]

end Filling

end Cancel

end Sys2Proof.Machine

namespace Sys2Proof.Claims

open Sys2Proof Sys2Proof.Machine

/-! ## What the requests find -/

@[simp] theorem found_bay (s : State) (k : BayId) : (found s).bay k = s.bay k := by
  rw [found, heard_frame]; rfl

@[simp] theorem found_queue (s : State) : (found s).orders.queue = s.orders.queue := heard_queue _

@[simp] theorem found_queuedCount (s : State) (id : Nat) : (found s).queuedCount id = s.queuedCount id := by
  simp [State.queuedCount]

@[simp] theorem found_count (s : State) (c : Counter) : (found s).count c = s.count c := by
  rw [found, heard_frame]; rfl

@[simp] theorem found_emptyBundles (s : State) (id : Nat) : (found s).emptyBundles id = s.emptyBundles id := by
  simp [State.emptyBundles]

theorem okOf_count_ne {c : Counter} (hc : c ≠ .linkAnsweredOk) (code : Byte) (p : List Byte) (h : State) :
    (okOf code p h).count c = h.count c := by
  rw [← answer_ok]
  exact State.count_bump_ne _ hc

/-! ## The replies to the two requests (R169, R172) -/

theorem fieldAt_id {id : Nat} (h : id ≤ 65535) : fieldAt (toBytes 2 id) 0 2 = id :=
  fieldAt_toBytes (by omega)

theorem cancellable_of_mem {v : OrderState} (h : v ∈ [.loaded, .active, .emitted, .faulted]) : v.cancellable = true := by
  cases v with
  | complete | cancelled => simp at h
  | _ => rfl

theorem cancellable_of_ended {v : OrderState} (h : v = .complete ∨ v = .cancelled) : v.cancellable = false := by
  obtain rfl | rfl := h <;> rfl

theorem retirable_iff {o : Order} :
    o.retirable = true ↔ o.state = .complete ∨ (o.state = .cancelled ∧ o.settled = true) := by
  simp [Order.retirable]

section Replies

variable {p : List Byte} {h : State} {id : Nat} {o : Order} (hp : fieldAt p 0 2 = id) (h1 : 1 ≤ id)
  (ho : h.order? id = some o)
include hp h1 ho

theorem cancelOrder_of_cancellable (hc : o.state.cancellable = true) : cancelOrder p h = taken (cancel h id) := by
  rw [cancelOrder, orderRequest_some hp h1 ho, if_pos hc, State.order?_id ho]

theorem cancelOrder_of_not_cancellable (hc : o.state.cancellable = false) : cancelOrder p h = .error .wrongState := by
  simp [cancelOrder, orderRequest_some hp h1 ho, hc]

theorem retireOrder_of_retirable (hr : o.retirable = true) : retireOrder p h =
    taken { h with orders := { h.orders with table := h.orders.table.filter fun x => x.id ≠ id } } := by
  rw [retireOrder, orderRequest_some hp h1 ho, if_pos hr, State.order?_id ho]

theorem retireOrder_of_not_retirable (hr : ¬ o.retirable = true) : retireOrder p h = .error .wrongState := by
  rw [retireOrder, orderRequest_some hp h1 ho, if_neg hr]

end Replies

/-- CANCEL ORDER is refused as its reply says. -/
theorem exec_cancelOrder_refused {s : State} {id : Nat} (hr : Receives s (toBytes 2 id)) {e : Status} (he : e ≠ .ok)
    (hf : cancelOrder (toBytes 2 id) (found s) = .error e) :
    exec (.cancelOrder (toBytes 2 id)) s = .next (refusedOf 0x53#8 e (found s)) :=
  takeEvent_request_refused hr 0x53#8 rfl he hf

/-- RETIRE ORDER is refused as its reply says. -/
theorem exec_retireOrder_refused {s : State} {id : Nat} (hr : Receives s (toBytes 2 id)) {e : Status} (he : e ≠ .ok)
    (hf : retireOrder (toBytes 2 id) (found s) = .error e) :
    exec (.retireOrder (toBytes 2 id)) s = .next (refusedOf 0x55#8 e (found s)) :=
  takeEvent_request_refused hr 0x55#8 rfl he hf

/-- Settles O54: step 2 of a cancellation by a fold over the closing bays, in which entries of other orders alone are taken,
between the withdrawal of the entries and the order's own completion test. -/
theorem cancelAndRetireOrder : Obligations.CancelAndRetireOrder := by
  intro s id o h p hr hid
  have hp : fieldAt p 0 2 = id := fieldAt_id hid
  refine ⟨fun h0 => ⟨?_, ?_⟩, fun h1 hnone => ⟨?_, ?_⟩, fun h1 ho => ⟨fun hstate => ?cancels, fun hended => ?wrongState,
    fun hretire => ?retires, fun hlive hunsettled => ?wrongRetire⟩⟩
  · exact exec_cancelOrder_refused hr (by decide) (orderRequest_zero hp h0)
  · exact exec_retireOrder_refused hr (by decide) (orderRequest_zero hp h0)
  · exact exec_cancelOrder_refused hr (by decide) (orderRequest_none hp h1 hnone)
  · exact exec_retireOrder_refused hr (by decide) (orderRequest_none hp h1 hnone)
  case wrongState =>
    exact exec_cancelOrder_refused hr (by decide) (cancelOrder_of_not_cancellable hp h1 ho (cancellable_of_ended hended))
  case retires =>
    exact takeEvent_request_taken hr 0x55#8 rfl (retireOrder_of_retirable hp h1 ho (retirable_iff.mpr hretire))
  case wrongRetire =>
    have hnot : ¬ o.retirable = true := by
      rw [retirable_iff]
      grind
    exact exec_retireOrder_refused hr (by decide) (retireOrder_of_not_retirable hp h1 ho hnot)
  case cancels =>
    have hbay : ∀ k, h.bay k = s.bay k := found_bay s
    have hexec : exec (.cancelOrder p) s = .next (okOf 0x53#8 [] (cancel h id)) :=
      takeEvent_request_taken hr 0x53#8 rfl (cancelOrder_of_cancellable hp h1 ho (cancellable_of_mem hstate))
    obtain ⟨hqueue, hrun, hinterp⟩ := cancel_givenUp h id
    refine ⟨_, _, hexec, rfl, cancel_order? h id ho, rfl, ?withdrawn, rfl, rfl, rfl, ?settled, hqueue, hrun, hinterp,
      ?closedEmpty, fun k hother => ?others,
      fun k b hb hown => ⟨?stays, fun hf hc => ⟨?complete, ?short, ?empty⟩, ?untouched⟩, ?cancelled, ?entries⟩
    case withdrawn => exact congrArg (o.withdrawn + ·) (found_queuedCount s id)
    case closedEmpty => exact congrArg (o.closedEmpty + ·) (found_emptyBundles s id)
    case settled =>
      intro hset
      simp [Order.cancelled, Order.allEnded, hset]
    case others => exact (bay_cancel_of_other (by rwa [hbay])).trans (hbay k)
    case stays =>
      rw [← hbay] at hb ⊢
      rintro (⟨hf, hc⟩ | ⟨hf, horigin⟩)
      · exact bay_cancel_of_committed hf hb hown hc
      · exact bay_cancel_of_fault hf horigin hb hown
    case complete =>
      rw [← hbay] at hb hf ⊢
      exact bay_cancel_of_complete hf hb hown hc
    case short =>
      rw [← hbay] at hb hf ⊢
      exact bay_cancel_of_short hf hb hown hc
    case empty =>
      rw [← hbay] at hb hf ⊢
      rw [← found_queue]
      exact bay_cancel_of_empty hf hb hown hc
    case untouched =>
      rw [← hbay]
      exact bay_cancel_of_past_filling
    case cancelled =>
      rw [okOf_count_ne (by decide), cancel_count_ordersCancelled, found_count]
      rfl
    case entries =>
      rw [okOf_count_ne (by decide), cancel_count_entriesWithdrawn, found_count, found_queuedCount]
      rfl

end Sys2Proof.Claims
end

section
/-! PROOF. Notices, their mask and ATTN, the counters and the infeed gate. -/

namespace Sys2Proof.Machine

open Sys2Proof

/-! ## ATTN and the infeed gate (R199, R36) -/

/-- Every place of a notice set is the bit of a notice (Table 11-4). -/
theorem Notice.idx_ofNat : ∀ i : Fin 17, (Notice.ofNat i).idx = i := by decide

/-- A place is in a set without the masked bits exactly if it is in the set and not masked. -/
theorem getLsbD_and_not_mask_iff (v m : BitVec 17) (i : Fin 17) :
    (v &&& ~~~m).getLsbD i = true ↔ v.getLsbD i = true ∧ m.getLsbD i = false := by
  simp only [BitVec.getLsbD_and, BitVec.getLsbD_not, i.isLt, decide_true, Bool.true_and, Bool.and_eq_true,
    Bool.not_eq_true']

/-- A set without the masked bits is not empty exactly if some notice in it is unmasked. -/
theorem and_not_mask_ne_zero_iff (v m : BitVec 17) :
    v &&& ~~~m ≠ 0 ↔ ∃ n : Notice, v.getLsbD n.idx = true ∧ m.getLsbD n.idx = false := by
  constructor
  · intro h
    obtain ⟨i, hi⟩ : ∃ i : Fin 17, (v &&& ~~~m).getLsbD i = true := by
      by_contra! hnone
      exact h (BitVec.eq_of_getLsbD_eq fun i hi => by simpa using hnone ⟨i, hi⟩)
    exact ⟨Notice.ofNat i, by rwa [Notice.idx_ofNat, ← getLsbD_and_not_mask_iff]⟩
  · rintro ⟨n, hn⟩ h
    rw [← getLsbD_and_not_mask_iff, h] at hn
    simp at hn

variable (s : State)

/-- Outside reset ATTN is asserted exactly while an unmasked notice is pending (R199). -/
theorem attn_iff (h : s.resetPin = false) :
    s.attn = true ↔ ∃ n : Notice, s.isPending n = true ∧ s.link.mask.getLsbD n.idx = false := by
  simp only [State.attn, h, Bool.not_false, Bool.and_true, decide_eq_true_eq, and_not_mask_ne_zero_iff,
    State.isPending]

/-- Outside reset the gate output follows the gate condition (R36). -/
theorem gateOpen_of_not_reset (h : s.resetPin = false) : s.gateOpen = s.gateCondition := by
  simp [State.gateOpen, h]

/-- A spindle below one of its thresholds is not SPENT (R32). -/
theorem Spindle.isSpent_eq_false_iff (w : Spindle) : w.isSpent = false ↔ w.wear < w.warn ∨ w.wear < w.limit := by
  by_cases hwarn : w.wear < w.warn
  · simp [Spindle.isSpent, Spindle.state, hwarn]
  · by_cases hlimit : w.wear < w.limit <;> simp [Spindle.isSpent, Spindle.state, hwarn, hlimit]

/-- No spindle is SPENT exactly if each is below one of its thresholds (R32, R36). -/
theorem Moulder.noneSpent_iff (m : Moulder) : m.noneSpent = true ↔
    ∀ i : SpindleId, (m.spindle i).wear < (m.spindle i).warn ∨ (m.spindle i).wear < (m.spindle i).limit := by
  simp only [Moulder.noneSpent, Bool.and_eq_true, Bool.not_eq_true', Spindle.isSpent_eq_false_iff]
  constructor
  · rintro ⟨⟨⟨htop, hbottom⟩, htongue⟩, hgroove⟩ i
    cases i with
    | top => exact htop
    | bottom => exact hbottom
    | tongue => exact htongue
    | groove => exact hgroove
  · exact fun h => ⟨⟨⟨h .top, h .bottom⟩, h .tongue⟩, h .groove⟩

/-- The gate condition is the conjunction of its six inputs (R36). -/
theorem gateCondition_iff : s.gateCondition = true ↔
    s.link.line = .running ∧ s.moulder.state = .running ∧
      (∀ i : SpindleId, (s.moulder.spindle i).wear < (s.moulder.spindle i).warn ∨
        (s.moulder.spindle i).wear < (s.moulder.spindle i).limit) ∧
      s.strips.length < 92 ∧ s.link.hold = false ∧ s.lineal.infeedHold = false := by
  simp only [State.gateCondition, Bool.and_eq_true, Bool.not_eq_true', decide_eq_true_eq, Moulder.noneSpent_iff,
    and_assoc]
  rfl

/-! ## The replies to the requests on notices and counters (R200, R201) -/

/-- A set is read back from the number of its bits (R206). -/
theorem setOf_toNat {w : Nat} (m : BitVec w) : setOf w m.toNat = some m := by
  simp [setOf, m.isLt]

/-- A number with a bit above the members codes no set (R206). -/
theorem setOf_of_le {w n : Nat} (h : 2 ^ w ≤ n) : setOf w n = none := by
  simp [setOf, h.not_gt]

/-- SET NOTICE MASK replaces the mask (R200). -/
theorem setNoticeMask_toNat (m : BitVec 17) :
    setNoticeMask (toBytes 4 m.toNat) s = taken (s.updLink fun l => { l with mask := m }) := by
  have hfield : fieldAt (toBytes 4 m.toNat) 0 4 = m.toNat := fieldAt_toBytes (by have := m.isLt; omega)
  simp [setNoticeMask, hfield, setOf_toNat]

/-- SET NOTICE MASK refuses a mask with a bit above the notices (R200, R206). -/
theorem setNoticeMask_of_le {n : Nat} (h : 2 ^ 17 ≤ n) (hn : n < 2 ^ 32) :
    setNoticeMask (toBytes 4 n) s = .error .badArgument := by
  have hfield : fieldAt (toBytes 4 n) 0 4 = n := fieldAt_toBytes (by omega)
  simp only [setNoticeMask, hfield, setOf_of_le h]

/-- Every counter of cleared counters is 0 (R201). -/
theorem count_cleared (c : Counter) : State.count { s with counters := Vector.replicate 63 0 } c = 0 := by
  simp [State.count]

end Sys2Proof.Machine

namespace Sys2Proof.Claims

open Sys2Proof Sys2Proof.Machine

variable {s : State}

/-! ## The answers (R200, R201) -/

@[simp] theorem found_notices (s : State) : (found s).link.notices = s.link.notices := by
  rw [found, heard_frame]; rfl

@[simp] theorem found_mask (s : State) : (found s).link.mask = s.link.mask := by
  rw [found, heard_frame]; rfl

/-- The OK answer is counted once more (R194). -/
theorem okOf_count_linkAnsweredOk (code : Byte) (p : List Byte) (h : State) :
    (okOf code p h).count .linkAnsweredOk = min 65535 (h.count .linkAnsweredOk + 1) := by
  rw [← answer_ok]
  exact State.count_bump_self _ _

/-- READ NOTICES returns the set and the mask that are found, and clears the set (R200). -/
theorem exec_readNotices (hr : Receives s []) : exec (.readNotices []) s = .next
    (okOf 0x71#8 (toBytes 4 s.link.notices.toNat ++ toBytes 4 s.link.mask.toNat)
      { found s with link := { (found s).link with notices := 0 } }) := by
  rw [← found_notices, ← found_mask]
  exact takeEvent_request hr 0x71#8 readNotices rfl

/-- SET NOTICE MASK replaces the mask and leaves the set (R200). -/
theorem exec_setNoticeMask (m : BitVec 17) (hr : Receives s (toBytes 4 m.toNat)) :
    exec (.setNoticeMask (toBytes 4 m.toNat)) s = .next
      (okOf 0x72#8 [] { found s with link := { (found s).link with mask := m } }) :=
  takeEvent_request_taken hr 0x72#8 (by simp) (setNoticeMask_toNat _ m)

/-- SET NOTICE MASK with a bit above the notices is refused (R200, R206). -/
theorem exec_setNoticeMask_refused {n : Nat} (hr : Receives s (toBytes 4 n)) (h : 2 ^ 17 ≤ n) (hn : n < 2 ^ 32) :
    exec (.setNoticeMask (toBytes 4 n)) s = .next (refusedOf 0x72#8 .badArgument (found s)) :=
  takeEvent_request_refused hr 0x72#8 (by simp) (by decide) (setNoticeMask_of_le _ h hn)

/-- CLEAR COUNTERS zeroes the counters before its own answer is counted (R201). -/
theorem exec_clearCounters (hr : Receives s []) : exec (.clearCounters []) s = .next
    (okOf 0x73#8 [] { found s with counters := Vector.replicate 63 0 }) :=
  takeEvent_request_taken hr 0x73#8 (f := clearCounters) rfl rfl

/-- Settles O18, request by request; ATTN and the gate from what defines them. -/
theorem noticesCountersAttnAndGate : Obligations.NoticesCountersAttnAndGate := by
  intro s
  refine ⟨fun n m => ?raised, exec_readNotices, exec_setNoticeMask, fun n hr h hn => ?refused, fun hr => ?cleared,
    fun hpin => ⟨attn_iff s hpin, gateOpen_of_not_reset s hpin, gateCondition_iff s⟩⟩
  case raised => rw [State.isPending_raise, Bool.or_eq_true, decide_eq_true_eq, eq_comm (a := n)]
  case refused => exact ⟨_, exec_setNoticeMask_refused hr h hn, found_mask s, rfl⟩
  case cleared =>
    refine ⟨_, exec_clearCounters hr, ?_, fun c hc => ?_, rfl⟩
    · rw [okOf_count_linkAnsweredOk, count_cleared]; rfl
    · rw [okOf_count_ne hc, count_cleared]

end Sys2Proof.Claims
end

section
set_option Elab.async false
/-! PROOF. The accessors of the state, bay, slot, record, calendar entry, order, counter and head, under the updates
that leave them. -/

namespace Sys2Proof.Machine

open Sys2Proof

variable (s : State)

/-! What leaves `bay`. -/

@[simp] theorem State.bay_bumpBy (c : Counter) (n : Nat) (j : BayId) :
    (s.bumpBy c n).bay j = s.bay j := rfl
@[simp] theorem State.bay_pulse (p : Pulse) (j : BayId) :
    (s.pulse p).bay j = s.bay j := rfl
@[simp] theorem State.bay_clearPulses (j : BayId) :
    s.clearPulses.bay j = s.bay j := rfl
@[simp] theorem State.bay_updStrip (tag : Nat) (f : Strip → Strip) (j : BayId) :
    (s.updStrip tag f).bay j = s.bay j := rfl
@[simp] theorem State.bay_setSlot (n : Serial) (l : LugSlot) (j : BayId) :
    (s.setSlot n l).bay j = s.bay j := rfl
@[simp] theorem State.bay_setHead (h : HeadId) (r : Head) (j : BayId) :
    (s.setHead h r).bay j = s.bay j := by cases h <;> rfl
@[simp] theorem State.bay_updHead (h : HeadId) (f : Head → Head) (j : BayId) :
    (s.updHead h f).bay j = s.bay j := by cases h <;> rfl
@[simp] theorem State.bay_updCal (t : Serial) (f : CalendarEntry → CalendarEntry) (j : BayId) :
    (s.updCal t f).bay j = s.bay j := rfl
@[simp] theorem State.bay_planStarts (t : Serial) (c : Nat) (j : BayId) :
    (s.planStarts t c).bay j = s.bay j := rfl
@[simp] theorem State.bay_freeStarts (t : Serial) (c : Nat) (j : BayId) :
    (s.freeStarts t c).bay j = s.bay j := rfl
@[simp] theorem State.bay_makeStarts (t : Serial) (c : Nat) (j : BayId) :
    (s.makeStarts t c).bay j = s.bay j := rfl
@[simp] theorem State.bay_updLink (f : Link → Link) (j : BayId) :
    (s.updLink f).bay j = s.bay j := rfl
@[simp] theorem State.bay_updChain (f : Chain → Chain) (j : BayId) :
    (s.updChain f).bay j = s.bay j := rfl
@[simp] theorem State.bay_updMatcher (f : Matcher → Matcher) (j : BayId) :
    (s.updMatcher f).bay j = s.bay j := rfl
@[simp] theorem State.bay_setPassage (p : Option Passage) (j : BayId) :
    (s.setPassage p).bay j = s.bay j := rfl

/-! What leaves `slot`. -/

@[simp] theorem State.slot_bumpBy (c : Counter) (n : Nat) (m : Serial) :
    (s.bumpBy c n).slot m = s.slot m := rfl
@[simp] theorem State.slot_bump (c : Counter) (m : Serial) :
    (s.bump c).slot m = s.slot m := rfl
@[simp] theorem State.slot_raise (n : Notice) (m : Serial) :
    (s.raise n).slot m = s.slot m := rfl
@[simp] theorem State.slot_pulse (p : Pulse) (m : Serial) :
    (s.pulse p).slot m = s.slot m := rfl
@[simp] theorem State.slot_clearPulses (m : Serial) :
    s.clearPulses.slot m = s.slot m := rfl
@[simp] theorem State.slot_updStrip (tag : Nat) (f : Strip → Strip) (m : Serial) :
    (s.updStrip tag f).slot m = s.slot m := rfl
@[simp] theorem State.slot_setHead (h : HeadId) (r : Head) (m : Serial) :
    (s.setHead h r).slot m = s.slot m := by cases h <;> rfl
@[simp] theorem State.slot_updHead (h : HeadId) (f : Head → Head) (m : Serial) :
    (s.updHead h f).slot m = s.slot m := by cases h <;> rfl
@[simp] theorem State.slot_updBay (k : BayId) (f : Bay → Bay) (m : Serial) :
    (s.updBay k f).slot m = s.slot m := rfl
@[simp] theorem State.slot_updBundle (k : BayId) (f : Bundle → Bundle) (m : Serial) :
    (s.updBundle k f).slot m = s.slot m := rfl
@[simp] theorem State.slot_updOrder (id : Nat) (f : Order → Order) (m : Serial) :
    (s.updOrder id f).slot m = s.slot m := rfl
@[simp] theorem State.slot_updInterp (f : Interpreter → Interpreter) (m : Serial) :
    (s.updInterp f).slot m = s.slot m := rfl
@[simp] theorem State.slot_updCal (t : Serial) (f : CalendarEntry → CalendarEntry) (m : Serial) :
    (s.updCal t f).slot m = s.slot m := rfl
@[simp] theorem State.slot_planStarts (t : Serial) (c : Nat) (m : Serial) :
    (s.planStarts t c).slot m = s.slot m := rfl
@[simp] theorem State.slot_freeStarts (t : Serial) (c : Nat) (m : Serial) :
    (s.freeStarts t c).slot m = s.slot m := rfl
@[simp] theorem State.slot_makeStarts (t : Serial) (c : Nat) (m : Serial) :
    (s.makeStarts t c).slot m = s.slot m := rfl
@[simp] theorem State.slot_updLink (f : Link → Link) (m : Serial) :
    (s.updLink f).slot m = s.slot m := rfl
@[simp] theorem State.slot_updMatcher (f : Matcher → Matcher) (m : Serial) :
    (s.updMatcher f).slot m = s.slot m := rfl
@[simp] theorem State.slot_setPassage (p : Option Passage) (m : Serial) :
    (s.setPassage p).slot m = s.slot m := rfl

/-! What leaves `strip?`. -/

@[simp] theorem State.strip?_bumpBy (c : Counter) (n : Nat) (i : Nat) :
    (s.bumpBy c n).strip? i = s.strip? i := rfl
@[simp] theorem State.strip?_bump (c : Counter) (i : Nat) :
    (s.bump c).strip? i = s.strip? i := rfl
@[simp] theorem State.strip?_raise (n : Notice) (i : Nat) :
    (s.raise n).strip? i = s.strip? i := rfl
@[simp] theorem State.strip?_pulse (p : Pulse) (i : Nat) :
    (s.pulse p).strip? i = s.strip? i := rfl
@[simp] theorem State.strip?_clearPulses (i : Nat) :
    s.clearPulses.strip? i = s.strip? i := rfl
@[simp] theorem State.strip?_setSlot (n : Serial) (l : LugSlot) (i : Nat) :
    (s.setSlot n l).strip? i = s.strip? i := rfl
@[simp] theorem State.strip?_setHead (h : HeadId) (r : Head) (i : Nat) :
    (s.setHead h r).strip? i = s.strip? i := by cases h <;> rfl
@[simp] theorem State.strip?_updHead (h : HeadId) (f : Head → Head) (i : Nat) :
    (s.updHead h f).strip? i = s.strip? i := by cases h <;> rfl
@[simp] theorem State.strip?_updBay (k : BayId) (f : Bay → Bay) (i : Nat) :
    (s.updBay k f).strip? i = s.strip? i := rfl
@[simp] theorem State.strip?_updBundle (k : BayId) (f : Bundle → Bundle) (i : Nat) :
    (s.updBundle k f).strip? i = s.strip? i := rfl
@[simp] theorem State.strip?_updOrder (id : Nat) (f : Order → Order) (i : Nat) :
    (s.updOrder id f).strip? i = s.strip? i := rfl
@[simp] theorem State.strip?_updInterp (f : Interpreter → Interpreter) (i : Nat) :
    (s.updInterp f).strip? i = s.strip? i := rfl
@[simp] theorem State.strip?_updCal (t : Serial) (f : CalendarEntry → CalendarEntry) (i : Nat) :
    (s.updCal t f).strip? i = s.strip? i := rfl
@[simp] theorem State.strip?_planStarts (t : Serial) (c : Nat) (i : Nat) :
    (s.planStarts t c).strip? i = s.strip? i := rfl
@[simp] theorem State.strip?_freeStarts (t : Serial) (c : Nat) (i : Nat) :
    (s.freeStarts t c).strip? i = s.strip? i := rfl
@[simp] theorem State.strip?_makeStarts (t : Serial) (c : Nat) (i : Nat) :
    (s.makeStarts t c).strip? i = s.strip? i := rfl
@[simp] theorem State.strip?_updLink (f : Link → Link) (i : Nat) :
    (s.updLink f).strip? i = s.strip? i := rfl
@[simp] theorem State.strip?_updChain (f : Chain → Chain) (i : Nat) :
    (s.updChain f).strip? i = s.strip? i := rfl
@[simp] theorem State.strip?_updMatcher (f : Matcher → Matcher) (i : Nat) :
    (s.updMatcher f).strip? i = s.strip? i := rfl
@[simp] theorem State.strip?_setPassage (p : Option Passage) (i : Nat) :
    (s.setPassage p).strip? i = s.strip? i := rfl

/-! What leaves `calEntry`. -/

@[simp] theorem State.calEntry_bumpBy (c : Counter) (n : Nat) (u : Serial) :
    (s.bumpBy c n).calEntry u = s.calEntry u := rfl
@[simp] theorem State.calEntry_bump (c : Counter) (u : Serial) :
    (s.bump c).calEntry u = s.calEntry u := rfl
@[simp] theorem State.calEntry_raise (n : Notice) (u : Serial) :
    (s.raise n).calEntry u = s.calEntry u := rfl
@[simp] theorem State.calEntry_pulse (p : Pulse) (u : Serial) :
    (s.pulse p).calEntry u = s.calEntry u := rfl
@[simp] theorem State.calEntry_clearPulses (u : Serial) :
    s.clearPulses.calEntry u = s.calEntry u := rfl
@[simp] theorem State.calEntry_updStrip (tag : Nat) (f : Strip → Strip) (u : Serial) :
    (s.updStrip tag f).calEntry u = s.calEntry u := rfl
@[simp] theorem State.calEntry_setSlot (n : Serial) (l : LugSlot) (u : Serial) :
    (s.setSlot n l).calEntry u = s.calEntry u := rfl
@[simp] theorem State.calEntry_setHead (h : HeadId) (r : Head) (u : Serial) :
    (s.setHead h r).calEntry u = s.calEntry u := by cases h <;> rfl
@[simp] theorem State.calEntry_updHead (h : HeadId) (f : Head → Head) (u : Serial) :
    (s.updHead h f).calEntry u = s.calEntry u := by cases h <;> rfl
@[simp] theorem State.calEntry_updBay (k : BayId) (f : Bay → Bay) (u : Serial) :
    (s.updBay k f).calEntry u = s.calEntry u := rfl
@[simp] theorem State.calEntry_updBundle (k : BayId) (f : Bundle → Bundle) (u : Serial) :
    (s.updBundle k f).calEntry u = s.calEntry u := rfl
@[simp] theorem State.calEntry_updOrder (id : Nat) (f : Order → Order) (u : Serial) :
    (s.updOrder id f).calEntry u = s.calEntry u := rfl
@[simp] theorem State.calEntry_updInterp (f : Interpreter → Interpreter) (u : Serial) :
    (s.updInterp f).calEntry u = s.calEntry u := rfl
@[simp] theorem State.calEntry_updLink (f : Link → Link) (u : Serial) :
    (s.updLink f).calEntry u = s.calEntry u := rfl
@[simp] theorem State.calEntry_updChain (f : Chain → Chain) (u : Serial) :
    (s.updChain f).calEntry u = s.calEntry u := rfl
@[simp] theorem State.calEntry_updMatcher (f : Matcher → Matcher) (u : Serial) :
    (s.updMatcher f).calEntry u = s.calEntry u := rfl
@[simp] theorem State.calEntry_setPassage (p : Option Passage) (u : Serial) :
    (s.setPassage p).calEntry u = s.calEntry u := rfl

/-! What leaves `order?`. -/

@[simp] theorem State.order?_bumpBy (c : Counter) (n : Nat) (i : Nat) :
    (s.bumpBy c n).order? i = s.order? i := rfl
@[simp] theorem State.order?_bump (c : Counter) (i : Nat) :
    (s.bump c).order? i = s.order? i := rfl
@[simp] theorem State.order?_raise (n : Notice) (i : Nat) :
    (s.raise n).order? i = s.order? i := rfl
@[simp] theorem State.order?_pulse (p : Pulse) (i : Nat) :
    (s.pulse p).order? i = s.order? i := rfl
@[simp] theorem State.order?_clearPulses (i : Nat) :
    s.clearPulses.order? i = s.order? i := rfl
@[simp] theorem State.order?_updStrip (tag : Nat) (f : Strip → Strip) (i : Nat) :
    (s.updStrip tag f).order? i = s.order? i := rfl
@[simp] theorem State.order?_setSlot (n : Serial) (l : LugSlot) (i : Nat) :
    (s.setSlot n l).order? i = s.order? i := rfl
@[simp] theorem State.order?_setHead (h : HeadId) (r : Head) (i : Nat) :
    (s.setHead h r).order? i = s.order? i := by cases h <;> rfl
@[simp] theorem State.order?_updHead (h : HeadId) (f : Head → Head) (i : Nat) :
    (s.updHead h f).order? i = s.order? i := by cases h <;> rfl
@[simp] theorem State.order?_updBay (k : BayId) (f : Bay → Bay) (i : Nat) :
    (s.updBay k f).order? i = s.order? i := rfl
@[simp] theorem State.order?_updBundle (k : BayId) (f : Bundle → Bundle) (i : Nat) :
    (s.updBundle k f).order? i = s.order? i := rfl
@[simp] theorem State.order?_updInterp (f : Interpreter → Interpreter) (i : Nat) :
    (s.updInterp f).order? i = s.order? i := rfl
@[simp] theorem State.order?_updCal (t : Serial) (f : CalendarEntry → CalendarEntry) (i : Nat) :
    (s.updCal t f).order? i = s.order? i := rfl
@[simp] theorem State.order?_planStarts (t : Serial) (c : Nat) (i : Nat) :
    (s.planStarts t c).order? i = s.order? i := rfl
@[simp] theorem State.order?_freeStarts (t : Serial) (c : Nat) (i : Nat) :
    (s.freeStarts t c).order? i = s.order? i := rfl
@[simp] theorem State.order?_makeStarts (t : Serial) (c : Nat) (i : Nat) :
    (s.makeStarts t c).order? i = s.order? i := rfl
@[simp] theorem State.order?_updLink (f : Link → Link) (i : Nat) :
    (s.updLink f).order? i = s.order? i := rfl
@[simp] theorem State.order?_updChain (f : Chain → Chain) (i : Nat) :
    (s.updChain f).order? i = s.order? i := rfl
@[simp] theorem State.order?_updMatcher (f : Matcher → Matcher) (i : Nat) :
    (s.updMatcher f).order? i = s.order? i := rfl
@[simp] theorem State.order?_setPassage (p : Option Passage) (i : Nat) :
    (s.setPassage p).order? i = s.order? i := rfl

/-! What leaves `queuedCount`. -/

@[simp] theorem State.queuedCount_bumpBy (c : Counter) (n : Nat) (i : Nat) :
    (s.bumpBy c n).queuedCount i = s.queuedCount i := rfl
@[simp] theorem State.queuedCount_bump (c : Counter) (i : Nat) :
    (s.bump c).queuedCount i = s.queuedCount i := rfl
@[simp] theorem State.queuedCount_raise (n : Notice) (i : Nat) :
    (s.raise n).queuedCount i = s.queuedCount i := rfl
@[simp] theorem State.queuedCount_pulse (p : Pulse) (i : Nat) :
    (s.pulse p).queuedCount i = s.queuedCount i := rfl
@[simp] theorem State.queuedCount_clearPulses (i : Nat) :
    s.clearPulses.queuedCount i = s.queuedCount i := rfl
@[simp] theorem State.queuedCount_updStrip (tag : Nat) (f : Strip → Strip) (i : Nat) :
    (s.updStrip tag f).queuedCount i = s.queuedCount i := rfl
@[simp] theorem State.queuedCount_setSlot (n : Serial) (l : LugSlot) (i : Nat) :
    (s.setSlot n l).queuedCount i = s.queuedCount i := rfl
@[simp] theorem State.queuedCount_setHead (h : HeadId) (r : Head) (i : Nat) :
    (s.setHead h r).queuedCount i = s.queuedCount i := by cases h <;> rfl
@[simp] theorem State.queuedCount_updHead (h : HeadId) (f : Head → Head) (i : Nat) :
    (s.updHead h f).queuedCount i = s.queuedCount i := by cases h <;> rfl
@[simp] theorem State.queuedCount_updBay (k : BayId) (f : Bay → Bay) (i : Nat) :
    (s.updBay k f).queuedCount i = s.queuedCount i := rfl
@[simp] theorem State.queuedCount_updBundle (k : BayId) (f : Bundle → Bundle) (i : Nat) :
    (s.updBundle k f).queuedCount i = s.queuedCount i := rfl
@[simp] theorem State.queuedCount_updOrder (id : Nat) (f : Order → Order) (i : Nat) :
    (s.updOrder id f).queuedCount i = s.queuedCount i := rfl
@[simp] theorem State.queuedCount_updInterp (f : Interpreter → Interpreter) (i : Nat) :
    (s.updInterp f).queuedCount i = s.queuedCount i := rfl
@[simp] theorem State.queuedCount_updCal (t : Serial) (f : CalendarEntry → CalendarEntry) (i : Nat) :
    (s.updCal t f).queuedCount i = s.queuedCount i := rfl
@[simp] theorem State.queuedCount_planStarts (t : Serial) (c : Nat) (i : Nat) :
    (s.planStarts t c).queuedCount i = s.queuedCount i := rfl
@[simp] theorem State.queuedCount_freeStarts (t : Serial) (c : Nat) (i : Nat) :
    (s.freeStarts t c).queuedCount i = s.queuedCount i := rfl
@[simp] theorem State.queuedCount_makeStarts (t : Serial) (c : Nat) (i : Nat) :
    (s.makeStarts t c).queuedCount i = s.queuedCount i := rfl
@[simp] theorem State.queuedCount_updLink (f : Link → Link) (i : Nat) :
    (s.updLink f).queuedCount i = s.queuedCount i := rfl
@[simp] theorem State.queuedCount_updChain (f : Chain → Chain) (i : Nat) :
    (s.updChain f).queuedCount i = s.queuedCount i := rfl
@[simp] theorem State.queuedCount_updMatcher (f : Matcher → Matcher) (i : Nat) :
    (s.updMatcher f).queuedCount i = s.queuedCount i := rfl
@[simp] theorem State.queuedCount_setPassage (p : Option Passage) (i : Nat) :
    (s.setPassage p).queuedCount i = s.queuedCount i := rfl

/-! What leaves `count`. -/

@[simp] theorem State.count_raise (n : Notice) (d : Counter) :
    (s.raise n).count d = s.count d := rfl
@[simp] theorem State.count_pulse (p : Pulse) (d : Counter) :
    (s.pulse p).count d = s.count d := rfl
@[simp] theorem State.count_clearPulses (d : Counter) :
    s.clearPulses.count d = s.count d := rfl
@[simp] theorem State.count_updStrip (tag : Nat) (f : Strip → Strip) (d : Counter) :
    (s.updStrip tag f).count d = s.count d := rfl
@[simp] theorem State.count_setSlot (n : Serial) (l : LugSlot) (d : Counter) :
    (s.setSlot n l).count d = s.count d := rfl
@[simp] theorem State.count_setHead (h : HeadId) (r : Head) (d : Counter) :
    (s.setHead h r).count d = s.count d := by cases h <;> rfl
@[simp] theorem State.count_updHead (h : HeadId) (f : Head → Head) (d : Counter) :
    (s.updHead h f).count d = s.count d := by cases h <;> rfl
@[simp] theorem State.count_updBay (k : BayId) (f : Bay → Bay) (d : Counter) :
    (s.updBay k f).count d = s.count d := rfl
@[simp] theorem State.count_updBundle (k : BayId) (f : Bundle → Bundle) (d : Counter) :
    (s.updBundle k f).count d = s.count d := rfl
@[simp] theorem State.count_updOrder (id : Nat) (f : Order → Order) (d : Counter) :
    (s.updOrder id f).count d = s.count d := rfl
@[simp] theorem State.count_updInterp (f : Interpreter → Interpreter) (d : Counter) :
    (s.updInterp f).count d = s.count d := rfl
@[simp] theorem State.count_updCal (t : Serial) (f : CalendarEntry → CalendarEntry) (d : Counter) :
    (s.updCal t f).count d = s.count d := rfl
@[simp] theorem State.count_planStarts (t : Serial) (c : Nat) (d : Counter) :
    (s.planStarts t c).count d = s.count d := rfl
@[simp] theorem State.count_freeStarts (t : Serial) (c : Nat) (d : Counter) :
    (s.freeStarts t c).count d = s.count d := rfl
@[simp] theorem State.count_makeStarts (t : Serial) (c : Nat) (d : Counter) :
    (s.makeStarts t c).count d = s.count d := rfl
@[simp] theorem State.count_updLink (f : Link → Link) (d : Counter) :
    (s.updLink f).count d = s.count d := rfl
@[simp] theorem State.count_updChain (f : Chain → Chain) (d : Counter) :
    (s.updChain f).count d = s.count d := rfl
@[simp] theorem State.count_updMatcher (f : Matcher → Matcher) (d : Counter) :
    (s.updMatcher f).count d = s.count d := rfl
@[simp] theorem State.count_setPassage (p : Option Passage) (d : Counter) :
    (s.setPassage p).count d = s.count d := rfl

/-! What leaves `head`. -/

@[simp] theorem State.head_bumpBy (c : Counter) (n : Nat) (g : HeadId) :
    (s.bumpBy c n).head g = s.head g := by cases g <;> rfl
@[simp] theorem State.head_bump (c : Counter) (g : HeadId) :
    (s.bump c).head g = s.head g := by cases g <;> rfl
@[simp] theorem State.head_raise (n : Notice) (g : HeadId) :
    (s.raise n).head g = s.head g := by cases g <;> rfl
@[simp] theorem State.head_pulse (p : Pulse) (g : HeadId) :
    (s.pulse p).head g = s.head g := by cases g <;> rfl
@[simp] theorem State.head_clearPulses (g : HeadId) :
    s.clearPulses.head g = s.head g := by cases g <;> rfl
@[simp] theorem State.head_updStrip (tag : Nat) (f : Strip → Strip) (g : HeadId) :
    (s.updStrip tag f).head g = s.head g := by cases g <;> rfl
@[simp] theorem State.head_setSlot (n : Serial) (l : LugSlot) (g : HeadId) :
    (s.setSlot n l).head g = s.head g := by cases g <;> rfl
@[simp] theorem State.head_updBay (k : BayId) (f : Bay → Bay) (g : HeadId) :
    (s.updBay k f).head g = s.head g := by cases g <;> rfl
@[simp] theorem State.head_updBundle (k : BayId) (f : Bundle → Bundle) (g : HeadId) :
    (s.updBundle k f).head g = s.head g := by cases g <;> rfl
@[simp] theorem State.head_updOrder (id : Nat) (f : Order → Order) (g : HeadId) :
    (s.updOrder id f).head g = s.head g := by cases g <;> rfl
@[simp] theorem State.head_updInterp (f : Interpreter → Interpreter) (g : HeadId) :
    (s.updInterp f).head g = s.head g := by cases g <;> rfl
@[simp] theorem State.head_updCal (t : Serial) (f : CalendarEntry → CalendarEntry) (g : HeadId) :
    (s.updCal t f).head g = s.head g := by cases g <;> rfl
@[simp] theorem State.head_planStarts (t : Serial) (c : Nat) (g : HeadId) :
    (s.planStarts t c).head g = s.head g := by cases g <;> rfl
@[simp] theorem State.head_freeStarts (t : Serial) (c : Nat) (g : HeadId) :
    (s.freeStarts t c).head g = s.head g := by cases g <;> rfl
@[simp] theorem State.head_makeStarts (t : Serial) (c : Nat) (g : HeadId) :
    (s.makeStarts t c).head g = s.head g := by cases g <;> rfl
@[simp] theorem State.head_updLink (f : Link → Link) (g : HeadId) :
    (s.updLink f).head g = s.head g := by cases g <;> rfl
@[simp] theorem State.head_updChain (f : Chain → Chain) (g : HeadId) :
    (s.updChain f).head g = s.head g := by cases g <;> rfl
@[simp] theorem State.head_updMatcher (f : Matcher → Matcher) (g : HeadId) :
    (s.updMatcher f).head g = s.head g := by cases g <;> rfl
@[simp] theorem State.head_setPassage (p : Option Passage) (g : HeadId) :
    (s.setPassage p).head g = s.head g := by cases g <;> rfl

/-! What leaves a record alone but for the one named. -/

@[simp] theorem State.slot_setKind (n : Serial) (k : SlotKind) : (s.setKind n k).slot n = { s.slot n with kind := k } :=
  s.slot_setSlot n _

@[simp] theorem State.head_setHead_self (h : HeadId) (r : Head) : (s.setHead h r).head h = r := by cases h <;> rfl

theorem State.head_setHead_ne {h g : HeadId} (hg : g ≠ h) (r : Head) : (s.setHead h r).head g = s.head g := by
  cases h <;> cases g <;> simp_all [State.setHead, State.head]

end Sys2Proof.Machine
end

section
set_option Elab.async false
/-! PROOF. What every operation keeps: the relations `Keeps` and `KeepsAll`, and the updates of the state under them. -/

namespace Sys2Proof.Machine

open Sys2Proof

/-- Each invariant of the machine that does not speak of the plan queues holds after t if it holds before, in s. -/
structure Keeps (s t : State) : Prop where
  counters : s.CountersBounded → t.CountersBounded := by exact fun h => h
  capacity : s.WithinCapacity → t.WithinCapacity := by
    exact fun h => ⟨h.strips, h.buffer, h.load, h.orders, h.calls, h.repeats, h.queue, h.labels⟩
  queues : s.BayQueuesSound → t.BayQueuesSound := by
    exact fun h => ⟨h.fifoOnce, h.fifo, h.labelsOnce, h.labels, h.current⟩
  tags : s.TagsUnique → t.TagsUnique := by exact fun h => ⟨h.tags, h.strips, h.counterLow, h.counterHigh⟩
  books : s.BooksBalance → t.BooksBalance := by
    exact fun h => ⟨h.ids, h.queued, h.balance, h.runOnce, h.loaded, h.held⟩
  plunges : s.PlungesTogether → t.PlungesTogether := by exact fun h => h

/-- A READY head with entries is commanded to the step of its front entry (R101). -/
def Head.FrontCommanded (r : Head) : Prop := r.state = .ready → ∀ e ∈ r.plan.head?, e.step = r.commanded

/-- A head whose plan queue is for the same serials or fewer, still commanded to its front entry's step. -/
structure HeadShrinks (r r' : Head) : Prop where
  serials : (r'.plan.map (·.serial)).Sublist (r.plan.map (·.serial))
  commanded : r.FrontCommanded → r'.FrontCommanded

theorem HeadShrinks.refl (r : Head) : HeadShrinks r r := ⟨.refl _, id⟩

theorem HeadShrinks.trans {a b c : Head} (h : HeadShrinks a b) (h' : HeadShrinks b c) : HeadShrinks a c :=
  ⟨h'.serials.trans h.serials, h'.commanded ∘ h.commanded⟩

/-- Nothing is planned: no lug has moved, and the plan queues and the planned drops are those of s or fewer. LINK_HOLD is
not set. -/
structure Shrinks (s t : State) : Prop where
  geometry : t.geometry = s.geometry := by rfl
  serial : t.chain.serial = s.chain.serial := by rfl
  heads : ∀ h, HeadShrinks (s.head h) (t.head h) := by exact fun h => HeadShrinks.refl _
  planned : ∀ k, (t.bay k).planned.Sublist (s.bay k).planned := by exact fun k => List.Sublist.refl _
  hold : s.link.hold = false → t.link.hold = false := by exact fun h => h

/-- An operation that plans nothing keeps every invariant. -/
structure KeepsAll (s t : State) : Prop extends Keeps s t, Shrinks s t

theorem Keeps.refl (s : State) : Keeps s s := {}

theorem Keeps.trans {s t u : State} (h : Keeps s t) (h' : Keeps t u) : Keeps s u where
  counters := h'.counters ∘ h.counters
  capacity := h'.capacity ∘ h.capacity
  queues := h'.queues ∘ h.queues
  tags := h'.tags ∘ h.tags
  books := h'.books ∘ h.books
  plunges := h'.plunges ∘ h.plunges

theorem KeepsAll.refl (s : State) : KeepsAll s s := {}

theorem KeepsAll.trans {s t u : State} (h : KeepsAll s t) (h' : KeepsAll t u) : KeepsAll s u where
  toKeeps := h.toKeeps.trans h'.toKeeps
  geometry := h'.geometry.trans h.geometry
  serial := h'.serial.trans h.serial
  heads := fun g => (h.heads g).trans (h'.heads g)
  planned := fun k => (h'.planned k).trans (h.planned k)
  hold := h'.hold ∘ h.hold

/-- A bay that no FIFO names and the strapper does not serve. -/
structure State.Unqueued (s : State) (k : BayId) : Prop where
  fifo : k ∉ s.strapper.fifo
  labels : k ∉ s.labelWait
  current : s.strapper.current ≠ some k

/-- A bay in another state than those of the FIFOs and the strapper is in none of them. -/
theorem State.BayQueuesSound.unqueued {s : State} (h : s.BayQueuesSound) {k : BayId} (h1 : (s.bay k).state ≠ .waitStrap)
    (h2 : (s.bay k).state ≠ .labelWait) (h3 : (s.bay k).state ≠ .strapping) : s.Unqueued k :=
  ⟨fun hk => h1 (h.fifo k hk), fun hk => h2 (h.labels k hk), fun hk => h3 (h.current k hk)⟩

/-- The bay the strapper serves waits in no FIFO. -/
theorem State.BayQueuesSound.not_mem_of_strapping {s : State} (h : s.BayQueuesSound) {k : BayId}
    (hk : (s.bay k).state = .strapping) : k ∉ s.strapper.fifo ∧ k ∉ s.labelWait :=
  ⟨fun hf => by simp [h.fifo k hf] at hk, fun hf => by simp [h.labels k hf] at hk⟩

/-! ## Counters, notices, pulses and the fields no invariant reads -/

namespace KeepsAll

variable {s t : State} (h : KeepsAll s t)
include h

theorem bumpBy (c : Counter) (n : Nat) : KeepsAll s (t.bumpBy c n) := h.trans
  { counters := fun hc d => by
      by_cases hd : d = c
      · rw [hd, State.count_bumpBy_self]; exact min_le_left _ _
      · rw [State.count_bumpBy_ne _ hd]; exact hc d }

theorem bump (c : Counter) : KeepsAll s (t.bump c) := h.bumpBy c 1

theorem raise (n : Notice) : KeepsAll s (t.raise n) := h.trans {}

theorem pulse {p : Pulse} (hp : ∀ g, p ≠ .plunge g) : KeepsAll s (t.pulse p) := h.trans
  { plunges := fun hb => by
      simpa [State.PlungesTogether, (hp .headSide).symm, (hp .tailSide).symm] using hb }

theorem updLink {f : Link → Link} (hf : t.link.hold = false → (f t.link).hold = false := by exact fun h => h) :
    KeepsAll s (t.updLink f) := h.trans { hold := hf }

theorem setPassage (p : Option Passage) : KeepsAll s (t.setPassage p) := h.trans {}

theorem updCal (n : Serial) (f : CalendarEntry → CalendarEntry) : KeepsAll s (t.updCal n f) := h.trans {}

theorem planStarts (n : Serial) (c : Nat) : KeepsAll s (t.planStarts n c) := h.updCal n _
theorem freeStarts (n : Serial) (c : Nat) : KeepsAll s (t.freeStarts n c) := h.updCal n _
theorem makeStarts (n : Serial) (c : Nat) : KeepsAll s (t.makeStarts n c) := h.updCal n _
theorem calendarAdvance : KeepsAll s t.calendarAdvance := h.updCal _ _
theorem withCalendar (c : Vector CalendarEntry 64) : KeepsAll s { t with calendar := c } := h.trans {}
theorem clearPlanned : KeepsAll s t.clearPlanned := by unfold State.clearPlanned; exact h.withCalendar _

theorem setSlot (n : Serial) (l : LugSlot) : KeepsAll s (t.setSlot n l) := h.trans {}
theorem setKind (n : Serial) (k : SlotKind) : KeepsAll s (t.setKind n k) := h.setSlot _ _

theorem withMoulder (m : Moulder) : KeepsAll s { t with moulder := m } := h.trans {}
theorem withFreeCount (n : Nat) : KeepsAll s { t with freeCount := n } := h.trans {}
theorem withInputs (i : Inputs) : KeepsAll s { t with inputs := i } := h.trans {}

/-! ## The chain's list and the receive buffer -/

theorem updChain {f : Chain → Chain} (hs : (f t.chain).serial = t.chain.serial)
    (hl : t.chain.load.length ≤ 2 → (f t.chain).load.length ≤ 2) : KeepsAll s (t.updChain f) := h.trans
  { serial := hs
    capacity := fun hc => ⟨hc.strips, hc.buffer, hl hc.load, hc.orders, hc.calls, hc.repeats, hc.queue, hc.labels⟩ }

theorem updMatcher {f : Matcher → Matcher} (hl : t.matcher.buffer.length ≤ 4 → (f t.matcher).buffer.length ≤ 4) :
    KeepsAll s (t.updMatcher f) := h.trans
  { capacity := fun hc => ⟨hc.strips, hl hc.buffer, hc.load, hc.orders, hc.calls, hc.repeats, hc.queue, hc.labels⟩ }

/-! ## Strip records -/

/-- Records that go, or change but for their tags. -/
theorem withStrips {strips : List Strip} {lineal : Lineal} (hc : lineal.tagCounter = t.lineal.tagCounter)
    (hs : (strips.map (·.tag)).Sublist (t.strips.map (·.tag))) :
    KeepsAll s { t with strips := strips, lineal := lineal } := by
  have hl : strips.length ≤ t.strips.length := by simpa using hs.length_le
  exact h.trans
    { tags := fun ht => ⟨ht.tags.sublist hs, hl.trans ht.strips, by simpa [hc] using ht.counterLow,
        by simpa [hc] using ht.counterHigh⟩
      capacity := fun hq =>
        ⟨hl.trans hq.strips, hq.buffer, hq.load, hq.orders, hq.calls, hq.repeats, hq.queue, hq.labels⟩ }

theorem updStrip (tag : Nat) {f : Strip → Strip} (hf : ∀ r, (f r).tag = r.tag := by exact fun _ => rfl) :
    KeepsAll s (t.updStrip tag f) := by
  have htags : (t.strips.map fun r => if r.tag = tag then f r else r).map (·.tag) = t.strips.map (·.tag) := by
    rw [List.map_map]
    refine List.map_congr_left fun r _ => ?_
    simp only [Function.comp_apply]
    split <;> simp [hf]
  exact h.withStrips (lineal := t.lineal) rfl (htags ▸ List.Sublist.refl _)

theorem withLineal {l : Lineal} (hc : l.tagCounter = t.lineal.tagCounter) : KeepsAll s { t with lineal := l } :=
  h.withStrips (strips := t.strips) hc (.refl _)

theorem remove (tag : Nat) : KeepsAll s (t.remove tag) := by
  have keep : ∀ u : State, KeepsAll s u → KeepsAll s
      { u with strips := u.strips.filter (fun r => r.tag ≠ tag)
               lineal := { u.lineal with queue := u.lineal.queue.filter (· ≠ tag) } } := fun u hu =>
    hu.withStrips rfl (List.filter_sublist.map _)
  unfold State.remove
  split
  · exact keep _ (h.setSlot _ _)
  · exact keep _ h

theorem retire (tag : Nat) (c : Counter) : KeepsAll s (t.retire tag c) := (h.remove tag).bump c

/-! ## Heads -/

theorem setHead {g : HeadId} {r : Head} (hr : HeadShrinks (t.head g) r) : KeepsAll s (t.setHead g r) := by
  cases g with
  | headSide => exact h.trans { heads := fun g => by cases g <;> [exact hr; exact .refl _] }
  | tailSide => exact h.trans { heads := fun g => by cases g <;> [exact .refl _; exact hr] }

theorem updHead {g : HeadId} {f : Head → Head} (hr : HeadShrinks (t.head g) (f (t.head g))) :
    KeepsAll s (t.updHead g f) := h.setHead hr

/-! ## Bays -/

/-- A change of a bay that leaves its state. -/
theorem updBay {k : BayId} {f : Bay → Bay} (hs : (f (t.bay k)).state = (t.bay k).state)
    (hp : (f (t.bay k)).planned.Sublist (t.bay k).planned) : KeepsAll s (t.updBay k f) := by
  have hstate : ∀ j, ((t.updBay k f).bay j).state = (t.bay j).state := fun j => by
    by_cases hj : j = k
    · rw [hj, State.bay_updBay, hs]
    · rw [State.bay_updBay_ne _ hj]
  exact h.trans
    { queues := fun hq => ⟨hq.fifoOnce, fun j hj => (hstate j).trans (hq.fifo j hj), hq.labelsOnce,
        fun j hj => (hstate j).trans (hq.labels j hj), fun j hj => (hstate j).trans (hq.current j hj)⟩
      planned := fun j => by
        by_cases hj : j = k
        · rw [hj, State.bay_updBay]; exact hp
        · rw [State.bay_updBay_ne _ hj] }

theorem updBundle (k : BayId) (f : Bundle → Bundle) : KeepsAll s (t.updBundle k f) := h.updBay rfl (.refl _)

/-- A bay changes its state and its place in the FIFOs: the other bays stand where they stood. -/
theorem moveBay {k : BayId} {f : Bay → Bay} {strapper : Strapper} {labelWait : List BayId}
    (hp : (f (t.bay k)).planned.Sublist (t.bay k).planned)
    (hfifo : s.BayQueuesSound → strapper.fifo.Nodup ∧ ∀ j ∈ strapper.fifo, j ∈ t.strapper.fifo ∧ j ≠ k ∨
      j = k ∧ (f (t.bay k)).state = .waitStrap)
    (hlabels : s.BayQueuesSound → labelWait.Nodup ∧ ∀ j ∈ labelWait, j ∈ t.labelWait ∧ j ≠ k ∨
      j = k ∧ (f (t.bay k)).state = .labelWait)
    (hcurrent : s.BayQueuesSound → ∀ j, strapper.current = some j → t.strapper.current = some j ∧ j ≠ k ∨
      j = k ∧ (f (t.bay k)).state = .strapping) :
    KeepsAll s { t.updBay k f with strapper := strapper, labelWait := labelWait } := by
  have hother : ∀ j, j ≠ k → ({ t.updBay k f with strapper := strapper, labelWait := labelWait } : State).bay j = t.bay j :=
    fun j hj => State.bay_updBay_ne t hj f
  have hself : ({ t.updBay k f with strapper := strapper, labelWait := labelWait } : State).bay k = f (t.bay k) :=
    State.bay_updBay t k f
  refine ⟨⟨h.counters, fun hc => ?_, fun hs => ?_, fun ht => ?_, fun hb => ?_, h.plunges⟩,
    ⟨h.geometry, h.serial, h.heads, fun j => ?_, h.hold⟩⟩
  · have hc := h.capacity hc
    exact ⟨hc.strips, hc.buffer, hc.load, hc.orders, hc.calls, hc.repeats, hc.queue, hc.labels⟩
  · have hq := h.queues hs
    refine ⟨(hfifo hs).1, fun j hj => ?_, (hlabels hs).1, fun j hj => ?_, fun j hj => ?_⟩
    · obtain ⟨hm, hne⟩ | ⟨rfl, hst⟩ := (hfifo hs).2 j hj
      · rw [hother j hne]; exact hq.fifo j hm
      · rw [hself]; exact hst
    · obtain ⟨hm, hne⟩ | ⟨rfl, hst⟩ := (hlabels hs).2 j hj
      · rw [hother j hne]; exact hq.labels j hm
      · rw [hself]; exact hst
    · obtain ⟨hm, hne⟩ | ⟨rfl, hst⟩ := hcurrent hs j hj
      · rw [hother j hne]; exact hq.current j hm
      · rw [hself]; exact hst
  · have ht := h.tags ht
    exact ⟨ht.tags, ht.strips, ht.counterLow, ht.counterHigh⟩
  · have hb := h.books hb
    exact ⟨hb.ids, hb.queued, hb.balance, hb.runOnce, hb.loaded, hb.held⟩
  · by_cases hj : j = k
    · subst hj; rw [hself]; exact hp.trans (h.planned _)
    · rw [hother j hj]; exact h.planned j

/-- A bay that is in no FIFO and not served goes to another state. -/
theorem freeBay {k : BayId} {f : Bay → Bay} (hp : (f (t.bay k)).planned.Sublist (t.bay k).planned)
    (hfree : s.BayQueuesSound → t.Unqueued k) : KeepsAll s (t.updBay k f) :=
  h.moveBay (strapper := t.strapper) (labelWait := t.labelWait) hp
    (fun hs => ⟨(h.queues hs).fifoOnce, fun _ hj => .inl ⟨hj, fun e => (hfree hs).fifo (e ▸ hj)⟩⟩)
    (fun hs => ⟨(h.queues hs).labelsOnce, fun _ hj => .inl ⟨hj, fun e => (hfree hs).labels (e ▸ hj)⟩⟩)
    (fun hs _ hj => .inl ⟨hj, fun e => (hfree hs).current (e ▸ hj)⟩)

/-- Bays leave the FIFOs, or the strapper its bay. -/
theorem withQueues {strapper : Strapper} {labelWait : List BayId} (hf : strapper.fifo.Sublist t.strapper.fifo)
    (hl : labelWait.Sublist t.labelWait) (hc : ∀ k, strapper.current = some k → t.strapper.current = some k) :
    KeepsAll s { t with strapper := strapper, labelWait := labelWait } := h.trans
  { queues := fun hq => ⟨hq.fifoOnce.sublist hf, fun k hk => hq.fifo k (hf.mem hk), hq.labelsOnce.sublist hl,
      fun k hk => hq.labels k (hl.mem hk), fun k hk => hq.current k (hc k hk)⟩ }

/-! ## The label table and the tables no invariant reads -/

theorem withLabels {l : LabelBuilder} (hl : t.labels.table.length ≤ 16 → l.table.length ≤ 16) :
    KeepsAll s { t with labels := l } := h.trans
  { capacity := fun hc => ⟨hc.strips, hc.buffer, hc.load, hc.orders, hc.calls, hc.repeats, hc.queue, hl hc.labels⟩ }

/-! ## The interpreter, but for the order it holds -/

theorem updInterp {f : Interpreter → Interpreter} (ho : (f t.orders.interp).order = t.orders.interp.order := by rfl)
    (hc : t.orders.interp.calls.length ≤ 4 → (f t.orders.interp).calls.length ≤ 4 := by exact fun h => h)
    (hr : t.orders.interp.repeats.length ≤ 4 → (f t.orders.interp).repeats.length ≤ 4 := by exact fun h => h) :
    KeepsAll s (t.updInterp f) := h.trans
  { capacity := fun hq => ⟨hq.strips, hq.buffer, hq.load, hq.orders, hc hq.calls, hr hq.repeats, hq.queue, hq.labels⟩
    books := fun hb => ⟨hb.ids, hb.queued, hb.balance, hb.runOnce, hb.loaded, fun id hid => hb.held id (ho ▸ hid)⟩ }

end KeepsAll

end Sys2Proof.Machine
end

section
set_option Elab.async false
/-! PROOF. The order books under the operations of the order unit (R158). -/

namespace Sys2Proof.Machine

open Sys2Proof

/-! ## The record of an id, and how many entries name it -/

/-- With unique ids the record of an id is the one in the table. -/
theorem State.order?_eq_some_iff {s : State} (h : (s.orders.table.map (·.id)).Nodup) {id : Nat} {o : Order} :
    s.order? id = some o ↔ o ∈ s.orders.table ∧ o.id = id := by
  refine ⟨fun ho => ⟨List.mem_of_find?_eq_some ho, State.order?_id ho⟩, fun ⟨hm, hid⟩ => ?_⟩
  unfold State.order?
  generalize s.orders.table = table at h hm
  induction table with
  | nil => simp at hm
  | cons x l ih =>
    obtain ⟨hx, hl⟩ := List.nodup_cons.mp h
    rcases List.mem_cons.mp hm with rfl | hm
    · simp [hid]
    · have hne : x.id ≠ id := fun e => hx (List.mem_map.mpr ⟨o, hm, hid.trans e.symm⟩)
      simp [hne, ih hl hm]

/-- An order no entry names has none queued. -/
theorem State.queuedCount_eq_zero_iff {s : State} {id : Nat} :
    s.queuedCount id = 0 ↔ ∀ e ∈ s.orders.queue, e.order ≠ id := by
  simp [State.queuedCount]

theorem State.queuedCount_of_queue_eq {s t : State} (h : t.orders.queue = s.orders.queue) (id : Nat) :
    t.queuedCount id = s.queuedCount id := by rw [State.queuedCount, h]; rfl

section Write

variable {s t : State} (h : s.BooksBalance) {id : Nat} {f : Order → Order}
include h

/-- A record under the books names its own. -/
theorem State.BooksBalance.order?_of_mem {o : Order} (ho : o ∈ s.orders.table) : s.order? o.id = some o :=
  (State.order?_eq_some_iff h.ids).mpr ⟨ho, rfl⟩

/-- An id without a record is named by no entry, by no place of the run list, and is not held. -/
theorem State.BooksBalance.of_order?_none (ho : s.order? id = none) :
    s.queuedCount id = 0 ∧ id ∉ s.orders.runList ∧ s.orders.interp.order ≠ some id := by
  refine ⟨State.queuedCount_eq_zero_iff.mpr fun e he hid => ?_, fun hr => ?_, fun hi => ?_⟩
  · obtain ⟨o, hq, -⟩ := h.queued e he
    rw [hid, ho] at hq; cases hq
  · obtain ⟨o, hq, -⟩ := h.loaded id hr
    rw [ho] at hq; cases hq
  · obtain ⟨o, hq, -⟩ := h.held id hi
    rw [ho] at hq; cases hq

/-- The books after the records of one id have been written, with the queue's entries of that id, the run list made
shorter and the interpreter left, freed, or given the order. -/
theorem State.BooksBalance.write (hid : ∀ o, (f o).id = o.id)
    (table : t.orders.table = s.orders.table.map fun o => if o.id = id then f o else o)
    (others : ∀ i ≠ id, t.queuedCount i = s.queuedCount i)
    (queue : ∀ e ∈ t.orders.queue, e.order ≠ id → e ∈ s.orders.queue)
    (run : t.orders.runList.Sublist s.orders.runList)
    (holds : ∀ i, t.orders.interp.order = some i → i ≠ id → s.orders.interp.order = some i)
    (none_live : s.order? id = none → t.queuedCount id = 0 ∧ t.orders.interp.order ≠ some id)
    (live : ∀ o, s.order? id = some o →
      (f o).emitted = t.queuedCount id + (f o).opened + (f o).withdrawn ∧
      (t.queuedCount id ≠ 0 → (f o).state ≠ .complete ∧ (f o).state ≠ .cancelled) ∧
      (id ∈ t.orders.runList → (f o).state = .loaded) ∧
      (t.orders.interp.order = some id → (f o).state = .active ∨ (f o).state = .faulted)) : t.BooksBalance := by
  have hids : t.orders.table.map (·.id) = s.orders.table.map (·.id) := by
    rw [table, List.map_map]
    refine List.map_congr_left fun o _ => ?_
    simp only [Function.comp_apply]
    split <;> simp [hid]
  have horder : ∀ i, t.order? i = (s.order? i).map fun o => if o.id = id then f o else o := fun i => by
    rw [← State.order?_updOrder s id i f hid]
    simp only [State.order?, State.updOrder, table]
  have hne : ∀ {i}, i ≠ id → t.order? i = s.order? i := fun {i} hi => by
    rw [horder]
    cases ho : s.order? i with
    | none => rfl
    | some o => simp [State.order?_id ho, hi]
  have hself : ∀ {o}, s.order? id = some o → t.order? id = some (f o) := fun {o} ho => by
    rw [horder, ho]; simp [State.order?_id ho]
  have hcount : ∀ e ∈ t.orders.queue, e.order = id → t.queuedCount id ≠ 0 := fun e he hid h0 =>
    State.queuedCount_eq_zero_iff.mp h0 e he hid
  refine ⟨hids ▸ h.ids, fun e he => ?_, fun o ho => ?_, h.runOnce.sublist run, fun i hi => ?_, fun i hi => ?_⟩
  · by_cases hei : e.order = id
    · cases ho : s.order? id with
      | none => exact absurd (none_live ho).1 (hcount e he hei)
      | some o => exact ⟨f o, hei ▸ hself ho, (live o ho).2.1 (hcount e he hei)⟩
    · rw [hne hei]; exact h.queued e (queue e he hei)
  · rw [table] at ho
    obtain ⟨x, hx, rfl⟩ := List.mem_map.mp ho
    by_cases hxi : x.id = id
    · rw [if_pos hxi, hid, hxi]
      exact (live x ((State.order?_eq_some_iff h.ids).mpr ⟨hx, hxi⟩)).1
    · rw [if_neg hxi, others _ hxi]
      exact h.balance x hx
  · by_cases hii : i = id
    · subst hii
      obtain ⟨o, ho, -⟩ := h.loaded i (run.mem hi)
      exact ⟨f o, hself ho, (live o ho).2.2.1 hi⟩
    · rw [hne hii]; exact h.loaded i (run.mem hi)
  · by_cases hii : i = id
    · subst hii
      cases ho : s.order? i with
      | none => exact absurd hi (none_live ho).2
      | some o => exact ⟨f o, hself ho, (live o ho).2.2.2 hi⟩
    · rw [hne hii]; exact h.held i (holds i hi hii)

/-- What the books say of a live order. -/
theorem State.BooksBalance.live {o : Order} (ho : s.order? id = some o) :
    o.emitted = s.queuedCount id + o.opened + o.withdrawn ∧
    (s.queuedCount id ≠ 0 → o.state ≠ .complete ∧ o.state ≠ .cancelled) ∧
    (id ∈ s.orders.runList → o.state = .loaded) ∧
    (s.orders.interp.order = some id → o.state = .active ∨ o.state = .faulted) := by
  obtain ⟨hm, hid⟩ := (State.order?_eq_some_iff h.ids).mp ho
  refine ⟨hid ▸ h.balance o hm, fun h0 => ?_, fun hr => ?_, fun hi => ?_⟩
  · rw [Ne, State.queuedCount_eq_zero_iff] at h0
    push Not at h0
    obtain ⟨e, he, heid⟩ := h0
    obtain ⟨x, hx, hs⟩ := h.queued e he
    rw [heid, ho] at hx; cases hx; exact hs
  · obtain ⟨x, hx, hs⟩ := h.loaded id hr
    rw [ho] at hx; cases hx; exact hs
  · obtain ⟨x, hx, hs⟩ := h.held id hi
    rw [ho] at hx; cases hx; exact hs

end Write

/-! ## The operations of the order unit -/

namespace KeepsAll

variable {s t : State} (h : KeepsAll s t)
include h

/-- The order unit's records are written as the books allow; the stacks and the queue grow within their places. -/
theorem withOrders {u : OrderUnit} (hbooks : s.BooksBalance → ({ t with orders := u } : State).BooksBalance)
    (ht : s.WithinCapacity → u.table.length ≤ 8 := by exact fun hc => (h.capacity hc).orders)
    (hc : s.WithinCapacity → u.interp.calls.length ≤ 4 := by exact fun hc => (h.capacity hc).calls)
    (hr : s.WithinCapacity → u.interp.repeats.length ≤ 4 := by exact fun hc => (h.capacity hc).repeats)
    (hq : s.WithinCapacity → u.queue.length ≤ 16 := by exact fun hc => (h.capacity hc).queue) :
    KeepsAll s { t with orders := u } where
  counters := h.counters
  capacity := fun hs => by
    have hcap := h.capacity hs
    exact ⟨hcap.strips, hcap.buffer, hcap.load, ht hs, hc hs, hr hs, hq hs, hcap.labels⟩
  queues := fun hs => by
    have hqueues := h.queues hs
    exact ⟨hqueues.fifoOnce, hqueues.fifo, hqueues.labelsOnce, hqueues.labels, hqueues.current⟩
  tags := fun hs => by
    have htags := h.tags hs
    exact ⟨htags.tags, htags.strips, htags.counterLow, htags.counterHigh⟩
  books := hbooks
  plunges := h.plunges
  geometry := h.geometry
  serial := h.serial
  heads := h.heads
  planned := h.planned
  hold := h.hold

/-- A record is changed in what the books do not read. -/
theorem updOrder (id : Nat) {f : Order → Order} (hid : ∀ o, (f o).id = o.id := by exact fun _ => rfl)
    (hf : ∀ o, (f o).emitted = o.emitted ∧ (f o).opened = o.opened ∧ (f o).withdrawn = o.withdrawn ∧
      (f o).state = o.state := by exact fun _ => ⟨rfl, rfl, rfl, rfl⟩) : KeepsAll s (t.updOrder id f) := by
  refine h.withOrders (fun hs => (h.books hs).write hid rfl (fun _ _ => rfl) (fun _ he _ => he) (.refl _)
    (fun _ hi _ => hi) (fun ho => ⟨((h.books hs).of_order?_none ho).1, ((h.books hs).of_order?_none ho).2.2⟩)
    fun o ho => ?_) (ht := fun hc => by simpa using (h.capacity hc).orders)
  obtain ⟨he, hop, hw, hst⟩ := hf o
  rw [he, hop, hw, hst]
  exact (h.books hs).live ho

/-- A record whose order has no entry queued, is not held and not in the run list may change its state. -/
theorem updOrder_state (id : Nat) {f : Order → Order}
    (hq : s.BooksBalance → t.queuedCount id = 0 ∧ id ∉ t.orders.runList ∧ t.orders.interp.order ≠ some id)
    (hid : ∀ o, (f o).id = o.id := by exact fun _ => rfl)
    (hf : ∀ o, (f o).emitted = o.emitted ∧ (f o).opened = o.opened ∧ (f o).withdrawn = o.withdrawn := by
      exact fun _ => ⟨rfl, rfl, rfl⟩) :
    KeepsAll s (t.updOrder id f) := by
  refine h.withOrders (fun hs => (h.books hs).write hid rfl (fun _ _ => rfl) (fun _ he _ => he) (.refl _)
    (fun _ hi _ => hi) (fun ho => ⟨((h.books hs).of_order?_none ho).1, ((h.books hs).of_order?_none ho).2.2⟩)
    fun o ho => ?_) (ht := fun hc => by simpa using (h.capacity hc).orders)
  obtain ⟨he, hop, hw⟩ := hf o
  obtain ⟨h0, hrun, hheld⟩ := hq hs
  rw [he, hop, hw]
  exact ⟨((h.books hs).live ho).1, fun hn => absurd h0 hn, fun hr => absurd hr hrun, fun hi => absurd hi hheld⟩

/-- The completion test of an order (R171): a COMPLETE one has no entry queued, and was EMITTED. -/
theorem orderTest (id : Nat) : KeepsAll s (orderTest t id) := by
  obtain e | ⟨o, ho, hst, h0, -, e⟩ | ⟨o, ho, hst, -, -, e⟩ := orderTest_cases t id
  · rw [e]; exact h
  · rw [e]
    refine KeepsAll.bump (.raise (h.updOrder_state id fun hs => ?_) _) _
    obtain ⟨-, -, hrun, hheld⟩ := (h.books hs).live ho
    exact ⟨h0, fun hr => by simp [hrun hr] at hst, fun hi => by rcases hheld hi with hx | hx <;> simp [hx] at hst⟩
  · rw [e]
    exact KeepsAll.raise (h.updOrder id) _

theorem orderReport (id : Nat) {f : Order → Order} (hid : ∀ o, (f o).id = o.id := by exact fun _ => rfl)
    (hf : ∀ o, (f o).emitted = o.emitted ∧ (f o).opened = o.opened ∧ (f o).withdrawn = o.withdrawn ∧
      (f o).state = o.state := by exact fun _ => ⟨rfl, rfl, rfl, rfl⟩) : KeepsAll s (orderReport t id f) := (h.updOrder id hid hf).orderTest id

/-- The front order of the run list is taken up (R159). -/
theorem takeUpFront : KeepsAll s (takeUpFront t) := by
  unfold Machine.takeUpFront
  split
  · exact h
  next id rest hrun =>
    refine h.withOrders (fun hs => ?_) (ht := fun hc => by simpa [State.updOrder] using (h.capacity hc).orders)
      (hc := fun _ => by simp) (hr := fun _ => by simp) (hq := fun hc => (h.capacity hc).queue)
    have hb := h.books hs
    have hnodup : (id :: rest).Nodup := hrun ▸ hb.runOnce
    refine hb.write (id := id) (f := fun o => { o with state := .active }) (fun _ => rfl) rfl (fun _ _ => rfl)
      (fun _ he _ => he) (by rw [hrun]; exact List.sublist_cons_self _ _) (fun i hi hne => ?_) (fun ho => ?_)
      fun o ho => ?_
    · exact absurd (Option.some.inj hi).symm hne
    · exact absurd (hrun ▸ List.mem_cons_self) (hb.of_order?_none ho).2.1
    · exact ⟨(hb.live ho).1, fun _ => ⟨by simp, by simp⟩, fun hr => absurd hr (List.nodup_cons.mp hnodup).1,
        fun _ => .inl rfl⟩

theorem takeUp : KeepsAll s (takeUp t) := by
  obtain e | ⟨-, e⟩ := takeUp_cases t
  · rw [e]; exact h
  · rw [e]; exact h.takeUpFront

theorem placeFreed : KeepsAll s (placeFreed t) := by
  obtain e | ⟨-, e⟩ := placeFreed_cases t
  · rw [e]; exact h
  · rw [e]; exact h.updInterp

theorem resumePaused : KeepsAll s (resumePaused t) := h.updInterp

theorem pauseChanged : KeepsAll s (pauseChanged t) := by
  obtain ⟨-, e⟩ | ⟨-, -, e⟩ | ⟨-, -, e⟩ := pauseChanged_cases t
  · rw [e, pauseInterp]
    split
    · exact h.updInterp
    · exact h
  · rw [e]; exact h.resumePaused
  · rw [e]; exact h.takeUp

/-- The interpreter gives up its order. -/
theorem giveUp : KeepsAll s (giveUp t) :=
  h.withOrders (fun hs => by
      have hb := h.books hs
      exact ⟨hb.ids, hb.queued, hb.balance, hb.runOnce, hb.loaded, fun _ hi => by cases hi⟩)
    (hc := fun _ => by simp) (hr := fun _ => by simp)

/-- The end of the held order's program: EMITTED and given up (R161). -/
theorem endOrder : KeepsAll s (endOrder t) := by
  unfold Machine.endOrder
  split
  · exact h
  next id hid =>
    refine ((h.withOrders (u := (Machine.giveUp (t.updOrder id fun o => { o with state := .emitted })).orders)
      (fun hs => ?_) (ht := fun hc => by simpa [State.updOrder, Machine.giveUp] using (h.capacity hc).orders)
      (hc := fun _ => by simp [Machine.giveUp]) (hr := fun _ => by simp [Machine.giveUp])).orderTest id).takeUp
    have hb := h.books hs
    refine hb.write (id := id) (f := fun o => { o with state := .emitted }) (fun _ => rfl) rfl (fun _ _ => rfl)
      (fun _ he _ => he) (.refl _) (fun i hi _ => by cases hi) (fun ho => ⟨(hb.of_order?_none ho).1, by intro hi; cases hi⟩)
      fun o ho => ⟨(hb.live ho).1, fun _ => ⟨by simp, by simp⟩, fun hr => ?_, fun hi => by cases hi⟩
    have hl := (hb.live ho).2.2.1 hr
    rcases (hb.live ho).2.2.2 hid with hx | hx <;> rw [hx] at hl <;> cases hl

/-- A fault stops the held order (R167). -/
theorem faultOrder (code : FaultCode) : KeepsAll s (faultOrder t code) := by
  obtain ⟨-, e⟩ | ⟨id, hid, e⟩ := faultOrder_cases t code
  · rw [e]; exact h
  · rw [e]
    refine KeepsAll.bump (.raise (.updInterp (h.withOrders (fun hs => ?_)
      (ht := fun hc => by simpa using (h.capacity hc).orders))) _) _
    have hb := h.books hs
    refine hb.write (id := id) (f := fun o => { o with state := .faulted, faultCode := some code }) (fun _ => rfl) rfl
      (fun _ _ => rfl) (fun _ he _ => he) (.refl _) (fun _ hi _ => hi)
      (fun ho => ⟨(hb.of_order?_none ho).1, (hb.of_order?_none ho).2.2⟩)
      fun o ho => ⟨(hb.live ho).1, fun _ => ⟨by simp, by simp⟩, fun hr => ?_, fun _ => .inr rfl⟩
    have hl := (hb.live ho).2.2.1 hr
    rcases (hb.live ho).2.2.2 hid with hx | hx <;> rw [hx] at hl <;> cases hl

theorem moveTo (a : Nat) {f : State → State} (hf : ∀ u, KeepsAll s u → KeepsAll s (f u)) :
    KeepsAll s (moveTo a f t) := by
  obtain ⟨_, e⟩ | ⟨_, e⟩ := moveTo_cases t a f
  · rw [e]; exact hf _ (h.updInterp)
  · rw [e]; exact h.faultOrder _

theorem spinStep : KeepsAll s (spinStep t) := by
  unfold Machine.spinStep
  dsimp only
  split
  · exact (h.updInterp).faultOrder _
  · exact h.updInterp

end KeepsAll

end Sys2Proof.Machine
end

section
set_option Elab.async false
/-! PROOF. The invariants under the operations of bays, bundles, the strapper and the labels. -/

namespace Sys2Proof.Machine

open Sys2Proof

@[simp] theorem orderTest_strapper (s : State) (id : Nat) : (orderTest s id).strapper = s.strapper := by
  obtain e | ⟨_, _, _, _, _, e⟩ | ⟨_, _, _, _, _, e⟩ := orderTest_cases s id <;> rw [e] <;> rfl

@[simp] theorem orderTest_labelWait (s : State) (id : Nat) : (orderTest s id).labelWait = s.labelWait := by
  obtain e | ⟨_, _, _, _, _, e⟩ | ⟨_, _, _, _, _, e⟩ := orderTest_cases s id <;> rw [e] <;> rfl

theorem formLabel_queues (t : State) (k : BayId) :
    (formLabel t k).strapper = t.strapper ∧ (formLabel t k).labelWait = t.labelWait := by
  unfold formLabel
  split
  · exact ⟨rfl, rfl⟩
  · dsimp only; split <;> simp [orderReport, State.updOrder]

/-- Whether a bay is queued depends on the FIFOs and the strapper alone. -/
theorem State.Unqueued.of_eq {s t : State} {k : BayId} (h : s.Unqueued k) (hs : t.strapper = s.strapper)
    (hl : t.labelWait = s.labelWait) : t.Unqueued k := ⟨hs ▸ h.fifo, hl ▸ h.labels, hs ▸ h.current⟩

/-- The entries of an order in a queue whose front is gone. -/
theorem State.queuedCount_of_queue_cons {s t : State} {e : QueueEntry} {rest : List QueueEntry}
    (h : s.orders.queue = e :: rest) (ht : t.orders.queue = rest) (id : Nat) :
    s.queuedCount id = t.queuedCount id + if e.order = id then 1 else 0 := by
  rw [State.queuedCount, State.queuedCount, h, ht, List.filter_cons]
  by_cases hid : e.order = id <;> simp [hid]

namespace KeepsAll

variable {s t : State} (h : KeepsAll s t)
include h

/-- A FILLING bay is in no FIFO, and so is every bay that does not wait and is not served. -/
theorem unqueued {k : BayId} (h1 : (t.bay k).state ≠ .waitStrap) (h2 : (t.bay k).state ≠ .labelWait)
    (h3 : (t.bay k).state ≠ .strapping) (hs : s.BayQueuesSound) : t.Unqueued k := (h.queues hs).unqueued h1 h2 h3

/-! ## Opening and closing (7.3, 7.6) -/

/-- The oldest entry leaves the queue and its order counts the opening: the books stay balanced (R126, R158). -/
theorem takeOldest {e : QueueEntry} {rest : List QueueEntry} (hq : t.orders.queue = e :: rest) (serial : Nat) :
    KeepsAll s { t with
      orders := { t.orders with
        queue := rest
        table := t.orders.table.map fun o => if o.id = e.order then { o with opened := o.opened + 1 } else o }
      bundleSerial := serial } := by
  have hserial : KeepsAll s { t with bundleSerial := serial } := h.trans {}
  refine hserial.withOrders (fun hs => ?_) (ht := fun hc => by simpa using (h.capacity hc).orders)
    (hq := fun hc => ?_)
  · have hb := hserial.books hs
    have hcount := State.queuedCount_of_queue_cons (s := t) hq (t := { t with orders := { t.orders with queue := rest } }) rfl
    refine hb.write (id := e.order) (f := fun o => { o with opened := o.opened + 1 }) (fun _ => rfl) rfl (fun i hi => ?_)
      (fun x hx _ => ?_) (.refl _) (fun _ hi _ => hi) (fun ho => ?_) fun o ho => ?_
    · have := hcount i
      rw [if_neg (fun e => hi e.symm)] at this
      exact this.symm
    · exact hq ▸ List.mem_cons_of_mem _ hx
    · have h0 := State.queuedCount_eq_zero_iff.mp (hb.of_order?_none ho).1
      exact absurd rfl (h0 e (hq ▸ List.mem_cons_self))
    · obtain ⟨hbal, hlive, hrun, hheld⟩ := hb.live ho
      have hone := hcount e.order
      rw [if_pos rfl] at hone
      have hpos : ({ t with bundleSerial := serial } : State).queuedCount e.order ≠ 0 :=
        fun h0 => absurd (hone.symm.trans h0) (by omega)
      refine ⟨?_, fun _ => hlive hpos, hrun, hheld⟩
      have : o.emitted = t.queuedCount e.order + o.opened + o.withdrawn := hbal
      change o.emitted = State.queuedCount { t with orders := { t.orders with queue := rest } } e.order +
        (o.opened + 1) + o.withdrawn
      omega
  · have := (h.capacity hc).queue
    rw [hq] at this
    exact (Nat.le_succ _).trans this

theorem openBundle {k : BayId} (hfree : s.BayQueuesSound → t.Unqueued k) : KeepsAll s (openBundle t k) := by
  unfold Machine.openBundle
  split
  · exact h
  next e rest hq =>
    split
    · exact h
    next copy _ =>
      exact (((h.takeOldest hq _).freeBay (.refl _) fun hs => (hfree hs).of_eq rfl rfl).bump _).placeFreed.orderTest _

theorem offerEntry : KeepsAll s (offerEntry t) := by
  obtain ⟨_, e⟩ | ⟨k, hk, e⟩ := offerEntry_cases t
  · rw [e]; exact h
  · rw [e]
    have hempty : (t.bay k).state = .empty := by simpa using List.find?_some hk
    exact h.openBundle (h.unqueued (by simp [hempty]) (by simp [hempty]) (by simp [hempty]))

theorem enterEmpty {k : BayId} (hfree : s.BayQueuesSound → t.Unqueued k) : KeepsAll s (enterEmpty t k) := by
  have hbay : KeepsAll s (t.updBay k fun b => { b with
      state := .empty, origin := none, bundle := none, settleTimer := none }) := h.freeBay (.refl _) hfree
  unfold Machine.enterEmpty
  dsimp only
  split
  · exact hbay.openBundle fun hs => (hfree hs).of_eq rfl rfl
  · split
    · exact hbay
    · exact (hbay.raise _).updBay rfl (.refl _)

theorem startSettle {k : BayId} (hfree : s.BayQueuesSound → t.Unqueued k) : KeepsAll s (startSettle t k) :=
  h.freeBay (.refl _) hfree

theorem closeEmpty {k : BayId} (hfree : s.BayQueuesSound → t.Unqueued k) (order : Nat) (test : Bool) :
    KeepsAll s (closeEmpty t k order test) := by
  unfold Machine.closeEmpty
  refine enterEmpty (.bump ?_ _) fun hs => ?_
  · split
    · exact KeepsAll.orderTest (h.updOrder order) _
    · exact h.updOrder order
  · cases test
    · exact (hfree hs).of_eq rfl rfl
    · exact (hfree hs).of_eq (by simp [State.updOrder]) (by simp [State.updOrder])

theorem completionTest (k : BayId) (test : Bool) : KeepsAll s (completionTest t k test) := by
  obtain e | ⟨b, hf, -, -, hcase⟩ := completionTest_cases t k test
  · rw [e]; exact h
  · have hfree : s.BayQueuesSound → t.Unqueued k := h.unqueued (by simp [hf]) (by simp [hf]) (by simp [hf])
    obtain ⟨-, e⟩ | ⟨-, -, -, e⟩ | ⟨-, -, -, e⟩ := hcase <;> rw [e]
    · exact h.startSettle hfree
    · exact ((h.updBundle k _).bump _).startSettle fun hs => (hfree hs).of_eq rfl rfl
    · exact h.closeEmpty hfree _ _

theorem testBays (test : Bool) (l : List BayId) : KeepsAll s (testBays test l t) := by
  unfold Machine.testBays
  induction l generalizing t with
  | nil => exact h
  | cons k l ih => exact ih (h.completionTest k test)

/-! ## Drops and cancellations (7.5) -/

theorem releaseCommitment (k : BayId) (band : Nat) : KeepsAll s (releaseCommitment t k band) := h.updBundle k _

theorem cancelPlanned (k : BayId) (d : PlannedDrop) : KeepsAll s (cancelPlanned t k d) :=
  ((h.updBay rfl List.filter_sublist).freeStarts _ _).releaseCommitment _ _

theorem resolveDrop (k : BayId) (confirmed : Bool) : KeepsAll s (resolveDrop t k confirmed) := by
  unfold Machine.resolveDrop
  split
  · exact h
  next d _ =>
    have hgone : KeepsAll s ((t.retire d.tag (if confirmed then .deposited else .dropUnverified)).updBay k
      fun b => { b with pendingDrop := none }) := (h.retire _ _).updBay rfl (.refl _)
    dsimp only
    split
    · exact (hgone.updBundle k _).completionTest k true
    · exact hgone

theorem makeDrop (k : BayId) (d : PlannedDrop) : KeepsAll s (makeDrop t k d) := by
  refine KeepsAll.bump (updStrip (setSlot (makeStarts (pulse (h.updBay rfl ?_) ?_) _ _) _ _) _) _
  · exact List.drop_sublist _ _
  · exact fun _ => by simp

theorem bayTick (k : BayId) : KeepsAll s (bayTick t k) := by
  unfold Machine.bayTick
  dsimp only
  split
  · exact h.resolveDrop k false
  · split
    · exact (h.resolveDrop k false).makeDrop _ _
    · exact h.resolveDrop k false

theorem overflowStrip (tag : Nat) (cause : Cause) : KeepsAll s (overflowStrip t tag cause) :=
  KeepsAll.bump (h.updStrip tag) _

theorem cancelAllPlanned (k : BayId) (cause : Cause) : KeepsAll s (cancelAllPlanned t k cause) := by
  unfold Machine.cancelAllPlanned
  exact List.foldlRecOn (motive := fun u => KeepsAll s u) _ _ h fun u hu d _ => (hu.cancelPlanned k d).overflowStrip _ _

/-! ## The strapper (7.8) -/

theorem arbitrate : KeepsAll s (arbitrate t) := by
  obtain e | ⟨-, e⟩ := arbitrate_cases t
  · rw [e]; exact h
  rw [e, strapFront]
  split
  · exact h
  next k rest hfifo =>
    refine h.moveBay (labelWait := t.labelWait) (.refl _) (fun hs => ?_) (fun hs => ?_) (fun hs j hj => ?_)
    · have hq := h.queues hs
      have hn := List.nodup_cons.mp (hfifo ▸ hq.fifoOnce)
      exact ⟨hn.2, fun j hj => .inl ⟨hfifo ▸ List.mem_cons_of_mem _ hj, fun e => hn.1 (e ▸ hj)⟩⟩
    · have hq := h.queues hs
      refine ⟨hq.labelsOnce, fun j hj => .inl ⟨hj, ?_⟩⟩
      rintro rfl
      have h1 := hq.fifo j (hfifo ▸ List.mem_cons_self)
      rw [hq.labels j hj] at h1; cases h1
    · exact .inr ⟨(Option.some.inj hj).symm, rfl⟩

/-- A bay joins the strapper FIFO at one of its ends. -/
theorem joinFifo {k : BayId} {f : Bay → Bay} {fifo : List BayId} (hp : (f (t.bay k)).planned.Sublist (t.bay k).planned)
    (hst : (f (t.bay k)).state = .waitStrap) (hfifo : fifo.Perm (k :: t.strapper.fifo))
    (hfree : s.BayQueuesSound → t.Unqueued k) :
    KeepsAll s { t.updBay k f with strapper := { t.strapper with fifo := fifo } } := by
  refine h.moveBay (labelWait := t.labelWait) hp (fun hs => ?_) (fun hs => ?_) fun hs j hj => ?_
  · refine ⟨hfifo.nodup_iff.mpr (List.nodup_cons.mpr ⟨(hfree hs).fifo, (h.queues hs).fifoOnce⟩), fun j hj => ?_⟩
    rcases List.mem_cons.mp (hfifo.mem_iff.mp hj) with e | hj
    · exact .inr ⟨e, hst⟩
    · exact .inl ⟨hj, fun e => (hfree hs).fifo (e ▸ hj)⟩
  · exact ⟨(h.queues hs).labelsOnce, fun j hj => .inl ⟨hj, fun e => (hfree hs).labels (e ▸ hj)⟩⟩
  · exact .inl ⟨hj, fun e => (hfree hs).current (e ▸ hj)⟩

theorem settleExpire (k : BayId) : KeepsAll s (settleExpire t k) := by
  unfold Machine.settleExpire
  split
  next hst =>
    exact (h.joinFifo (f := fun b => { b with state := .waitStrap, settleTimer := none }) (.refl _) rfl
      (List.perm_append_singleton k _)
      (h.unqueued (by simp [hst]) (by simp [hst]) (by simp [hst]))).arbitrate
  · exact h

theorem strapExpire : KeepsAll s (strapExpire t) := by
  unfold Machine.strapExpire
  split
  next k _ hk =>
    refine KeepsAll.bump (.raise (h.moveBay (labelWait := t.labelWait) (.refl _) (fun hs => ?_) (fun hs => ?_)
      fun hs j hj => ?_) _) _
    · obtain ⟨hf, -⟩ := (h.queues hs).not_mem_of_strapping ((h.queues hs).current k hk)
      exact ⟨(h.queues hs).fifoOnce, fun j hj => .inl ⟨hj, fun e => hf (e ▸ hj)⟩⟩
    · obtain ⟨-, hl⟩ := (h.queues hs).not_mem_of_strapping ((h.queues hs).current k hk)
      exact ⟨(h.queues hs).labelsOnce, fun j hj => .inl ⟨hj, fun e => hl (e ▸ hj)⟩⟩
    · cases hj
  · exact h

/-! ## Labels (9.3, 9.4) -/

theorem formLabel (k : BayId) (hroom : t.labelRoom = true) : KeepsAll s (formLabel t k) := by
  unfold Machine.formLabel
  split
  · exact h
  next b _ =>
    have hroom' : t.labels.table.length < Config.labelCapacity := by simpa [State.labelRoom] using hroom
    have hjoined : KeepsAll s { t with labels := { t.labels with
        table := t.labels.table ++ [labelOf k b t.labels.millId (t.templateOf b)] } } :=
      h.withLabels fun _ => by rw [List.length_append]; exact hroom'
    have hformed := ((KeepsAll.orderReport (f := fun o => { o with labelled := o.labelled + 1 }) hjoined b.order).raise
      .labelReady).bump .labelsFormed
    dsimp only
    split
    · exact hformed.bump _
    · exact hformed

theorem labelAndDischarge {k : BayId} (hroom : t.labelRoom = true) (hfree : s.BayQueuesSound → t.Unqueued k) :
    KeepsAll s (labelAndDischarge t k) :=
  (h.formLabel k hroom).freeBay (.refl _) fun hs =>
    (hfree hs).of_eq (formLabel_queues t k).1 (formLabel_queues t k).2

theorem labelOrWait {k : BayId} (hfree : s.BayQueuesSound → t.Unqueued k) : KeepsAll s (labelOrWait t k) := by
  unfold Machine.labelOrWait
  split
  next hroom => exact h.labelAndDischarge hroom.2 hfree
  · refine KeepsAll.raise (h.moveBay (strapper := t.strapper) (.refl _) (fun hs => ?_) (fun hs => ?_) fun hs j hj => ?_) _
    · exact ⟨(h.queues hs).fifoOnce, fun j hj => .inl ⟨hj, fun e => (hfree hs).fifo (e ▸ hj)⟩⟩
    · refine ⟨List.nodup_append.mpr ⟨(h.queues hs).labelsOnce, List.nodup_singleton k, fun a ha b hb e => ?_⟩,
        fun j hj => ?_⟩
      · exact (hfree hs).labels (List.mem_singleton.mp hb ▸ e ▸ ha)
      · rcases List.mem_append.mp hj with hj | hj
        · exact .inl ⟨hj, fun e => (hfree hs).labels (e ▸ hj)⟩
        · exact .inr ⟨List.mem_singleton.mp hj, rfl⟩
    · exact .inl ⟨hj, fun e => (hfree hs).current (e ▸ hj)⟩

theorem serveLabelWait : KeepsAll s (serveLabelWait t) := by
  obtain e | ⟨k, rest, hq, hroom, e⟩ := serveLabelWait_cases t
  · rw [e]; exact h
  · rw [e]
    refine (h.withQueues (strapper := t.strapper) (labelWait := rest) (.refl _) ?_ fun _ hk => hk).labelAndDischarge hroom
      fun hs => ?_
    · rw [hq]; exact List.sublist_cons_self _ _
    · have hsound := h.queues hs
      have hst := hsound.labels k (hq ▸ List.mem_cons_self)
      refine ⟨fun hf => ?_, (List.nodup_cons.mp (hq ▸ hsound.labelsOnce)).1, fun hc => ?_⟩
      · have := hsound.fifo k hf; rw [hst] at this; cases this
      · have := hsound.current k hc; rw [hst] at this; cases this

/-- The strapper's bay is strapped and goes on (R138). -/
theorem strapDone {k : BayId} (hk : t.strapper.current = some k) : KeepsAll s (strapDone t k) := by
  refine arbitrate (labelOrWait (bump (h.withQueues (labelWait := t.labelWait)
    (strapper := { t.strapper with state := .idle, current := none, timer := none }) (.refl _) (.refl _) ?_) _) fun hs => ?_)
  · exact fun _ hj => by cases hj
  · obtain ⟨hf, hl⟩ := (h.queues hs).not_mem_of_strapping ((h.queues hs).current k hk)
    exact ⟨hf, hl, by simp⟩

/-! ## Faults, aborts, discharge, and the bay requests (7.9 to 7.11) -/

theorem bayToFault {k : BayId} (hfree : s.BayQueuesSound → t.Unqueued k) (origin : FaultOrigin) :
    KeepsAll s (bayToFault t k origin) :=
  KeepsAll.raise (.bump (h.freeBay (.refl _) hfree) _) _

theorem bayFaultActive (k : BayId) : KeepsAll s (bayFaultActive t k) := by
  unfold Machine.bayFaultActive
  split
  next hst =>
    exact (h.bayToFault (h.unqueued (by simp [hst]) (by simp [hst]) (by simp [hst])) _).cancelAllPlanned _ _
  next hst => exact h.bayToFault (h.unqueued (by simp [hst]) (by simp [hst]) (by simp [hst])) _
  · exact h
  · exact h.raise _

theorem dischargeDone (k : BayId) : KeepsAll s (dischargeDone t k) := by
  unfold Machine.dischargeDone
  split
  next hst =>
    exact (h.bump _).enterEmpty fun hs =>
      (h.unqueued (by simp [hst]) (by simp [hst]) (by simp [hst]) hs).of_eq rfl rfl
  · exact h.bump _

end KeepsAll

/-- A cancelled drop leaves the bays' states and the FIFOs. -/
theorem cancelled_queues (s : State) (k : BayId) (d : PlannedDrop) (tag : Nat) (cause : Cause) :
    (∀ j, ((overflowStrip (cancelPlanned s k d) tag cause).bay j).state = (s.bay j).state) ∧
    (overflowStrip (cancelPlanned s k d) tag cause).strapper = s.strapper ∧
    (overflowStrip (cancelPlanned s k d) tag cause).labelWait = s.labelWait := by
  unfold overflowStrip cancelPlanned releaseCommitment State.updBundle
  refine ⟨fun j => ?_, by simp, by simp⟩
  by_cases hj : j = k
  · subst hj; simp
  · simp [State.bay_updBay_ne, hj]

/-- Cancelled drops leave the bays' states and the FIFOs. -/
theorem cancelAllPlanned_queues (s : State) (k : BayId) (cause : Cause) :
    (∀ j, ((cancelAllPlanned s k cause).bay j).state = (s.bay j).state) ∧
    (cancelAllPlanned s k cause).strapper = s.strapper ∧ (cancelAllPlanned s k cause).labelWait = s.labelWait := by
  unfold cancelAllPlanned
  refine List.foldlRecOn (motive := fun u : State =>
      (∀ j, (u.bay j).state = (s.bay j).state) ∧ u.strapper = s.strapper ∧ u.labelWait = s.labelWait) _ _
    ⟨fun _ => rfl, rfl, rfl⟩ fun u hu d _ => ?_
  obtain ⟨hb, hs, hl⟩ := hu
  obtain ⟨hb', hs', hl'⟩ := cancelled_queues u k d d.tag cause
  exact ⟨fun j => (hb' j).trans (hb j), hs'.trans hs, hl'.trans hl⟩

namespace KeepsAll

variable {s t : State} (h : KeepsAll s t)
include h

theorem abortBundle {k : BayId} (hst : (t.bay k).state.abortable = true) : KeepsAll s (abortBundle t k) := by
  have hcancelled := h.cancelAllPlanned k .bayAbort
  obtain ⟨hbays, hstrapper, hlabels⟩ := cancelAllPlanned_queues t k .bayAbort
  have hleft : KeepsAll s { (Machine.cancelAllPlanned t k .bayAbort).updBay k fun b =>
      { b with pendingDrop := b.pendingDrop.map fun d => { d with attached := false } } with
      strapper := { t.strapper with fifo := t.strapper.fifo.filter (· ≠ k) } } := by
    refine (hcancelled.updBay (f := fun b => { b with
      pendingDrop := b.pendingDrop.map fun d => { d with attached := false } }) rfl (.refl _)).withQueues
      (labelWait := (Machine.cancelAllPlanned t k .bayAbort).labelWait) ?_ (.refl _) ?_
    · rw [State.updBay_strapper, hstrapper]; exact List.filter_sublist
    · rw [State.updBay_strapper, hstrapper]; exact fun _ hj => hj
  have hfree : s.BayQueuesSound → State.Unqueued { (Machine.cancelAllPlanned t k .bayAbort).updBay k fun b =>
      { b with pendingDrop := b.pendingDrop.map fun d => { d with attached := false } } with
      strapper := { t.strapper with fifo := t.strapper.fifo.filter (· ≠ k) } } k := fun hs => by
    have hsound := h.queues hs
    refine ⟨by simp, ?_, ?_⟩
    · intro hk
      rw [State.updBay_labelWait, hlabels] at hk
      rw [hsound.labels k hk] at hst; cases hst
    · intro hk
      rw [hsound.current k hk] at hst; cases hst
  unfold Machine.abortBundle
  dsimp only
  rw [State.updBay_strapper, hstrapper]
  split
  · exact KeepsAll.enterEmpty (.bump (.orderReport hleft _) _) fun hs =>
      (hfree hs).of_eq (by simp [Machine.orderReport, State.updOrder]) (by simp [Machine.orderReport, State.updOrder])
  · exact (hleft.bump _).enterEmpty fun hs => (hfree hs).of_eq rfl rfl

theorem clearBayFault {k : BayId} (hst : (t.bay k).state = .fault) : KeepsAll s (clearBayFault t k) := by
  have hfree : s.BayQueuesSound → t.Unqueued k := h.unqueued (by simp [hst]) (by simp [hst]) (by simp [hst])
  unfold Machine.clearBayFault
  split
  · exact KeepsAll.completionTest (h.freeBay (.refl _) hfree) k true
  · exact h.startSettle hfree
  · exact (h.joinFifo (f := fun b => { b with state := .waitStrap, origin := none }) (.refl _) rfl (.refl _) hfree).arbitrate
  · exact h

theorem dropCommitments (k : BayId) : KeepsAll s (dropCommitments t k) := h.updBay rfl (List.nil_sublist _)

end KeepsAll

end Sys2Proof.Machine
end

section
set_option Elab.async false
/-! PROOF. The invariants under the order requests, the label requests and the interpreter's words. -/

namespace Sys2Proof.Machine

open Sys2Proof

/-! ## What an opening leaves of the order unit -/

@[simp] theorem orderTest_interp (s : State) (id : Nat) : (orderTest s id).orders.interp = s.orders.interp := by
  rw [orderTest_orders]

@[simp] theorem placeFreed_interp_order (s : State) : (placeFreed s).orders.interp.order = s.orders.interp.order := by
  obtain e | ⟨-, e⟩ := placeFreed_cases s <;> rw [e]
  rfl

/-- An opening leaves the order the interpreter holds. -/
theorem openBundle_interp_order (s : State) (k : BayId) :
    (openBundle s k).orders.interp.order = s.orders.interp.order := by
  obtain e | ⟨x, rest, copy, hq, hr⟩ := openBundle_cases s k
  · rw [e]
  · obtain ⟨f, serial, e⟩ := openBundle_of_entry s (k := k) hq hr
    rw [e]
    simp [State.updOrder]

theorem offerEntry_interp_order (s : State) : (offerEntry s).orders.interp.order = s.orders.interp.order := by
  obtain ⟨-, e⟩ | ⟨k, -, e⟩ := offerEntry_cases s
  · rw [e]
  · rw [e, openBundle_interp_order]

/-! ## Orders added, cancelled and retired -/

namespace KeepsAll

variable {s t : State} (h : KeepsAll s t)
include h

theorem withProgram (p : Vector ProgramWord 256) : KeepsAll s { t with orders := { t.orders with program := p } } :=
  h.withOrders fun hs => by
    have hb := h.books hs
    exact ⟨hb.ids, hb.queued, hb.balance, hb.runOnce, hb.loaded, hb.held⟩

theorem withRecipes (r : Vector (Option Recipe) 32) : KeepsAll s { t with orders := { t.orders with recipes := r } } :=
  h.withOrders fun hs => by
    have hb := h.books hs
    exact ⟨hb.ids, hb.queued, hb.balance, hb.runOnce, hb.loaded, hb.held⟩

/-- A new order joins the table and the run list, with every count 0 (R157). -/
theorem createOrder {id : Nat} (start : Fin 256) (hnew : t.order? id = none) (hroom : t.orders.table.length < 8) :
    KeepsAll s (createOrder t id start) := by
  refine ((h.withOrders (u := { t.orders with table := t.orders.table ++ [newOrder id start]
                                              runList := t.orders.runList ++ [id] })
    (fun hs => ?_) (ht := fun _ => by simpa using hroom)).bump _).takeUp
  have hb := h.books hs
  obtain ⟨h0, hrun, hheld⟩ := hb.of_order?_none hnew
  have hids : id ∉ t.orders.table.map (·.id) := fun hm => by
    obtain ⟨o, ho, hid⟩ := List.mem_map.mp hm
    have := List.find?_eq_none.mp hnew o ho
    simp [hid] at this
  have hold : ∀ {i o}, t.order? i = some o →
      (t.orders.table ++ [newOrder id start]).find? (fun r => r.id == i) = some o := fun ho => by
    rw [List.find?_append]; exact (congrArg (Option.or · _) ho)
  refine ⟨?_, fun e he => ?_, fun o ho => ?_, ?_, fun i hi => ?_, fun i hi => ?_⟩
  · rw [List.map_append]
    exact List.nodup_append.mpr ⟨hb.ids, List.nodup_singleton _, fun a ha b hbm e =>
      hids (by rw [e, List.mem_singleton.mp hbm] at ha; exact ha)⟩
  · obtain ⟨o, ho, hst⟩ := hb.queued e he
    exact ⟨o, hold ho, hst⟩
  · rcases List.mem_append.mp ho with ho | ho
    · exact hb.balance o ho
    · rw [List.mem_singleton.mp ho]
      exact h0.symm
  · exact List.nodup_append.mpr ⟨hb.runOnce, List.nodup_singleton _, fun a ha b hbm e =>
      hrun (by rw [e, List.mem_singleton.mp hbm] at ha; exact ha)⟩
  · rcases List.mem_append.mp hi with hi | hi
    · obtain ⟨o, ho, hst⟩ := hb.loaded i hi
      exact ⟨o, hold ho, hst⟩
    · rw [List.mem_singleton.mp hi]
      refine ⟨newOrder id start, ?_, rfl⟩
      change (t.orders.table ++ [newOrder id start]).find? (fun r => r.id == id) = _
      rw [List.find?_append, show t.orders.table.find? (fun r => r.id == id) = none from hnew]
      simp [newOrder]
  · obtain ⟨o, ho, hst⟩ := hb.held i hi
    exact ⟨o, hold ho, hst⟩

/-- A COMPLETE or CANCELLED order leaves the table (R172). -/
theorem removeOrder {o : Order} (ho : t.order? o.id = some o) (hst : o.state = .complete ∨ o.state = .cancelled) :
    KeepsAll s { t with orders := { t.orders with table := t.orders.table.filter fun r => r.id ≠ o.id } } := by
  refine h.withOrders (fun hs => ?_) (ht := fun hc => (List.length_filter_le _ _).trans (h.capacity hc).orders)
  have hb := h.books hs
  have hother : ∀ {i x}, t.order? i = some x → (x.state = .complete ∨ x.state = .cancelled → False) →
      (t.orders.table.filter fun r => r.id ≠ o.id).find? (fun r => r.id == i) = some x := fun {i x} hx hne => by
    have hi : i ≠ o.id := by
      rintro rfl
      rw [ho] at hx
      exact hne (Option.some.inj hx ▸ hst)
    rw [List.find?_filter]
    refine Eq.trans (List.find?_congr fun r _ => ?_) hx
    by_cases hr : r.id = i <;> simp [hr, hi]
  refine ⟨hb.ids.sublist (List.filter_sublist.map _), fun e he => ?_, fun x hx => hb.balance x (List.mem_of_mem_filter hx),
    hb.runOnce, fun i hi => ?_, fun i hi => ?_⟩
  · obtain ⟨x, hx, h1, h2⟩ := hb.queued e he
    exact ⟨x, hother hx (by rintro (h' | h') <;> contradiction), h1, h2⟩
  · obtain ⟨x, hx, h1⟩ := hb.loaded i hi
    exact ⟨x, hother hx (by simp [h1]), h1⟩
  · obtain ⟨x, hx, h1⟩ := hb.held i hi
    exact ⟨x, hother hx (by rcases h1 with h1 | h1 <;> simp [h1]), h1⟩

/-- The entries of an order leave the queue and are counted as withdrawn (R169). -/
theorem withdrawEntries (id : Nat) : KeepsAll s (withdrawEntries t id) := by
  have hleft : KeepsAll s { t.updOrder id (fun o => { o with withdrawn := o.withdrawn + t.queuedCount id }) with
      orders := { (t.updOrder id fun o => { o with withdrawn := o.withdrawn + t.queuedCount id }).orders with
        queue := t.orders.queue.filter fun e => e.order ≠ id } } := by
    refine h.withOrders (u := { (t.updOrder id fun o => { o with withdrawn := o.withdrawn + t.queuedCount id }).orders with
        queue := t.orders.queue.filter fun e => e.order ≠ id }) (fun hs => ?_)
      (ht := fun hc => by simpa [State.updOrder] using (h.capacity hc).orders) (hc := fun hc => (h.capacity hc).calls)
      (hr := fun hc => (h.capacity hc).repeats) (hq := fun hc => (List.length_filter_le _ _).trans (h.capacity hc).queue)
    have hb := h.books hs
    have hnone : State.queuedCount { t with orders := { t.orders with
        queue := t.orders.queue.filter fun e => e.order ≠ id } } id = 0 :=
      State.queuedCount_eq_zero_iff.mpr fun e he => by simpa using (List.mem_filter.mp he).2
    refine hb.write (id := id) (f := fun o => { o with withdrawn := o.withdrawn + t.queuedCount id }) (fun _ => rfl) rfl
      (fun i hi => ?_) (fun e he _ => List.mem_of_mem_filter he) (.refl _) (fun _ hi _ => hi)
      (fun ho => ⟨hnone, (hb.of_order?_none ho).2.2⟩) fun o ho => ?_
    · refine congrArg List.length (?_ : (t.orders.queue.filter fun e => e.order ≠ id).filter _ = _)
      rw [List.filter_filter]
      refine List.filter_congr fun e _ => ?_
      by_cases he : e.order = i <;> simp [he, hi]
    · obtain ⟨hbal, -, hrun, hheld⟩ := hb.live ho
      refine ⟨?_, fun hn => absurd hnone hn, hrun, hheld⟩
      have hsum : ∀ n, n = 0 → t.queuedCount id + o.opened + o.withdrawn =
          n + o.opened + (o.withdrawn + t.queuedCount id) := by omega
      exact hbal.trans (hsum _ hnone)
  unfold Machine.withdrawEntries
  dsimp only
  split
  · exact hleft.bumpBy _ _
  · exact (hleft.bumpBy _ _).placeFreed

theorem letGo (id : Nat) : KeepsAll s (letGo t id) := by
  have hrun : KeepsAll s { t with orders := { t.orders with runList := t.orders.runList.filter (· ≠ id) } } :=
    h.withOrders fun hs => by
      have hb := h.books hs
      exact ⟨hb.ids, hb.queued, hb.balance, hb.runOnce.filter _, fun i hi => hb.loaded i (List.mem_of_mem_filter hi), hb.held⟩
  obtain e | ⟨-, e⟩ := letGo_cases t id
  · rw [e]; exact hrun.giveUp
  · rw [e]; exact hrun

theorem closeForCancel (id : Nat) : KeepsAll s (closeForCancel id t) := by
  rw [closeForCancel_eq]
  refine KeepsAll.testBays ?_ _ _
  exact List.foldlRecOn (motive := fun u => KeepsAll s u) _ _ h fun u hu k _ => hu.updBundle k _

theorem cancel (id : Nat) : KeepsAll s (cancel t id) := by
  have hclosed := (h.withdrawEntries id).closeForCancel id
  have hfree : ∀ e ∈ (Machine.closeForCancel id (Machine.withdrawEntries t id)).orders.queue, e.order ≠ id :=
    queue_free_of_closeForCancel t id
  have hgiven := GivenUp.of_letGo hfree
  have hset : KeepsAll s (setCancelled (Machine.closeForCancel id (Machine.withdrawEntries t id)) id) :=
    ((hclosed.letGo id).updOrder_state id fun _ =>
      ⟨State.queuedCount_eq_zero_iff.mpr hgiven.queue, hgiven.runList, hgiven.interp⟩).bump _
  rw [cancel_eq]
  obtain e | e := endCancel_cases (Machine.closeForCancel id (Machine.withdrawEntries t id))
    (decide (t.orders.interp.order = some id)) id <;> rw [e]
  · exact hset.orderTest id
  · exact (hset.orderTest id).takeUp

/-! ## Labels (9.4) -/

theorem markFetched (serial : Nat) : KeepsAll s (markFetched t serial) := h.withLabels (by simp)

theorem removeLabel (serial : Nat) : KeepsAll s (removeLabel t serial) :=
  (KeepsAll.bump (h.withLabels fun hl => (List.length_filter_le _ _).trans hl) _).serveLabelWait

/-! ## Emissions (R162) -/

theorem emitOne {id : Nat} (hheld : t.orders.interp.order = some id) (hroom : t.orders.queue.length < 16) :
    KeepsAll s (emitOne id t) := by
  refine (h.withOrders (u := { ((t.updOrder id fun o => { o with emitted := o.emitted + 1 }).updInterp fun i =>
      { i with remainder := i.remainder - 1, spin := 0 }).orders with
      queue := t.orders.queue ++ [{ order := id, recipe := t.orders.interp.recipe }] }) (fun hs => ?_)
    (ht := fun hc => by simpa [State.updOrder] using (h.capacity hc).orders) (hc := fun hc => (h.capacity hc).calls)
    (hr := fun hc => (h.capacity hc).repeats) (hq := fun _ => by simpa using hroom)).offerEntry
  have hb := h.books hs
  refine hb.write (id := id) (f := fun o => { o with emitted := o.emitted + 1 }) (fun _ => rfl) rfl (fun i hi => ?_)
    (fun e he hne => ?_) (.refl _) (fun _ hi _ => hi) (fun ho => ?_) fun o ho => ?_
  · have : id ≠ i := fun e => hi e.symm
    simp [State.queuedCount, this]
  · rcases List.mem_append.mp he with he | he
    · exact he
    · rw [List.mem_singleton.mp he] at hne
      exact absurd rfl hne
  · exact absurd hheld (hb.of_order?_none ho).2.2
  · obtain ⟨hbal, -, hrun, hact⟩ := hb.live ho
    have hcount : State.queuedCount { t with orders := { ((t.updOrder id fun o => { o with emitted := o.emitted + 1 }).updInterp
        fun i => { i with remainder := i.remainder - 1, spin := 0 }).orders with
        queue := t.orders.queue ++ [{ order := id, recipe := t.orders.interp.recipe }] } } id = t.queuedCount id + 1 := by
      simp [State.queuedCount]
    refine ⟨?_, fun _ => ?_, hrun, hact⟩
    · rw [hcount]
      dsimp only
      omega
    · rcases hact hheld with hx | hx <;> simp [hx]

theorem emitLoop (id fuel : Nat) (hheld : t.orders.interp.order = some id) : KeepsAll s (emitLoop id fuel t) := by
  induction fuel generalizing t with
  | zero => exact h
  | succ fuel ih =>
    unfold Machine.emitLoop
    split
    · exact h.moveTo _ fun _ hu => hu
    split
    · exact h.updInterp
    next hroom =>
      split
      · exact h.endOrder.raise _
      · refine ih (h.emitOne hheld (Nat.lt_of_not_le hroom)) ?_
        exact (offerEntry_interp_order _).trans hheld

theorem emit : KeepsAll s (emit t) := by
  unfold Machine.emit
  split
  next id hid => exact h.emitLoop id _ hid
  · exact h

theorem emissionResume : KeepsAll s (emissionResume t) := by
  unfold Machine.emissionResume
  split
  · exact KeepsAll.emit h.updInterp
  · exact h

/-! ## The words (R160 to R165) -/

theorem bundleEffect (w : ProgramWord) : KeepsAll s (bundleEffect w t) := by
  unfold Machine.bundleEffect
  split
  · exact h.faultOrder _
  split
  · exact h.faultOrder _
  · exact KeepsAll.emit h.updInterp

theorem pushRepeat (left : Option Nat) : KeepsAll s (pushRepeat left t) := by
  unfold Machine.pushRepeat
  split
  next hroom => exact KeepsAll.moveTo (h.updInterp (hr := fun _ => by rw [List.length_append]; exact hroom)) _ fun _ hu => hu.spinStep
  · exact h.faultOrder _

theorem repeatEffect (w : ProgramWord) : KeepsAll s (repeatEffect w t) := by
  unfold Machine.repeatEffect
  split
  · exact h.pushRepeat _
  · exact h.faultOrder _

theorem endRepeatEffect (w : ProgramWord) : KeepsAll s (endRepeatEffect w t) := by
  unfold Machine.endRepeatEffect
  split
  · exact h.faultOrder _
  next f hlast =>
    have hne : t.orders.interp.repeats ≠ [] := by rintro he; simp [he] at hlast
    have hpos := List.length_pos_of_ne_nil hne
    split
    · exact h.moveTo _ fun _ hu => hu.spinStep
    split
    · refine KeepsAll.moveTo (h.updInterp (hr := fun hl => ?_)) _ fun _ hu => hu.spinStep
      simp only [List.length_append, List.length_dropLast, List.length_singleton]
      omega
    · exact KeepsAll.moveTo (h.updInterp (hr := fun hl => by simp; omega)) _ fun _ hu => hu.spinStep

theorem callEffect (w : ProgramWord) : KeepsAll s (callEffect w t) := by
  unfold Machine.callEffect
  split
  · exact h.faultOrder _
  split
  next hroom => exact KeepsAll.moveTo (h.updInterp (hc := fun _ => by rw [List.length_append]; exact hroom)) _ fun _ hu => hu.spinStep
  · exact h.faultOrder _

theorem returnEffect (w : ProgramWord) : KeepsAll s (returnEffect w t) := by
  unfold Machine.returnEffect
  split
  · exact h.faultOrder _
  · exact KeepsAll.moveTo (h.updInterp (hc := fun hl => by simp; omega)) _ fun _ hu => hu.spinStep

theorem holdEffect (w : ProgramWord) : KeepsAll s (holdEffect w t) :=
  KeepsAll.moveTo (KeepsAll.raise h.updInterp _) _ fun _ hu => hu

/-- A word row keeps what its effect keeps. -/
theorem wordRow (codes : Nat → Bool) {effect : ProgramWord → State → State} (he : ∀ w, KeepsAll s (effect w t)) :
    KeepsAll s (wordRow codes effect t) := by
  unfold Machine.wordRow
  split
  · exact he _
  · exact h

end KeepsAll

end Sys2Proof.Machine
end

section
set_option Elab.async false
/-! PROOF. The invariants under the lineal section, the moulder, the transfer, the chain's eyes, the heads, the matcher
and the purges. -/

namespace Sys2Proof.Machine

open Sys2Proof

/-! ## The first free value of a cyclic counter (R5, R125) -/

/-- A value that is not taken within the fuel is reached. -/
theorem firstFree_of_free {taken : Nat → Bool} {next : Nat → Nat} {fuel n : Nat}
    (h : ∃ i ≤ fuel, taken (next^[i] n) = false) : taken (firstFree taken next fuel n) = false := by
  induction fuel generalizing n with
  | zero =>
    obtain ⟨i, hi, hfree⟩ := h
    rwa [Nat.le_zero.mp hi] at hfree
  | succ fuel ih =>
    unfold firstFree
    split
    next htaken =>
      obtain ⟨i, hi, hfree⟩ := h
      obtain _ | i := i
      · exact absurd (htaken.symm.trans hfree) (by decide)
      · exact ih ⟨i, Nat.le_of_succ_le_succ hi, hfree⟩
    next hfree => simpa using hfree

/-- The first free value has what the start has and every next value keeps. -/
theorem firstFree_induction {taken : Nat → Bool} {next : Nat → Nat} {P : Nat → Prop} (hnext : ∀ n, P n → P (next n))
    (fuel : Nat) {n : Nat} (hn : P n) : P (firstFree taken next fuel n) := by
  induction fuel generalizing n with
  | zero => exact hn
  | succ fuel ih =>
    unfold firstFree
    split
    · exact ih (hnext n hn)
    · exact hn

/-- The value after n of a counter that goes from its limit to 1. -/
def cyclicNext (limit n : Nat) : Nat := if n = limit then 1 else n + 1

theorem cyclicNext_mem {limit n : Nat} (h : 1 ≤ n ∧ n ≤ limit) : 1 ≤ cyclicNext limit n ∧ cyclicNext limit n ≤ limit := by
  unfold cyclicNext
  split <;> omega

theorem cyclicNext_iterate {limit n : Nat} (h : 1 ≤ n ∧ n ≤ limit) (i : Nat) :
    (cyclicNext limit)^[i] n = (n - 1 + i) % limit + 1 := by
  induction i with
  | zero => rw [Nat.add_zero, Nat.mod_eq_of_lt (by omega)]; exact (Nat.sub_add_cancel h.1).symm
  | succ i ih =>
    have hpos : 0 < limit := by omega
    rw [Function.iterate_succ_apply', ih, cyclicNext, ← Nat.add_assoc, Nat.add_mod (n - 1 + i) 1 limit]
    have hlt := Nat.mod_lt (n - 1 + i) hpos
    split
    next heq =>
      rw [show (n - 1 + i) % limit = limit - 1 by omega]
      rcases Nat.lt_or_ge 1 limit with h1 | h1
      · rw [Nat.mod_eq_of_lt h1, Nat.sub_add_cancel hpos, Nat.mod_self]
      · rw [show limit = 1 by omega]
    next hne => rw [Nat.mod_eq_of_lt (a := 1) (by omega), Nat.mod_eq_of_lt (a := _ % limit + 1) (by omega)]

/-- With fewer taken values than the counter has, and no more of them than the fuel, the first free value is free. -/
theorem firstFree_cyclic {taken : Nat → Bool} {limit fuel n : Nat} (h : 1 ≤ n ∧ n ≤ limit) (hfuel : fuel < limit)
    {l : List Nat} (htaken : ∀ m, taken m = true → m ∈ l) (hl : l.length ≤ fuel) :
    taken (firstFree taken (cyclicNext limit) fuel n) = false := by
  refine firstFree_of_free ?_
  by_contra hall
  push Not at hall
  have hsub : (List.range (fuel + 1)).map (fun i => (cyclicNext limit)^[i] n) ⊆ l := fun m hm => by
    obtain ⟨i, hi, rfl⟩ := List.mem_map.mp hm
    exact htaken _ (by simpa using hall i (Nat.lt_succ_iff.mp (List.mem_range.mp hi)))
  have hnodup : ((List.range (fuel + 1)).map fun i => (cyclicNext limit)^[i] n).Nodup := by
    refine List.nodup_range.map_on fun i hi j hj hij => ?_
    rw [List.mem_range] at hi hj
    rw [cyclicNext_iterate h, cyclicNext_iterate h] at hij
    have hmod : (n - 1 + i) ≡ (n - 1 + j) [MOD limit] := Nat.add_right_cancel hij
    exact (Nat.ModEq.add_left_cancel' _ hmod).eq_of_lt_of_lt (by omega) (by omega)
  have := (hnodup.subperm hsub).length_le
  rw [List.length_map, List.length_range] at this
  omega

/-- The tag of a new record is in the counter's range. -/
theorem State.freeTag_mem {s : State} (h : s.TagsUnique) : 1 ≤ s.freeTag ∧ s.freeTag ≤ 65535 :=
  firstFree_induction (next := cyclicNext 65535) (P := fun n => 1 ≤ n ∧ n ≤ 65535) (fun _ => cyclicNext_mem) _
    ⟨h.counterLow, h.counterHigh⟩

/-- The tag of a new record is no live record's (R5). -/
theorem State.freeTag_not_taken {s : State} (h : s.TagsUnique) : s.tagTaken s.freeTag = false :=
  firstFree_cyclic (limit := 65535) ⟨h.counterLow, h.counterHigh⟩ (Nat.lt_of_le_of_lt h.strips (by decide))
    (l := s.strips.map (·.tag)) (fun m hm => by simpa [State.tagTaken] using hm) (by simp)

/-- A head whose queue is emptied is commanded to no front entry. -/
theorem HeadShrinks.of_nil {r r' : Head} (hp : r'.plan = []) : HeadShrinks r r' :=
  ⟨by simp [hp], fun _ _ e he => by simp [hp] at he⟩

namespace KeepsAll

variable {s t : State} (h : KeepsAll s t)
include h

/-! ## The moulder and the lineal section -/

theorem drainTest : KeepsAll s (drainTest t) := by
  unfold Machine.drainTest drainComplete installRun
  split
  · split
    · split <;> exact h.withMoulder _
    · exact h
  · exact h

theorem loseStrip (tag : Nat) (c : Counter) : KeepsAll s (loseStrip t tag c) := ((h.retire tag c).raise _).drainTest

theorem loseOverdue : KeepsAll s (loseOverdue t) := by
  unfold Machine.loseOverdue
  generalize t.lineal.queue.length = fuel
  induction fuel generalizing t with
  | zero => exact h
  | succ fuel ih =>
    unfold loseOverdueLoop
    split
    · exact ih (h.loseStrip _ _)
    · exact h

theorem loseNewlyWatched (old : Option Nat) : KeepsAll s (loseNewlyWatched old t) := by
  obtain ⟨-, e⟩ | ⟨-, e⟩ := loseNewlyWatched_cases t old <;> rw [e]
  · exact h
  · exact h.loseOverdue

theorem headEdge : KeepsAll s (headEdge t) := by
  unfold Machine.headEdge
  split
  next hroom =>
    have hroom' : t.strips.length + 1 ≤ 96 := hroom
    refine h.trans
      { capacity := fun hc => ⟨by simpa using hroom', hc.buffer, hc.load, hc.orders, hc.calls, hc.repeats, hc.queue,
          hc.labels⟩
        tags := fun ht => ?_ }
    have hmem := cyclicNext_mem (State.freeTag_mem ht)
    refine ⟨?_, by simpa using hroom', hmem.1, hmem.2⟩
    rw [List.map_append]
    refine List.nodup_append.mpr ⟨ht.tags, List.nodup_singleton _, fun a ha b hb hab => ?_⟩
    have hfree := State.freeTag_not_taken ht
    obtain ⟨r, hr, rfl⟩ := List.mem_map.mp ha
    rw [State.tagTaken, List.any_eq_false] at hfree
    exact hfree r hr (by simpa [newStrip, hab] using List.mem_singleton.mp hb)
  · exact ((h.setPassage _).bump _).raise _

theorem longTest : KeepsAll s (longTest t) := by
  unfold Machine.longTest
  split
  · exact h
  split
  · dsimp only
    split
    · exact (h.setPassage _).updStrip _
    · exact h.setPassage _
  · exact h

theorem eyeBlock : KeepsAll s (eyeBlock t) := by
  unfold Machine.eyeBlock
  split
  · exact h.headEdge
  · split
    · exact (h.setPassage _).longTest
    · exact h

theorem eyeUnblock : KeepsAll s (eyeUnblock t) := by
  unfold Machine.eyeUnblock
  split
  · split
    · exact h.setPassage _
    · exact h
  · exact h

theorem putSpindle (i : SpindleId) (w : Spindle) : KeepsAll s (putSpindle t i w) := by
  have hset : KeepsAll s { t with moulder := t.moulder.setSpindle i { w with worn := w.worn || w.isWorn
                                                                             spent := w.spent || w.isSpent } } :=
    h.withMoulder _
  unfold Machine.putSpindle
  extract_lets raiseWorn raiseSpent marked s1 s2
  have hworn : KeepsAll s s2 := by
    dsimp only [s2]
    split
    · exact hset.raise _
    · exact hset
  split
  · exact hworn.raise _
  · exact hworn

theorem takeExit (r : Strip) : KeepsAll s (takeExit r t) := by
  unfold Machine.takeExit
  exact List.foldlRecOn (motive := fun u => KeepsAll s u) _ _ (h.updStrip _) fun u hu i _ => hu.putSpindle i _

/-- Members taken in a free order keep what one of them keeps. -/
theorem inFreeOrder {α : Type} (l : List α) {f : α → State → State} (hf : ∀ a u, KeepsAll s u → KeepsAll s (f a u)) :
    KeepsAll s (inFreeOrder l f t) := by
  unfold Machine.inFreeOrder
  exact List.foldlRecOn (motive := fun u => KeepsAll s u) _ _ (h.withFreeCount _) fun u hu a _ => hf a u hu

theorem takeExits (confirmed : Option Nat) : KeepsAll s (takeExits confirmed t) := h.inFreeOrder _ fun r _ hu => hu.takeExit r

theorem confirmTail (a : Passage) : KeepsAll s (confirmTail t a) := by
  unfold Machine.confirmTail
  dsimp only
  split
  · exact (h.setPassage _).updStrip _
  · exact h.setPassage _

theorem takeTail : KeepsAll s (takeTail t).1 := by
  unfold Machine.takeTail
  split
  · split
    · exact (h.confirmTail _).drainTest
    · exact h
  · exact h

theorem tailEvent : KeepsAll s (tailEvent t) := (h.takeTail.takeExits _).loseNewlyWatched _

theorem positionEvents : KeepsAll s (positionEvents t) := by
  have hcleared : ∀ u, KeepsAll s u → KeepsAll s (if u.clearDue then Machine.drainTest u else u) := fun u hu => by
    split
    · exact hu.drainTest
    · exact hu
  exact (hcleared _ (h.longTest.takeTail.takeExits _)).loseOverdue

theorem advanceP : KeepsAll s (advanceP t) := h.withLineal rfl

theorem encoderCount : KeepsAll s (encoderCount t) := h.advanceP.positionEvents

theorem positionRow {due : State → Bool} {event : State → State} (he : ∀ u, KeepsAll s u → KeepsAll s (event u)) :
    KeepsAll s (positionRow due event t) := by
  unfold Machine.positionRow
  split
  · exact he t h
  · split
    · exact h.encoderCount
    · exact h

theorem lostAtTransfer : KeepsAll s (lostAtTransfer t) := by
  obtain ⟨-, e⟩ | ⟨-, e⟩ := lostAtTransfer_cases t <;> rw [e]
  · exact h.encoderCount
  · exact h

/-! ## The transfer and the chain's eyes -/

theorem joinLoad {e : LoadEntry} (hroom : t.chain.load.length < Config.loadCapacity) : KeepsAll s (joinLoad e t) :=
  h.updChain rfl fun _ => by rw [List.length_append]; exact hroom

theorem transferUnblock : KeepsAll s (transferUnblock t) := by
  have hclear : KeepsAll s (t.updChain fun c => { c with lastClear := some t.lineal.p }) := h.updChain rfl fun hl => hl
  unfold Machine.transferUnblock
  split
  · exact h
  refine KeepsAll.loseNewlyWatched ?_ _
  split
  next hroom =>
    unfold matchClear
    split
    · exact hclear.joinLoad hroom
    · exact (hclear.joinLoad hroom).bump _
  · unfold overload
    dsimp only
    split
    · exact (hclear.bump _).loseStrip _ _
    · exact hclear.bump _

theorem verifyBlock : KeepsAll s (verifyBlock t) := h.updChain rfl fun hl => hl

theorem loadLug : KeepsAll s (loadLug t) := by
  have hstrips : KeepsAll s ((loadSlot t.chain.load).named.foldl
      (loadStrip t.chain.serial ((loadSlot t.chain.load).kind = .doubled))
      ((t.setSlot t.chain.serial (loadSlot t.chain.load)).updChain fun c => { c with load := [] })) :=
    List.foldlRecOn (motive := fun u => KeepsAll s u) _ _ ((h.setSlot _ _).updChain rfl fun _ => by simp)
      fun u hu tag _ => KeepsAll.withLineal (hu.updStrip tag) rfl
  unfold Machine.loadLug
  dsimp only
  split
  · exact hstrips.bump _
  · exact (hstrips.raise _).bump _
  · exact hstrips

theorem verifyOutcome (n : Serial) (wood : Bool) : KeepsAll s (verifyOutcome t n wood) := by
  have hlost : KeepsAll s (((t.slot n).named.foldl (fun s tag => Machine.loseStrip s tag .lostVerify) t).setKind n .empty) :=
    KeepsAll.setKind (List.foldlRecOn (motive := fun u => KeepsAll s u) _ _ h fun u hu tag _ => hu.loseStrip tag _) _ _
  unfold Machine.verifyOutcome
  split
  · exact hlost
  · exact hlost
  · exact ((h.setKind _ _).bump _).raise _
  · exact h.setKind _ _
  · exact h

theorem verifyTick : KeepsAll s (verifyTick t) := (h.updChain rfl fun hl => hl).verifyOutcome _ _

theorem chainEnd : KeepsAll s (chainEnd t) := by
  have hends : KeepsAll s ((t.slot (t.serialAt t.geometry.x)).named.foldl endStrip t) :=
    List.foldlRecOn (motive := fun u => KeepsAll s u) _ _ h fun u hu tag _ => by
      unfold endStrip
      split
      · split
        · exact hu
        · exact hu.retire _ _
      · exact hu
  unfold Machine.chainEnd
  refine KeepsAll.setSlot ?_ _ _
  split
  · exact hends.bump _
  · exact hends

/-! ## Heads -/

theorem withHomed (l : List HeadId) : KeepsAll s { t with homed := l } := h.trans {}

theorem noPlunge (g : HeadId) (n : Serial) : KeepsAll s (noPlunge t g n) := by
  refine h.updHead ⟨?_, fun hc hready e he => ?_⟩
  · rw [List.map_map]
    refine (List.map_congr_left fun e _ => ?_) ▸ List.Sublist.refl _
    simp only [Function.comp_apply]
    split <;> rfl
  · cases hplan : (t.head g).plan with
    | nil => simp [hplan] at he
    | cons x l =>
      have hx := hc hready x (by simp [hplan])
      simp only [hplan, List.map_cons, List.head?_cons, Option.mem_some_iff] at he
      rw [← he]
      split <;> exact hx

/-- A head takes its front entry and is sent the next: its commanded step is the front's again. -/
theorem takeEntry (g : HeadId) (n : Serial) : KeepsAll s (takeEntry t g n) := by
  unfold Machine.takeEntry
  split
  next e _ =>
    have hserials : ((t.head g).plan.drop 1 |>.map (·.serial)).Sublist ((t.head g).plan.map (·.serial)) :=
      (List.drop_sublist _ _).map _
    unfold sendFront
    rw [State.head_updHead]
    dsimp only
    split
    next x l hready hplan =>
      split
      next hstep =>
        exact h.updHead ⟨hserials, fun _ _ y hy => by rw [hplan] at hy; rw [← Option.mem_some_iff.mp hy]; exact hstep⟩
      next =>
        refine KeepsAll.pulse ?_ (by simp)
        have hboth := h.setHead (g := g) (r := { t.head g with plan := (t.head g).plan.drop 1, executed := some e
                                                               commanded := x.step, inPosition := false })
          ⟨hserials, fun _ _ y hy => by rw [hplan] at hy; rw [← Option.mem_some_iff.mp hy]⟩
        cases g <;> exact hboth
    next hnone =>
      refine h.updHead ⟨hserials, fun _ hready y hy => ?_⟩
      dsimp only at hready hy
      cases hplan : (t.head g).plan.drop 1 with
      | nil => rw [hplan] at hy; cases hy
      | cons x l => exact (hnone x l hready hplan).elim
  · exact h

theorem makeUncut (tag : Nat) (cause : Cause) : KeepsAll s (makeUncut t tag cause) := h.updStrip tag

theorem cancelDrop (tag : Nat) : KeepsAll s (cancelDrop t tag).1 := by
  unfold Machine.cancelDrop
  split
  · exact h.cancelPlanned _ _
  · exact h

theorem testAfterCancel (k : Option BayId) : KeepsAll s (testAfterCancel t k) := by
  cases k with
  | none => exact h
  | some k => exact h.completionTest k true

theorem loseCut (cause : Cause) (c : Counter) (tag : Nat) : KeepsAll s (loseCut cause c t tag) :=
  ((h.cancelDrop tag).makeUncut _ _).bump _

theorem makeCut (n : Serial) : KeepsAll s (makeCut t n) := by
  refine KeepsAll.bump (KeepsAll.makeStarts (h.trans ?_) _ _) _
  exact { plunges := fun _ => by simp [State.PlungesTogether, State.pulse] }

theorem latePosition (n : Serial) : KeepsAll s (latePosition t n) :=
  KeepsAll.testBays (List.foldlRecOn (motive := fun u => KeepsAll s u) _ _ (h.freeStarts _ _)
    fun _ hu tag _ => hu.loseCut _ _ tag) _ _

theorem trimStrip (tag : Nat) : KeepsAll s (trimStrip t tag) :=
  h.updStrip tag fun r => by split <;> rfl

theorem endMatchTick : KeepsAll s (endMatchTick t) := by
  have htrim : KeepsAll s ((t.slot (t.serialAt t.geometry.e)).named.foldl Machine.trimStrip t) :=
    List.foldlRecOn (motive := fun u => KeepsAll s u) _ _ h fun u hu tag _ => hu.trimStrip tag
  unfold Machine.endMatchTick endMatchOutcome
  refine KeepsAll.takeEntry (KeepsAll.takeEntry ?_ _ _) _ _
  split
  · exact htrim.makeCut _
  split
  · exact htrim.latePosition _
  · exact htrim

theorem cancelCut (g : HeadId) (e : PlanEntry) : KeepsAll s (cancelCut g t e) := by
  unfold Machine.cancelCut
  split
  · exact List.foldlRecOn (motive := fun u => KeepsAll s u) _ _ h fun u hu tag _ =>
      ((hu.freeStarts _ _).noPlunge _ _).loseCut _ _ tag
  · exact h

theorem faultHead (g : HeadId) : KeepsAll s (faultHead g t) := by
  unfold Machine.faultHead
  split
  · exact h
  · exact KeepsAll.testBays (List.foldlRecOn (motive := fun u => KeepsAll s u) _ _
      (((h.updHead (HeadShrinks.of_nil rfl)).raise _).bump _) fun _ hu e _ => hu.cancelCut g e) _ _

theorem homeHead (g : HeadId) : KeepsAll s (homeHead t g) := by
  refine KeepsAll.pulse ?_ (by simp)
  have hboth := h.setHead (g := g) (r := { t.head g with state := .homing, plan := [], reference := none, commanded := 0
                                                         inPosition := false }) (HeadShrinks.of_nil rfl)
  cases g <;> exact hboth

theorem resetHead (g : HeadId) : KeepsAll s (resetHead t g) := by
  unfold Machine.resetHead
  split
  · exact h.homeHead g
  · exact h.updHead (HeadShrinks.of_nil rfl)

theorem homingDone (earlier : List HeadId) (g : HeadId) : KeepsAll s (homingDone earlier t g) :=
  (h.updHead (HeadShrinks.of_nil rfl)).withHomed _

theorem positionReached (earlier : List HeadId) (g : HeadId) : KeepsAll s (positionReached earlier g t) := by
  obtain ⟨-, e⟩ | ⟨-, e⟩ | ⟨-, e⟩ := positionReached_cases t earlier g <;> rw [e]
  · exact h.updHead ⟨.refl _, fun hc => hc⟩
  · exact h.homingDone _ _
  · exact h

theorem positionLost (g : HeadId) : KeepsAll s (positionLost g t) := by
  unfold Machine.positionLost
  split
  · exact h
  · exact h.updHead ⟨.refl _, fun hc => hc⟩

theorem homingComplete (earlier : List HeadId) (g : HeadId) : KeepsAll s (homingComplete earlier g t) := by
  unfold Machine.homingComplete
  split
  · exact h.homingDone _ _
  · exact h

theorem homingsAtTick (homed : List HeadId) : KeepsAll s (homingsAtTick homed t) := by
  obtain ⟨-, e⟩ | ⟨-, n, e⟩ := homingsAtTick_cases t homed <;> rw [e]
  · exact h
  · refine List.foldlRecOn (motive := fun u => KeepsAll s u) _ _ (h.withFreeCount _) fun u hu g _ => hu.updHead ?_
    split
    · exact ⟨.refl _, fun hc => hc⟩
    · exact .refl _

/-! ## The matcher -/

theorem stationHunt : KeepsAll s (stationHunt t) := h.updMatcher fun hl => hl

theorem stationBegin : KeepsAll s (stationBegin t) := by
  unfold Machine.stationBegin
  split
  · exact h
  · exact h.updMatcher fun hl => hl

theorem stationDiscard : KeepsAll s (stationDiscard t) := h.stationHunt.bump _

theorem stationTimeout : KeepsAll s (stationTimeout t) := by
  unfold Machine.stationTimeout
  split
  · exact h.stationDiscard
  · exact h

theorem joinBuffer (r : Report) : KeepsAll s (joinBuffer r t) := by
  unfold Machine.joinBuffer
  split
  next hroom => exact h.updMatcher fun _ => by rw [List.length_append]; exact hroom
  · exact h.bump _

theorem reportReceived (p : List Byte) : KeepsAll s (reportReceived p t) := by
  unfold Machine.reportReceived
  split
  · exact h.stationHunt.joinBuffer _
  · exact h.stationDiscard

theorem matchOutcome (q : Report) : KeepsAll s (matchOutcome q t) := by
  unfold Machine.matchOutcome matched lateReport
  split
  · dsimp only
    split
    · exact (((h.updStrip _).bump _).bumpBy _ _).bump _
    · exact ((h.updStrip _).bump _).bumpBy _ _
  split
  · exact ((h.updStrip _).bump _).raise _
  split
  · exact h.bump _
  · exact (h.bump _).raise _

theorem matchCompletion : KeepsAll s (matchCompletion t) := by
  unfold Machine.matchCompletion leaveBuffer
  split
  · split
    · exact (h.matchOutcome _).updMatcher fun hl => (List.drop_sublist _ _).length_le.trans hl
    · exact h
  · exact h

/-! ## Purges (R14 to R17) -/

theorem retirePurged (tag : Nat) : KeepsAll s (retirePurged t tag) := (h.retire _ _).drainTest

theorem purgeLineal (r : Strip) : KeepsAll s (purgeLineal t r) := by
  have hload : KeepsAll s (forgetLoad (untrackPassage t r.tag) r.tag) :=
    (h.setPassage _).updChain rfl fun hl => by simpa using hl
  exact (hload.retirePurged r.tag).loseNewlyWatched _

theorem purgePlans (r : Strip) (n : Serial) : KeepsAll s (purgePlans t r n) := by
  have hplans : KeepsAll s (if r.state = .decided then
      Machine.noPlunge (Machine.noPlunge t .headSide n) .tailSide n else t) := by
    split
    · exact (h.noPlunge _ _).noPlunge _ _
    · exact h
  unfold Machine.purgePlans
  dsimp only
  split
  · exact hplans.freeStarts _ _
  · exact hplans

theorem purgeCommitment (r : Strip) : KeepsAll s (purgeCommitment t r).1 := by
  have hpending : ∀ k, KeepsAll s (t.updBay k fun b => { b with pendingDrop := none }) := fun _ => h.updBay rfl (.refl _)
  unfold Machine.purgeCommitment
  split
  · split
    · unfold cancelPending
      dsimp only
      split
      · exact (hpending _).releaseCommitment _ _
      · exact hpending _
    · exact h
  · exact h.cancelDrop _

theorem purgeSlot (r : Strip) (n : Serial) : KeepsAll s (purgeSlot t r n) := by
  unfold Machine.purgeSlot
  split
  · exact h
  · split
    · exact h.setKind _ _
    · exact h

theorem purgeChain (r : Strip) (n : Serial) : KeepsAll s (purgeChain t r n) :=
  ((((h.purgePlans r n).purgeCommitment r).retirePurged r.tag).purgeSlot r n).testAfterCancel _

theorem purge (r : Strip) : KeepsAll s (purge t r) := by
  unfold Machine.purge
  split
  · exact h.purgeChain r _
  · exact h.purgeLineal r

end KeepsAll

end Sys2Proof.Machine
end

section
set_option Elab.async false
/-! PROOF. The invariants under the line link, the requests, the millisecond and RESET TRACKING. -/

namespace Sys2Proof.Machine

open Sys2Proof

/-- What a request can do: nothing, a discard, or an answer to a refusal or to the state its block gives (R193). -/
theorem request_cases (code : Byte) (ok : Nat → Bool) (f : List Byte → State → Reply) (p : List Byte) (s : State) :
    request code ok f p s = s ∨ request code ok f p s = linkDiscard s ∨
    (∃ e, request code ok f p s = answer code e [] (heard s)) ∨
    ∃ t pl, f p (heard s) = .ok (t, pl) ∧ request code ok f p s = answer code .ok pl t := by
  unfold request
  split
  · exact .inl rfl
  split
  · exact .inr (.inl rfl)
  dsimp only
  split
  · cases hf : f p (heard s) with
    | error e => exact .inr (.inr (.inl ⟨e, rfl⟩))
    | ok r => exact .inr (.inr (.inr ⟨r.1, r.2, rfl, rfl⟩))
  · exact .inr (.inr (.inl ⟨_, rfl⟩))

/-- A reply that is a refusal, or leaves a state that keeps the invariants of s. -/
def ReplyKeeps (s : State) : Reply → Prop
  | .ok (t, _) => KeepsAll s t
  | .error _ => True

/-- A request that names a bay keeps what its effect on that bay keeps. -/
theorem ReplyKeeps.bayRequest {s t : State} {f : State → BayId → Reply} (p : List Byte) (hf : ∀ k, ReplyKeeps s (f t k)) :
    ReplyKeeps s (bayRequest f p t) := by
  unfold Machine.bayRequest
  split
  · exact hf _
  · trivial

/-- A request that names a live order keeps what its effect on that order keeps. -/
theorem ReplyKeeps.orderRequest {s t : State} {f : State → Order → Reply} (p : List Byte)
    (hf : ∀ o, t.order? (fieldAt p 0 2) = some o → ReplyKeeps s (f t o)) : ReplyKeeps s (orderRequest f p t) := by
  unfold Machine.orderRequest
  dsimp only
  split
  · trivial
  split
  next o ho => exact hf o ho
  · trivial

namespace KeepsAll

variable {s t : State} (h : KeepsAll s t)
include h

theorem taken : ReplyKeeps s (taken t) := h

theorem replied (pl : List Byte) : ReplyKeeps s (.ok (t, pl)) := h

/-! ## The line link -/

theorem linkDiscard : KeepsAll s (linkDiscard t) := by
  unfold Machine.linkDiscard
  split
  · exact h
  · exact h.updLink.bump _

theorem linkBegin (n : Option (Fin 601)) : KeepsAll s (linkBegin n t) := by
  unfold Machine.linkBegin
  split
  · exact h.updLink
  · exact h

theorem linkDeadline : KeepsAll s (linkDeadline t) := by
  unfold Machine.linkDeadline
  split
  · exact h.linkDiscard
  · exact h

theorem responseComplete : KeepsAll s (responseComplete t) := by
  unfold Machine.responseComplete
  split
  · exact h.updLink
  · exact h

theorem restartWatchdog : KeepsAll s (restartWatchdog t) := h.updLink

theorem heard : KeepsAll s (heard t) := by
  unfold Machine.heard
  dsimp only
  split
  · exact (h.restartWatchdog.updLink fun _ => rfl).pauseChanged
  · exact h.restartWatchdog.updLink fun _ => rfl

theorem answer (code : Byte) (e : Status) (p : List Byte) : KeepsAll s (answer code e p t) := h.updLink.bump _

theorem request (code : Byte) (ok : Nat → Bool) {f : List Byte → State → Reply} (p : List Byte)
    (hf : ∀ u, KeepsAll s u → ReplyKeeps s (f p u)) : KeepsAll s (request code ok f p t) := by
  obtain e | e | ⟨st, e⟩ | ⟨v, pl, hv, e⟩ := request_cases code ok f p t <;> rw [e]
  · exact h
  · exact h.linkDiscard
  · exact h.heard.answer _ _ _
  · have hreply := hf _ h.heard
    rw [hv] at hreply
    exact KeepsAll.answer hreply _ _ _

theorem unknownRequest (code : Byte) : KeepsAll s (unknownRequest code t) := by
  unfold Machine.unknownRequest
  split
  · exact h
  · exact h.request _ _ _ fun _ _ => trivial

/-! ## The configuration requests -/

theorem withLimits (l : Limits) : KeepsAll s { t with limits := l } := h.trans {}
theorem withGrades (g : Vector GradeEntry 4) : KeepsAll s { t with grades := g } := h.trans {}
theorem withPoints (p : Vector ClassPoints 8) : KeepsAll s { t with points := p } := h.trans {}

theorem setLimits (p : List Byte) : ReplyKeeps s (setLimits p t) := by
  unfold Machine.setLimits
  dsimp only
  split
  · trivial
  split
  · trivial
  split
  · trivial
  · exact (h.withLimits _).restartWatchdog.taken

theorem setGradeTable (p : List Byte) : ReplyKeeps s (setGradeTable p t) := by
  unfold Machine.setGradeTable
  split
  · exact (h.withGrades _).taken
  · trivial

theorem setPointsTable (p : List Byte) : ReplyKeeps s (setPointsTable p t) := by
  unfold Machine.setPointsTable
  split
  · exact (h.withPoints _).taken
  · trivial

theorem setSpindleLimits (p : List Byte) : ReplyKeeps s (setSpindleLimits p t) := by
  unfold Machine.setSpindleLimits setThresholds
  split
  · exact KeepsAll.taken (((((h.withMoulder _).putSpindle _ _).putSpindle _ _).putSpindle _ _).putSpindle _ _)
  · trivial

theorem setRecipe (p : List Byte) : ReplyKeeps s (setRecipe p t) := by
  unfold Machine.setRecipe
  split
  · split
    · split
      · exact (h.withRecipes _).taken
      · trivial
    · trivial
  · trivial

theorem setTemplate (p : List Byte) : ReplyKeeps s (setTemplate p t) := by
  unfold Machine.setTemplate
  split
  · unfold templateForm
    dsimp only
    split
    · split
      · exact KeepsAll.taken (h.withLabels fun hl => hl)
      · trivial
    · trivial
  · unfold millIdForm
    dsimp only
    split
    · exact KeepsAll.taken (h.withLabels fun hl => hl)
    · trivial
  · trivial

theorem setBay (p : List Byte) : ReplyKeeps s (setBay p t) := by
  unfold Machine.setBay
  split
  · split
    · exact (h.updBay rfl (.refl _)).taken
    · trivial
  · trivial

/-! ## The requests on the line, the moulder and the heads -/

theorem setLine (v : LineState) : KeepsAll s (setLine v t) := (h.updLink).pauseChanged

theorem startLine (p : List Byte) : ReplyKeeps s (startLine p t) := by
  unfold Machine.startLine
  split
  · trivial
  · exact (h.setLine _).taken
  · trivial

theorem stopLine (p : List Byte) : ReplyKeeps s (stopLine p t) := by
  unfold Machine.stopLine
  split
  · trivial
  · trivial
  · exact (h.setLine _).taken

theorem setInfeedHold (v : Bool) : KeepsAll s (setInfeedHold v t) := h.withLineal rfl

theorem installRun (q : PendingRun) : KeepsAll s (installRun t q) := h.withMoulder _

theorem recordRun (q : PendingRun) (m : MoulderState) : KeepsAll s (recordRun t q m) := h.withMoulder _

theorem newRun (p : List Byte) : ReplyKeeps s (newRun p t) := by
  unfold Machine.newRun
  split
  · trivial
  split
  · split
    · exact (h.recordRun _ _).taken
    · exact (h.installRun _).taken
  · exact (h.recordRun _ _).drainTest.taken
  · trivial
  · trivial

theorem toolingReady (p : List Byte) : ReplyKeeps s (toolingReady p t) := by
  unfold Machine.toolingReady
  split
  · exact ((h.withMoulder _).installRun _).taken
  · trivial

theorem clearHeadFault (p : List Byte) : ReplyKeeps s (clearHeadFault p t) := by
  unfold Machine.clearHeadFault
  split
  · trivial
  split
  · split
    · trivial
    · exact (h.homeHead _).taken
  · trivial
  · trivial

/-! ## The strip requests -/

theorem getStrip (p : List Byte) : ReplyKeeps s (getStrip p t) := by
  unfold Machine.getStrip
  dsimp only
  split
  · trivial
  split
  · exact h.replied _
  · trivial

theorem listStrips (p : List Byte) : ReplyKeeps s (listStrips p t) := by
  unfold Machine.listStrips
  split
  · exact h.replied _
  · trivial

theorem getLug (p : List Byte) : ReplyKeeps s (getLug p t) := by
  unfold Machine.getLug
  split
  · exact h.replied _
  · trivial

theorem amendStrip (p : List Byte) : ReplyKeeps s (amendStrip p t) := by
  unfold Machine.amendStrip
  dsimp only
  split
  · trivial
  split
  · trivial
  split
  · trivial
  split
  · exact (h.updStrip _).taken
  · trivial

theorem purgeStrip (p : List Byte) : ReplyKeeps s (purgeStrip p t) := by
  unfold Machine.purgeStrip
  dsimp only
  split
  · trivial
  split
  · exact (h.purge _).taken
  · trivial

/-! ## The bay requests -/

theorem getBay (p : List Byte) : ReplyKeeps s (getBay p t) := ReplyKeeps.bayRequest p fun _ => h.replied _

theorem closeBundle (p : List Byte) : ReplyKeeps s (closeBundle p t) := ReplyKeeps.bayRequest p fun k => by
  split
  · exact ((h.updBundle k _).completionTest k true).taken
  · trivial

theorem abortBundleRequest (p : List Byte) : ReplyKeeps s (abortBundleRequest p t) := ReplyKeeps.bayRequest p fun k => by
  split
  next hst => exact (h.abortBundle hst).taken
  · trivial

theorem clearBay (p : List Byte) : ReplyKeeps s (clearBay p t) := ReplyKeeps.bayRequest p fun k => by
  split
  next hst => exact (h.clearBayFault hst.1).taken
  · trivial

theorem enableBay (p : List Byte) : ReplyKeeps s (enableBay p t) := ReplyKeeps.bayRequest p fun k => by
  split
  next hst => exact (h.enterEmpty (h.unqueued (by simp [hst]) (by simp [hst]) (by simp [hst]))).taken
  · trivial

theorem disableBay (p : List Byte) : ReplyKeeps s (disableBay p t) := ReplyKeeps.bayRequest p fun k => by
  split
  next hst => exact (h.freeBay (.refl _) (h.unqueued (by simp [hst]) (by simp [hst]) (by simp [hst]))).taken
  · trivial

theorem resetStrapper (p : List Byte) : ReplyKeeps s (resetStrapper p t) := by
  unfold Machine.resetStrapper
  split
  · exact KeepsAll.taken (KeepsAll.arbitrate (h.withQueues (labelWait := t.labelWait) (.refl _) (.refl _) fun _ hk => hk))
  · trivial

theorem confirm (k : BayId) : KeepsAll s (confirm k t) := by
  unfold Machine.confirm
  split
  · exact h.resolveDrop k true
  · exact h.bump _

theorem strapComplete (n : Nat) : KeepsAll s (strapComplete n t) := by
  unfold Machine.strapComplete
  split
  next k _ hk =>
    split
    · exact h.strapDone hk
    · exact h.bump _
  · exact h.bump _

/-! ## The order and label requests -/

theorem loadProgram (p : List Byte) : ReplyKeeps s (loadProgram p t) := by
  unfold Machine.loadProgram
  dsimp only
  split
  · trivial
  · exact (h.withProgram _).taken

theorem addOrder (p : List Byte) : ReplyKeeps s (addOrder p t) := by
  unfold Machine.addOrder
  dsimp only
  split
  · split
    · trivial
    split
    · trivial
    next hnew =>
      split
      · trivial
      next hroom => exact (h.createOrder _ (by simpa using hnew) (Nat.lt_of_not_le hroom)).taken
  · trivial

theorem releaseOrder (p : List Byte) : ReplyKeeps s (releaseOrder p t) := ReplyKeeps.orderRequest p fun o _ => by
  split
  · exact h.updInterp.taken
  · trivial

theorem cancelOrder (p : List Byte) : ReplyKeeps s (cancelOrder p t) := ReplyKeeps.orderRequest p fun o _ => by
  split
  · exact (h.cancel _).taken
  · trivial

theorem retireOrder (p : List Byte) : ReplyKeeps s (retireOrder p t) := ReplyKeeps.orderRequest p fun o ho => by
  split
  next hr =>
    refine (h.removeOrder ((State.order?_id ho).symm ▸ ho) ?_).taken
    simp only [Order.retirable, Bool.or_eq_true, Bool.and_eq_true, decide_eq_true_eq] at hr
    exact hr.imp_right And.left
  · trivial

theorem getOrder (p : List Byte) : ReplyKeeps s (getOrder p t) := by
  unfold Machine.getOrder
  split
  · exact h.replied _
  split
  · exact h.replied _
  · trivial

theorem listLabels (p : List Byte) : ReplyKeeps s (listLabels p t) := by
  unfold Machine.listLabels
  split
  · exact h.replied _
  · trivial

theorem fetchLabel (p : List Byte) : ReplyKeeps s (fetchLabel p t) := by
  unfold Machine.fetchLabel
  dsimp only
  split
  · trivial
  split
  · exact (h.markFetched _).replied _
  · trivial

theorem retireLabel (p : List Byte) : ReplyKeeps s (retireLabel p t) := by
  unfold Machine.retireLabel
  dsimp only
  split
  · trivial
  split
  · trivial
  split
  · exact (h.removeLabel _).taken
  · trivial

/-! ## Supervision, RESET TRACKING and the millisecond -/

theorem setNoticeMask (p : List Byte) : ReplyKeeps s (setNoticeMask p t) := by
  unfold Machine.setNoticeMask
  split
  · exact (h.updLink).taken
  · trivial

theorem clearCounters (p : List Byte) : ReplyKeeps s (clearCounters p t) :=
  KeepsAll.taken (h.trans { counters := fun _ c => (Nat.le_of_eq (count_cleared t c)).trans (Nat.zero_le _) })

theorem resetLineal : KeepsAll s (resetLineal t) :=
  (h.withStrips (strips := []) (lineal := { t.lineal with
    queue := [], passage := t.lineal.passage.map fun a => { a with tag := none } }) rfl (List.nil_sublist _)).drainTest

theorem resetHeads : KeepsAll s (resetHeads t) := ((h.resetHead _).resetHead _).clearPlanned

theorem dropAllCommitments (l : List BayId) : KeepsAll s (l.foldl Machine.dropCommitments t) := by
  induction l generalizing t with
  | nil => exact h
  | cons k l ih => exact ih (h.dropCommitments k)

theorem resetBays : KeepsAll s (resetBays t) := by
  unfold Machine.resetBays
  exact (h.dropAllCommitments allBays).testBays true allBays

theorem withCause (c : ResetCause) : KeepsAll s (t.updLink fun l => { l with cause := c }) := h.updLink

theorem trackingReset : KeepsAll s (trackingReset t) := by
  have hmatcher : KeepsAll s (resetMatcher (Machine.resetLineal t)) := h.resetLineal.updMatcher fun _ => Nat.zero_le _
  have hchain : KeepsAll s (resetChain (resetMatcher (Machine.resetLineal t))) :=
    hmatcher.updChain rfl fun _ => Nat.zero_le _
  unfold Machine.trackingReset
  exact hchain.resetHeads.resetBays.withCause .tracking

/-- The timers count down. -/
theorem countTimers : KeepsAll s (countTimers t) := by
  have hbay : ∀ k, (Machine.countTimers t).bay k = { t.bay k with settleTimer := countDown (t.bay k).settleTimer } :=
    fun k => by simp [State.bay, Machine.countTimers]
  exact h.trans
    { queues := fun hq => ⟨hq.fifoOnce, fun k hk => (congrArg Bay.state (hbay k)).trans (hq.fifo k hk), hq.labelsOnce,
        fun k hk => (congrArg Bay.state (hbay k)).trans (hq.labels k hk),
        fun k hk => (congrArg Bay.state (hbay k)).trans (hq.current k hk)⟩
      planned := fun k => by rw [hbay k] }

end KeepsAll

end Sys2Proof.Machine
end

section
set_option Elab.async false
/-! PROOF. The windows of the plan queues and of the planned drops (R101, R128), under a lug tick and a new geometry. -/

namespace Sys2Proof.Machine

open Sys2Proof

/-! ## Serials in a window behind D -/

/-- The serials stood at D at least lo and less than hi ticks ago, the oldest first, no two at one tick. -/
structure State.Window (s : State) (lo hi : Nat) (l : List Serial) : Prop where
  low : ∀ n ∈ l, lo ≤ s.ticksSinceD n
  high : ∀ n ∈ l, s.ticksSinceD n < hi
  oldestFirst : l.Pairwise fun a b => s.ticksSinceD b < s.ticksSinceD a

theorem State.ticksSinceD_congr {s t : State} (hd : t.geometry.d = s.geometry.d) (hn : t.chain.serial = s.chain.serial) :
    t.ticksSinceD = s.ticksSinceD := by
  funext n
  simp [State.ticksSinceD, State.serialAt, hd, hn]

namespace State.Window

variable {s : State} {lo hi : Nat} {l l' : List Serial} {n : Serial}

theorem sublist (h : s.Window lo hi l) (hl : l'.Sublist l) : s.Window lo hi l' :=
  ⟨fun n hn => h.low n (hl.mem hn), fun n hn => h.high n (hl.mem hn), h.oldestFirst.sublist hl⟩

theorem congr {t : State} (h : s.Window lo hi l) (ht : t.ticksSinceD = s.ticksSinceD) : t.Window lo hi l := by
  obtain ⟨h1, h2, h3⟩ := h
  constructor <;> rwa [ht]

theorem nil (s : State) (lo hi : Nat) : s.Window lo hi [] := ⟨by simp, by simp, .nil⟩

/-- A window of hi ticks holds at most hi serials. -/
theorem length_le (h : s.Window lo hi l) : l.length ≤ hi := by
  have hnodup : (l.map s.ticksSinceD).Nodup := List.pairwise_map.mpr (h.oldestFirst.imp fun hab => hab.ne')
  have hsub : l.map s.ticksSinceD ⊆ List.range hi := fun m hm => by
    obtain ⟨n, hn, rfl⟩ := List.mem_map.mp hm
    exact List.mem_range.mpr (h.high n hn)
  simpa using (hnodup.subperm hsub).length_le

/-- The serial whose time has come is the oldest: without it the window is shorter. -/
theorem tail (h : s.Window lo (hi + 1) (n :: l)) : s.Window lo hi l := by
  have hrest := List.pairwise_cons.mp h.oldestFirst
  have hhead := h.high n List.mem_cons_self
  exact ⟨fun m hm => h.low m (List.mem_cons_of_mem _ hm), fun m hm => by have := hrest.1 m hm; omega, hrest.2⟩

/-- A window whose oldest serial's time has not come is shorter. -/
theorem shorten (h : s.Window lo (hi + 1) (n :: l)) (hn : s.ticksSinceD n ≠ hi) : s.Window lo hi (n :: l) := by
  have hhead := h.high n List.mem_cons_self
  refine ⟨h.low, fun m hm => ?_, h.oldestFirst⟩
  rcases List.mem_cons.mp hm with rfl | hm
  · omega
  · exact h.tail.high m hm

/-- The serial of the lug at D joins a window behind it. -/
theorem append (h : s.Window 1 hi l) (hn : s.ticksSinceD n = 0) (hhi : 0 < hi) : s.Window 0 hi (l ++ [n]) := by
  refine ⟨fun _ _ => Nat.zero_le _, fun m hm => ?_, List.pairwise_append.mpr ⟨h.oldestFirst, by simp, fun a ha b hb => ?_⟩⟩
  · rcases List.mem_append.mp hm with hm | hm
    · exact h.high m hm
    · rw [List.mem_singleton.mp hm, hn]; exact hhi
  · rw [List.mem_singleton.mp hb, hn]
    exact h.low a ha

theorem weaken (h : s.Window 1 hi l) : s.Window 0 hi l := ⟨fun _ _ => Nat.zero_le _, h.high, h.oldestFirst⟩

end State.Window

/-- A tick moves every serial one tick on. -/
theorem ticksSinceD_advanceSerial (s : State) {n : Serial} (h : s.ticksSinceD n < 2 ^ 32 - 1) :
    (advanceSerial s).ticksSinceD n = s.ticksSinceD n + 1 := by
  simp only [State.ticksSinceD, State.serialAt] at h ⊢
  have hshift : (advanceSerial s).chain.serial - BitVec.ofNat 32 (advanceSerial s).geometry.d - n =
      s.chain.serial - BitVec.ofNat 32 s.geometry.d - n + 1 := by
    change s.chain.serial + 1 - BitVec.ofNat 32 s.geometry.d - n = _
    bv_omega
  rw [hshift, BitVec.toNat_add]
  have hone : (1 : Serial).toNat = 1 := rfl
  exact Nat.mod_eq_of_lt (by rw [hone]; omega)

theorem State.Window.advance {s : State} {hi : Nat} {l : List Serial} (h : s.Window 0 hi l) (hhi : hi ≤ 48) :
    (advanceSerial s).Window 1 (hi + 1) l := by
  have hticks : ∀ n ∈ l, (advanceSerial s).ticksSinceD n = s.ticksSinceD n + 1 := fun n hn =>
    ticksSinceD_advanceSerial s (by have := h.high n hn; omega)
  refine ⟨fun n hn => by rw [hticks n hn]; omega, fun n hn => by rw [hticks n hn]; have := h.high n hn; omega, ?_⟩
  refine h.oldestFirst.imp_of_mem fun ha hb hab => ?_
  rw [hticks _ ha, hticks _ hb]
  omega

/-- A serial has stood at an offset beyond D when as many ticks have passed as the offset lies beyond D. -/
theorem State.ticksSinceD_eq_iff (s : State) {x : Nat} (hd : s.geometry.d ≤ x) (hx : x - s.geometry.d < 2 ^ 32) (n : Serial) :
    s.ticksSinceD n = x - s.geometry.d ↔ n = s.serialAt x := by
  have hsum : BitVec.ofNat 32 x = BitVec.ofNat 32 s.geometry.d + BitVec.ofNat 32 (x - s.geometry.d) := by
    rw [← BitVec.ofNat_add, Nat.add_sub_cancel' hd]
  have hnat : (BitVec.ofNat 32 (x - s.geometry.d)).toNat = x - s.geometry.d := by
    simpa using Nat.mod_eq_of_lt hx
  simp only [State.ticksSinceD, State.serialAt, hsum]
  rw [← hnat, ← BitVec.toNat_inj]
  generalize BitVec.ofNat 32 (x - s.geometry.d) = y
  generalize BitVec.ofNat 32 s.geometry.d = d
  bv_omega

@[simp] theorem State.ticksSinceD_at (s : State) : s.ticksSinceD (s.serialAt s.geometry.d) = 0 := by
  simp [State.ticksSinceD]

/-! ## The two window invariants by serials -/

/-- The serials a head's plan queue is for. -/
def State.planSerials (s : State) (g : HeadId) : List Serial := (s.head g).plan.map (·.serial)

/-- The serials of a bay's planned drops. -/
def State.plannedSerials (s : State) (k : BayId) : List Serial := (s.bay k).planned.map (·.serial)

theorem State.plansInWindow_iff {s : State} : s.PlansInWindow ↔
    (s.geometry.d < s.geometry.e ∧ s.geometry.e ≤ s.geometry.d + 16) ∧
    (∀ g, s.Window 0 (s.geometry.e - s.geometry.d) (s.planSerials g)) ∧ ∀ g, (s.head g).FrontCommanded := by
  refine ⟨fun h => ⟨h.geometry, fun g => ⟨fun _ _ => Nat.zero_le _, ?_, List.pairwise_map.mpr (h.oldestFirst g)⟩, h.commanded⟩,
    fun ⟨hgeo, hwin, hcom⟩ => ⟨hgeo, fun g e he => (hwin g).high _ (List.mem_map_of_mem he),
      fun g => List.pairwise_map.mp (hwin g).oldestFirst, hcom⟩⟩
  intro n hn
  obtain ⟨e, he, rfl⟩ := List.mem_map.mp hn
  exact h.ahead g e he

theorem State.plannedInWindow_iff {s : State} : s.PlannedInWindow ↔
    (∀ k, s.geometry.d < s.bayOffset k ∧ s.bayOffset k ≤ s.geometry.d + 48) ∧
    ∀ k, s.Window 0 (s.bayOffset k - s.geometry.d) (s.plannedSerials k) := by
  refine ⟨fun h => ⟨h.geometry, fun k => ⟨fun _ _ => Nat.zero_le _, ?_, List.pairwise_map.mpr (h.oldestFirst k)⟩⟩,
    fun ⟨hgeo, hwin⟩ => ⟨hgeo, fun k e he => (hwin k).high _ (List.mem_map_of_mem he),
      fun k => List.pairwise_map.mp (hwin k).oldestFirst⟩⟩
  intro n hn
  obtain ⟨e, he, rfl⟩ := List.mem_map.mp hn
  exact h.ahead k e he

/-- What a step keeps: each invariant, the windows of the planned drops only while the geometry stands or nothing is
planned. -/
structure StepKeeps (s t : State) : Prop extends Keeps s t where
  plans : s.PlansInWindow → t.PlansInWindow
  planned : s.PlannedInWindow → t.geometry = s.geometry ∨ (∀ k, (s.bay k).planned = []) → t.PlannedInWindow

theorem Shrinks.ticksSinceD {s t : State} (h : Shrinks s t) : t.ticksSinceD = s.ticksSinceD :=
  State.ticksSinceD_congr (congrArg Geometry.d h.geometry) h.serial

theorem Shrinks.bayOffset {s t : State} (h : Shrinks s t) (k : BayId) : t.bayOffset k = s.bayOffset k := by
  rw [State.bayOffset, h.geometry]; rfl

theorem KeepsAll.stepKeeps {s t : State} (h : KeepsAll s t) : StepKeeps s t where
  toKeeps := h.toKeeps
  plans hp := by
    obtain ⟨hgeo, hwin, hcom⟩ := State.plansInWindow_iff.mp hp
    refine State.plansInWindow_iff.mpr ⟨h.geometry ▸ hgeo, fun g => ?_, fun g => (h.heads g).commanded (hcom g)⟩
    rw [h.geometry]
    exact ((hwin g).sublist (h.heads g).serials).congr h.toShrinks.ticksSinceD
  planned hp _ := by
    obtain ⟨hgeo, hwin⟩ := State.plannedInWindow_iff.mp hp
    refine State.plannedInWindow_iff.mpr ⟨fun k => ?_, fun k => ?_⟩
    · rw [h.geometry, h.toShrinks.bayOffset]; exact hgeo k
    · rw [h.geometry, h.toShrinks.bayOffset]
      exact ((hwin k).sublist ((h.planned k).map _)).congr h.toShrinks.ticksSinceD

theorem StepKeeps.of_keepsAll {s t u : State} (h : KeepsAll s t) (h' : StepKeeps t u) : StepKeeps s u where
  toKeeps := h.toKeeps.trans h'.toKeeps
  plans hp := h'.plans (h.stepKeeps.plans hp)
  planned hp hgeo := h'.planned (h.stepKeeps.planned hp (.inl h.geometry)) (by
    refine hgeo.imp (fun e => e.trans h.geometry.symm) fun hnil k => ?_
    have := h.planned k
    rw [hnil k] at this
    exact List.sublist_nil.mp this)

theorem StepKeeps.keepsAll {s t u : State} (h : StepKeeps s t) (h' : KeepsAll t u) : StepKeeps s u where
  toKeeps := h.toKeeps.trans h'.toKeeps
  plans hp := h'.stepKeeps.plans (h.plans hp)
  planned hp hgeo := h'.stepKeeps.planned (h.planned hp (hgeo.imp_left fun e => h'.geometry.symm.trans e)) (.inl h'.geometry)

/-! ## The decision unit -/

/-- What the decision unit and a head that takes an entry keep. -/
theorem Keeps.of_keepsAll {s t u : State} (h : Keeps s t) (h' : KeepsAll t u) : Keeps s u := h.trans h'.toKeeps

theorem Keeps.setHead {s t : State} (h : Keeps s t) (g : HeadId) (r : Head) : Keeps s (t.setHead g r) := by
  cases g <;> exact h.trans {}

theorem Keeps.appendPlanned {s t : State} (h : Keeps s t) (k : BayId) (d : PlannedDrop) :
    Keeps s (t.updBay k fun b => { b with planned := b.planned ++ [d] }) := by
  have hstate : ∀ j, ((t.updBay k fun b => { b with planned := b.planned ++ [d] }).bay j).state = (t.bay j).state := fun j => by
    by_cases hj : j = k
    · rw [hj, State.bay_updBay]
    · rw [State.bay_updBay_ne _ hj]
  exact h.trans
    { queues := fun hq => ⟨hq.fifoOnce, fun j hj => (hstate j).trans (hq.fifo j hj), hq.labelsOnce,
        fun j hj => (hstate j).trans (hq.labels j hj), fun j hj => (hstate j).trans (hq.current j hj)⟩ }

/-- The decision unit's work on the lug at D: at most one strip is committed to one bay, and the heads stay. -/
structure Decides (n : Serial) (s t : State) : Prop where
  keeps : Keeps s t
  geometry : t.geometry = s.geometry := by rfl
  serial : t.chain.serial = s.chain.serial := by rfl
  head : ∀ g, t.head g = s.head g := by exact fun g => by cases g <;> rfl
  planned : (∀ k, (t.bay k).planned = (s.bay k).planned) ∨ ∃ j d, d.serial = n ∧
    ∀ k, (t.bay k).planned = if k = j then (s.bay k).planned ++ [d] else (s.bay k).planned

namespace Decides

variable {n : Serial} {s t : State} (h : Decides n s t)

theorem refl (n : Serial) (s : State) : Decides n s s := { keeps := Keeps.refl s, planned := .inl fun _ => rfl }

include h

/-- What keeps everything and leaves heads, bays and geometry may follow. -/
theorem andThen {u : State} (hk : KeepsAll t u) (hg : ∀ g, u.head g = t.head g := by exact fun g => by cases g <;> rfl)
    (hp : ∀ k, (u.bay k).planned = (t.bay k).planned := by exact fun _ => rfl) : Decides n s u where
  keeps := h.keeps.of_keepsAll hk
  geometry := hk.geometry.trans h.geometry
  serial := hk.serial.trans h.serial
  head g := (hg g).trans (h.head g)
  planned := h.planned.imp (fun hs k => (hp k).trans (hs k))
    fun ⟨j, d, hd, hs⟩ => ⟨j, d, hd, fun k => (hp k).trans (hs k)⟩

theorem reserve (u : Serial) (c : Nat) : Decides n s (t.reserve u c).1 := by
  obtain ⟨-, e⟩ | ⟨-, e⟩ := t.reserve_cases u c <;> rw [e]
  · exact h.andThen ((KeepsAll.refl t).planStarts u c)
  · exact h.andThen ((KeepsAll.refl t).bump _)

theorem writeDecision (tag : Nat) (d : Decision) : Decides n s (writeDecision t tag d) :=
  h.andThen (((KeepsAll.refl t).updStrip tag).bump _)

theorem firstGranted (m : Serial) (l : List BayId) : Decides n s (firstGranted m t l).1 := by
  induction l generalizing t with
  | nil => exact h
  | cons k l ih =>
    unfold Machine.firstGranted
    dsimp only
    split
    · exact h.reserve _ _
    · exact ih (h.reserve _ _)

end Decides

theorem Decides.commitStrip {n : Serial} {s t : State} (h : Decides n s t) (hn : ∀ k, (t.bay k).planned = (s.bay k).planned)
    (k : BayId) (tag band : Nat) : Decides n s (commitStrip t k n tag band) where
  keeps := (h.keeps.of_keepsAll ((KeepsAll.refl t).updBundle k _)).appendPlanned k _
  geometry := h.geometry
  serial := h.serial
  head g := (show _ = t.head g by cases g <;> rfl).trans (h.head g)
  planned := .inr ⟨k, { serial := n, tag := tag }, rfl, fun j => by
    unfold Machine.commitStrip
    by_cases hj : j = k
    · rw [if_pos hj, hj, State.bay_updBay, bay_updBundle, ← hn]
    · rw [if_neg hj, State.bay_updBay_ne _ hj, bay_updBundle_ne _ hj, hn]⟩

/-- Reservations leave the planned drops. -/
theorem planned_reserve (s : State) (u : Serial) (c : Nat) (k : BayId) :
    ((s.reserve u c).1.bay k).planned = (s.bay k).planned := by
  obtain ⟨-, e⟩ | ⟨-, e⟩ := s.reserve_cases u c <;> rw [e] <;> simp

theorem planned_firstGranted (m : Serial) (s : State) (l : List BayId) (k : BayId) :
    ((firstGranted m s l).1.bay k).planned = (s.bay k).planned := by
  induction l generalizing s with
  | nil => rfl
  | cons j l ih =>
    unfold firstGranted
    dsimp only
    split
    · exact planned_reserve s _ _ k
    · exact (ih _).trans (planned_reserve s _ _ k)

/-- The entries handed to the heads for lug n: one for each head at most. -/
def EntriesFor (n : Serial) (l : List (HeadId × PlanEntry)) : Prop := (∀ e ∈ l, e.2.serial = n) ∧ (l.map (·.1)).Nodup

theorem entriesFor_nil (n : Serial) : EntriesFor n [] := ⟨by simp, by simp⟩

theorem decideSlot_decides (s : State) (n : Serial) :
    Decides n s (decideSlot s n).1 ∧ EntriesFor n (decideSlot s n).2 := by
  have hrefl := Decides.refl n s
  have hroute : ∀ (u : Serial) (c : Nat) (tag : Nat) (q : Grading) (ch : Choice),
      Decides n s (routeStrip (s.reserve u c).1 n tag q ch) := fun u c tag q ch => by
    have hgrant := fun l => (hrefl.reserve u c).firstGranted n l
    have hplanned : ∀ l k, ((firstGranted n (s.reserve u c).1 l).1.bay k).planned = (s.bay k).planned := fun l k =>
      (planned_firstGranted n _ l k).trans (planned_reserve s u c k)
    unfold routeStrip
    dsimp only
    split
    · exact ((hgrant _).commitStrip (hplanned _) _ tag _).writeDecision _ _
    · exact (hgrant _).writeDecision _ _
  unfold decideSlot
  split
  · split
    · unfold decideStrip
      split
      · exact ⟨hrefl.writeDecision _ _, entriesFor_nil n⟩
      · unfold computeStrip
        dsimp only
        split
        · exact ⟨hrefl.writeDecision _ _, entriesFor_nil n⟩
        split
        · exact ⟨hrefl.writeDecision _ _, entriesFor_nil n⟩
        · unfold carryOut
          dsimp only
          split
          · exact ⟨hroute _ _ _ _ _, by simp [cutEntries], by simp [cutEntries]⟩
          · exact ⟨(hrefl.reserve _ _).writeDecision _ _, entriesFor_nil n⟩
    · exact ⟨hrefl, entriesFor_nil n⟩
  · refine ⟨?_, entriesFor_nil n⟩
    exact List.foldlRecOn (motive := fun u => Decides n s u) _ _ hrefl fun u hu tag _ => hu.writeDecision tag _
  · exact ⟨hrefl, entriesFor_nil n⟩
  · exact ⟨hrefl, entriesFor_nil n⟩

theorem entriesFor_parks (s : State) (n : Serial) : EntriesFor n (s.parkEntry n .headSide ++ s.parkEntry n .tailSide) := by
  unfold State.parkEntry EntriesFor
  split <;> split <;> simp

theorem decisionTick_decides (s : State) : Decides (s.serialAt s.geometry.d) s (decisionTick s).1 ∧
    EntriesFor (s.serialAt s.geometry.d) (decisionTick s).2 := by
  obtain ⟨hd, he⟩ := decideSlot_decides s (s.serialAt s.geometry.d)
  unfold decisionTick
  dsimp only
  split
  · exact ⟨hd, entriesFor_parks _ _⟩
  · exact ⟨hd, he⟩

end Sys2Proof.Machine
end

section
set_option Elab.async false
/-! PROOF. The lug tick keeps every invariant (R55, R101, R128). -/

namespace Sys2Proof.Machine

open Sys2Proof

theorem KeepsAll.planWindow {s t : State} (h : KeepsAll s t) {lo hi : Nat} {g : HeadId} (hw : s.Window lo hi (s.planSerials g)) :
    t.Window lo hi (t.planSerials g) := (hw.sublist (h.heads g).serials).congr h.toShrinks.ticksSinceD

theorem KeepsAll.plannedWindow {s t : State} (h : KeepsAll s t) {lo hi : Nat} {k : BayId}
    (hw : s.Window lo hi (s.plannedSerials k)) : t.Window lo hi (t.plannedSerials k) :=
  (hw.sublist ((h.planned k).map _)).congr h.toShrinks.ticksSinceD

theorem Shrinks.serialAt {s t : State} (h : Shrinks s t) (x : Nat) : t.serialAt x = s.serialAt x := by
  rw [State.serialAt, h.serial]; rfl

/-! ## The heads take their entries -/

theorem plan_sendFront (s : State) (g : HeadId) : ((sendFront s g).head g).plan = (s.head g).plan := by
  unfold sendFront sendStep
  split
  · split
    · rfl
    · cases g <;> rfl
  · rfl

theorem planSerials_takeEntry (s : State) (g : HeadId) (n : Serial) :
    (takeEntry s g n).planSerials g = match s.planSerials g with
      | [] => []
      | m :: l => if m = n then l else m :: l := by
  unfold takeEntry State.frontFor State.planSerials
  cases hplan : (s.head g).plan with
  | nil => simp [hplan]
  | cons e l =>
    by_cases he : e.serial = n
    · simp [he, plan_sendFront, hplan]
    · simp [he, hplan]

/-- Once the lug at E has been taken, no entry for it is left. -/
theorem takeEntry_window {s : State} {g : HeadId} {lo : Nat} (hgeo : s.geometry.d < s.geometry.e ∧ s.geometry.e ≤ s.geometry.d + 16)
    (h : s.Window lo (s.geometry.e - s.geometry.d + 1) (s.planSerials g)) :
    (takeEntry s g (s.serialAt s.geometry.e)).Window lo (s.geometry.e - s.geometry.d)
      ((takeEntry s g (s.serialAt s.geometry.e)).planSerials g) := by
  refine State.Window.congr (s := s) ?_ ((KeepsAll.refl s).takeEntry g _).toShrinks.ticksSinceD
  rw [planSerials_takeEntry]
  cases hl : s.planSerials g with
  | nil => exact .nil _ _ _
  | cons m l =>
    rw [hl] at h
    by_cases hm : m = s.serialAt s.geometry.e
    · simp only [hm, if_true]
      exact h.tail
    · simp only [hm, if_false]
      exact h.shorten fun e => hm ((s.ticksSinceD_eq_iff hgeo.1.le (by omega) m).mp e)

theorem endMatchTick_window {s : State} (hgeo : s.geometry.d < s.geometry.e ∧ s.geometry.e ≤ s.geometry.d + 16) {lo : Nat}
    (h : ∀ g, s.Window lo (s.geometry.e - s.geometry.d + 1) (s.planSerials g)) (g : HeadId) :
    (endMatchTick s).Window lo (s.geometry.e - s.geometry.d) ((endMatchTick s).planSerials g) := by
  obtain ⟨u, hu, he⟩ : ∃ u, KeepsAll s u ∧ endMatchTick s =
      takeEntry (takeEntry u .headSide (s.serialAt s.geometry.e)) .tailSide (s.serialAt s.geometry.e) := by
    refine ⟨_, ?_, rfl⟩
    have htrim : KeepsAll s ((s.slot (s.serialAt s.geometry.e)).named.foldl trimStrip s) :=
      List.foldlRecOn (motive := fun u => KeepsAll s u) _ _ (.refl s) fun u hu tag _ => hu.trimStrip tag
    unfold endMatchOutcome
    split
    · exact htrim.makeCut _
    split
    · exact htrim.latePosition _
    · exact htrim
  have hat : ∀ {v : State}, KeepsAll s v → s.serialAt s.geometry.e = v.serialAt v.geometry.e := fun hv => by
    rw [hv.toShrinks.serialAt, hv.geometry]
  have htake : KeepsAll u (takeEntry u .headSide (u.serialAt u.geometry.e)) := (KeepsAll.refl u).takeEntry _ _
  rw [he, hat hu, ← hu.geometry]
  rw [← hu.geometry] at hgeo h
  have hwin := fun g => hu.planWindow (h g)
  cases g with
  | headSide => exact ((KeepsAll.refl _).takeEntry _ _).planWindow (takeEntry_window hgeo (hwin .headSide))
  | tailSide =>
    have hother := htake.planWindow (hwin .tailSide)
    have hat' : u.serialAt u.geometry.e = (takeEntry u .headSide (u.serialAt u.geometry.e)).serialAt
        (takeEntry u .headSide (u.serialAt u.geometry.e)).geometry.e := by
      rw [htake.toShrinks.serialAt, htake.geometry]
    generalize takeEntry u .headSide (u.serialAt u.geometry.e) = v at htake hother hat' ⊢
    rw [hat', ← htake.geometry]
    rw [← htake.geometry] at hgeo hother
    exact takeEntry_window hgeo hother

/-- A head that has been sent its front entry is commanded to it. -/
theorem frontCommanded_sendFront (s : State) (g : HeadId) : ((sendFront s g).head g).FrontCommanded := by
  intro hready y hy
  rw [plan_sendFront] at hy
  unfold sendFront at hready ⊢
  split
  next e l hst hplan =>
    rw [hplan] at hy
    rw [← Option.mem_some_iff.mp hy]
    split
    next hstep => exact hstep
    · cases g <;> rfl
  next hnone =>
    split at hready
    next e l hst hplan => exact (hnone e l hst hplan).elim
    · cases hplan : (s.head g).plan with
      | nil => simp [hplan] at hy
      | cons e l => exact (hnone e l hready hplan).elim

theorem head_sendFront_ne (s : State) {g j : HeadId} (hj : j ≠ g) : (sendFront s g).head j = s.head j := by
  unfold sendFront
  split
  · split
    · rfl
    · simp [sendStep, State.head_updHead_ne _ hj]
  · rfl

/-- A head takes an entry: it becomes the last of its queue, and the front one is commanded. -/
theorem head_appendEntry (s : State) (g : HeadId) (e : PlanEntry) :
    ((appendEntry s g e).head g).plan = (s.head g).plan ++ [e] ∧
    ((s.head g).FrontCommanded → ((appendEntry s g e).head g).FrontCommanded) ∧
    ∀ j, j ≠ g → (appendEntry s g e).head j = s.head j := by
  unfold appendEntry
  dsimp only
  split
  · exact ⟨by simp [plan_sendFront], fun _ => frontCommanded_sendFront _ _, fun j hj => by
      rw [head_sendFront_ne _ hj, State.head_updHead_ne _ hj]⟩
  next hne =>
    refine ⟨by simp, fun hc hready y hy => ?_, fun j hj => State.head_updHead_ne _ hj _⟩
    rw [State.head_updHead] at hready hy ⊢
    cases hplan : (s.head g).plan with
    | nil => simp [hplan] at hne
    | cons x l => exact hc hready y (by simpa [hplan] using hy)

/-- A head that takes an entry leaves everything but itself, its strobe and the pulses. -/
theorem appendEntry_frame (s : State) (g : HeadId) (e : PlanEntry) : Keeps s (appendEntry s g e) ∧
    (appendEntry s g e).geometry = s.geometry ∧ (appendEntry s g e).chain = s.chain ∧
    (appendEntry s g e).bays = s.bays := by
  have hset : ∀ r, Keeps s (s.setHead g r) := fun r => (Keeps.refl s).setHead g r
  unfold appendEntry sendFront sendStep State.updHead
  dsimp only
  split
  · split
    · split
      · exact ⟨hset _, by simp⟩
      · refine ⟨Keeps.of_keepsAll ((hset _).setHead g _) ((KeepsAll.refl _).pulse (by simp)), by simp⟩
    · exact ⟨hset _, by simp⟩
  · exact ⟨hset _, by simp⟩

/-- The heads take the entries handed to them for the lug at D. -/
theorem takeEntries_window {n : Serial} {hi : Nat} (hhi : 0 < hi) {l : List (HeadId × PlanEntry)} (hl : EntriesFor n l) {s : State}
    (hn : s.ticksSinceD n = 0) (hw : ∀ g, s.Window 0 hi (s.planSerials g))
    (hw1 : ∀ g ∈ l.map (·.1), s.Window 1 hi (s.planSerials g)) (hc : ∀ g, (s.head g).FrontCommanded) (g : HeadId) :
    (takeEntries s l).Window 0 hi ((takeEntries s l).planSerials g) ∧ ((takeEntries s l).head g).FrontCommanded := by
  induction l generalizing s with
  | nil => exact ⟨hw g, hc g⟩
  | cons x l ih =>
    obtain ⟨hserial, hnodup⟩ := hl
    obtain ⟨hx, hnodup⟩ : x.1 ∉ l.map (·.1) ∧ (l.map (·.1)).Nodup := List.nodup_cons.mp hnodup
    obtain ⟨hplan, hfront, hother⟩ := head_appendEntry s x.1 x.2
    obtain ⟨-, hgeo, hchain, -⟩ := appendEntry_frame s x.1 x.2
    have hticks : (appendEntry s x.1 x.2).ticksSinceD = s.ticksSinceD :=
      State.ticksSinceD_congr (congrArg Geometry.d hgeo) (congrArg Chain.serial hchain)
    have hsame : ∀ j, j ≠ x.1 → (appendEntry s x.1 x.2).planSerials j = s.planSerials j := fun j hj => by
      rw [State.planSerials, hother j hj]; rfl
    refine ih ⟨fun e he => hserial e (List.mem_cons_of_mem _ he), hnodup⟩ (by rw [hticks]; exact hn) (fun j => ?_)
      (fun j hj => ?_) fun j => ?_
    · by_cases hj : j = x.1
      · rw [hj, State.planSerials, hplan, List.map_append]
        refine State.Window.congr (s := s) ?_ hticks
        have hx1 := hserial x List.mem_cons_self
        refine State.Window.append (hw1 x.1 (by simp)) ?_ hhi
        exact (congrArg s.ticksSinceD hx1).trans hn
      · rw [hsame j hj]; exact (hw j).congr hticks
    · have hne : j ≠ x.1 := fun e => hx (e ▸ hj)
      rw [hsame j hne]
      exact (hw1 j (List.mem_cons_of_mem _ hj)).congr hticks
    · by_cases hj : j = x.1
      · rw [hj]; exact hfront (hc _)
      · rw [hother j hj]; exact hc j

theorem takeEntries_frame (s : State) (l : List (HeadId × PlanEntry)) : Keeps s (takeEntries s l) ∧
    (takeEntries s l).geometry = s.geometry ∧ (takeEntries s l).chain = s.chain ∧ (takeEntries s l).bays = s.bays := by
  induction l generalizing s with
  | nil => exact ⟨.refl s, rfl, rfl, rfl⟩
  | cons x l ih =>
    obtain ⟨hk, hg, hc, hb⟩ := appendEntry_frame s x.1 x.2
    obtain ⟨hk', hg', hc', hb'⟩ := ih (appendEntry s x.1 x.2)
    exact ⟨hk.trans hk', hg'.trans hg, hc'.trans hc, hb'.trans hb⟩

/-! ## The decision unit and the end-match station -/

theorem Decides.ticksSinceD {n : Serial} {s t : State} (h : Decides n s t) : t.ticksSinceD = s.ticksSinceD :=
  State.ticksSinceD_congr (congrArg Geometry.d h.geometry) h.serial

theorem Decides.planSerials {n : Serial} {s t : State} (h : Decides n s t) (g : HeadId) : t.planSerials g = s.planSerials g := by
  rw [State.planSerials, h.head g]; rfl

/-- A planned drop for the lug at D joins those behind it. -/
theorem Decides.plannedWindow {n : Serial} {s t : State} (h : Decides n s t) (hn : s.ticksSinceD n = 0) {hi : Nat} (hhi : 0 < hi)
    {k : BayId} (hw : s.Window 1 hi (s.plannedSerials k)) : t.Window 0 hi (t.plannedSerials k) := by
  refine State.Window.congr ?_ h.ticksSinceD
  obtain hs | ⟨j, d, hd, hs⟩ := h.planned
  · rw [State.plannedSerials, hs]; exact hw.weaken
  · rw [State.plannedSerials, hs]
    split
    · rw [List.map_append, List.map_singleton, hd]; exact hw.append hn hhi
    · exact hw.weaken

/-- What the two stations keep at a tick, in either order. -/
theorem decideAndMatch_frame (first : Bool) (s : State) : Keeps s (decideAndMatch first s) ∧
    (decideAndMatch first s).geometry = s.geometry ∧ (decideAndMatch first s).chain.serial = s.chain.serial := by
  cases first
  · have hm : KeepsAll s (endMatchTick s) := (KeepsAll.refl s).endMatchTick
    have hd := (decisionTick_decides (endMatchTick s)).1
    obtain ⟨hk, hg, hc, -⟩ := takeEntries_frame (decisionTick (endMatchTick s)).1 (decisionTick (endMatchTick s)).2
    exact ⟨(hm.toKeeps.trans hd.keeps).trans hk, hg.trans (hd.geometry.trans hm.geometry),
      (congrArg Chain.serial hc).trans (hd.serial.trans hm.serial)⟩
  · have hd := (decisionTick_decides s).1
    have hm : KeepsAll (decisionTick s).1 (endMatchTick (decisionTick s).1) := (KeepsAll.refl _).endMatchTick
    obtain ⟨hk, hg, hc, -⟩ := takeEntries_frame (endMatchTick (decisionTick s).1) (decisionTick s).2
    exact ⟨(hd.keeps.trans hm.toKeeps).trans hk, hg.trans (hm.geometry.trans hd.geometry),
      (congrArg Chain.serial hc).trans (hm.serial.trans hd.serial)⟩

theorem decideAndMatch_plans (first : Bool) {s : State}
    (hgeo : s.geometry.d < s.geometry.e ∧ s.geometry.e ≤ s.geometry.d + 16)
    (hw : ∀ g, s.Window 1 (s.geometry.e - s.geometry.d + 1) (s.planSerials g)) (hc : ∀ g, (s.head g).FrontCommanded)
    (g : HeadId) : (decideAndMatch first s).Window 0 (s.geometry.e - s.geometry.d) ((decideAndMatch first s).planSerials g) ∧
      ((decideAndMatch first s).head g).FrontCommanded := by
  have hpos : 0 < s.geometry.e - s.geometry.d := by omega
  cases first
  · have hm : KeepsAll s (endMatchTick s) := (KeepsAll.refl s).endMatchTick
    obtain ⟨hd, hl⟩ := decisionTick_decides (endMatchTick s)
    have hwin : ∀ g, (decisionTick (endMatchTick s)).1.Window 1 (s.geometry.e - s.geometry.d)
        ((decisionTick (endMatchTick s)).1.planSerials g) := fun g => by
      rw [hd.planSerials]; exact (endMatchTick_window hgeo hw g).congr hd.ticksSinceD
    refine takeEntries_window hpos hl ?_ (fun g => (hwin g).weaken) (fun g _ => hwin g) (fun g => ?_) g
    · rw [hd.ticksSinceD]; exact State.ticksSinceD_at _
    · rw [hd.head]; exact (hm.heads g).commanded (hc g)
  · obtain ⟨hd, hl⟩ := decisionTick_decides s
    have hm : KeepsAll (decisionTick s).1 (endMatchTick (decisionTick s).1) := (KeepsAll.refl _).endMatchTick
    have hwin : ∀ g, (endMatchTick (decisionTick s).1).Window 1 (s.geometry.e - s.geometry.d)
        ((endMatchTick (decisionTick s).1).planSerials g) := fun g => by
      have := endMatchTick_window (s := (decisionTick s).1) (lo := 1) (by rw [hd.geometry]; exact hgeo) (fun g => by
        rw [hd.geometry, hd.planSerials]; exact (hw g).congr hd.ticksSinceD) g
      rwa [hd.geometry] at this
    refine takeEntries_window hpos hl ?_ (fun g => (hwin g).weaken) (fun g _ => hwin g) (fun g => ?_) g
    · rw [hm.toShrinks.ticksSinceD, hd.ticksSinceD]; exact State.ticksSinceD_at _
    · exact (hm.heads g).commanded (by rw [hd.head]; exact hc g)

theorem decideAndMatch_planned (first : Bool) {s : State} {hi : Nat} (hhi : 0 < hi) {k : BayId}
    (hw : s.Window 1 hi (s.plannedSerials k)) : (decideAndMatch first s).Window 0 hi ((decideAndMatch first s).plannedSerials k) := by
  have hfinish : ∀ (t : State) (l : List (HeadId × PlanEntry)), t.Window 0 hi (t.plannedSerials k) →
      (takeEntries t l).Window 0 hi ((takeEntries t l).plannedSerials k) := fun t l ht => by
    obtain ⟨-, hg, hc, hb⟩ := takeEntries_frame t l
    rw [State.plannedSerials, State.bay, hb]
    exact ht.congr (State.ticksSinceD_congr (congrArg Geometry.d hg) (congrArg Chain.serial hc))
  cases first
  · have hm : KeepsAll s (endMatchTick s) := (KeepsAll.refl s).endMatchTick
    exact hfinish _ _ ((decisionTick_decides _).1.plannedWindow (State.ticksSinceD_at _) hhi (hm.plannedWindow hw))
  · have hd := (decisionTick_decides s).1
    exact hfinish _ _ ((KeepsAll.refl _).endMatchTick.plannedWindow (hd.plannedWindow (State.ticksSinceD_at _) hhi hw))

/-! ## The bays -/

/-- A bay that has taken the tick holds no planned drop for the lug that stands at it. -/
theorem bayTick_window {s : State} {k : BayId} {lo : Nat} (hgeo : s.geometry.d < s.bayOffset k ∧ s.bayOffset k ≤ s.geometry.d + 48)
    (h : s.Window lo (s.bayOffset k - s.geometry.d + 1) (s.plannedSerials k)) :
    (bayTick s k).Window lo (s.bayOffset k - s.geometry.d) ((bayTick s k).plannedSerials k) := by
  have hres : KeepsAll s (resolveDrop s k false) := (KeepsAll.refl s).resolveDrop k false
  rw [← hres.geometry, ← hres.toShrinks.bayOffset] at hgeo h ⊢
  replace h := hres.plannedWindow h
  unfold bayTick
  dsimp only
  generalize resolveDrop s k false = t at hgeo h ⊢
  unfold State.plannedSerials at h
  split
  next hp =>
    rw [State.plannedSerials, hp]
    exact .nil _ _ _
  next d l hp =>
    rw [hp, List.map_cons] at h
    split
    next hd =>
      have hplanned : (makeDrop t k d).plannedSerials k = l.map (·.serial) := by
        simp [State.plannedSerials, makeDrop, hp]
      rw [hplanned]
      exact h.tail.congr rfl
    next hd =>
      rw [State.plannedSerials, hp, List.map_cons]
      exact h.shorten fun e => hd ((t.ticksSinceD_eq_iff hgeo.1.le (by omega) d.serial).mp e)

theorem bayTicks_window {s : State} (hgeo : ∀ k, s.geometry.d < s.bayOffset k ∧ s.bayOffset k ≤ s.geometry.d + 48)
    (l : List BayId) (h : ∀ k, s.Window 0 (s.bayOffset k - s.geometry.d + 1) (s.plannedSerials k))
    (hrest : ∀ k, k ∉ l → s.Window 0 (s.bayOffset k - s.geometry.d) (s.plannedSerials k)) (k : BayId) :
    (l.foldl bayTick s).Window 0 (s.bayOffset k - s.geometry.d) ((l.foldl bayTick s).plannedSerials k) := by
  induction l generalizing s with
  | nil => exact hrest k (by simp)
  | cons j l ih =>
    have hj : KeepsAll s (bayTick s j) := (KeepsAll.refl s).bayTick j
    have hoff : ∀ k, (bayTick s j).bayOffset k - (bayTick s j).geometry.d = s.bayOffset k - s.geometry.d := fun k => by
      rw [hj.toShrinks.bayOffset, hj.geometry]
    rw [List.foldl_cons, ← hoff k]
    refine ih (fun k => ?_) (fun k => ?_) fun k hk => ?_
    · rw [hj.toShrinks.bayOffset, hj.geometry]; exact hgeo k
    · rw [hoff]; exact hj.plannedWindow (h k)
    · rw [hoff]
      by_cases hkj : k = j
      · rw [hkj]; exact bayTick_window (hgeo j) (h j)
      · exact hj.plannedWindow (hrest k (by simp [hkj, hk]))

/-! ## The tick as a whole -/

/-- The tick up to the stations: the serial has advanced. -/
def beforeStations (homed : List HeadId) (s : State) : State :=
  verifyTick (loadLug (homingsAtTick homed (advanceSerial s).calendarAdvance))

/-- The state the two stations take a tick from. -/
theorem stationsTick_eq (s : State) : ∃ first u, KeepsAll s u ∧ stationsTick s = decideAndMatch first u := by
  unfold stationsTick
  split
  · exact ⟨_, _, (KeepsAll.refl s).withFreeCount _, rfl⟩
  · exact ⟨_, _, .refl s, rfl⟩

theorem beforeStations_keeps (homed : List HeadId) (s : State) : KeepsAll (advanceSerial s) (beforeStations homed s) :=
  ((((KeepsAll.refl _).calendarAdvance).homingsAtTick homed).loadLug).verifyTick

theorem lugTick_eq (homed : List HeadId) (s : State) : ∃ first u, KeepsAll (advanceSerial s) u ∧
    lugTick homed s = chainEnd (allBays.foldl bayTick (decideAndMatch first u)) := by
  obtain ⟨first, u, hu, e⟩ := stationsTick_eq (beforeStations homed s)
  refine ⟨first, u, (beforeStations_keeps homed s).trans hu, ?_⟩
  rw [← e]; rfl

theorem KeepsAll.bayTicks {s t : State} (h : KeepsAll s t) (l : List BayId) : KeepsAll s (l.foldl Machine.bayTick t) := by
  induction l generalizing t with
  | nil => exact h
  | cons k l ih => exact ih (h.bayTick k)

theorem lugTick_stepKeeps (homed : List HeadId) (s : State) : StepKeeps s (lugTick homed s) := by
  obtain ⟨first, u, hu, e⟩ := lugTick_eq homed s
  obtain ⟨hk, hg, hs⟩ := decideAndMatch_frame first u
  have hbays : KeepsAll (decideAndMatch first u) (allBays.foldl bayTick (decideAndMatch first u)) :=
    (KeepsAll.refl _).bayTicks allBays
  have hend := hbays.chainEnd
  have hadvance : Keeps s (advanceSerial s) := {}
  have hgeo : u.geometry = s.geometry := hu.geometry
  rw [e]
  refine ⟨((hadvance.trans hu.toKeeps).trans hk).trans hend.toKeeps, fun hp => ?_, fun hp _ => ?_⟩
  · obtain ⟨hge, hwin, hcom⟩ := State.plansInWindow_iff.mp hp
    have hwin' : ∀ g, u.Window 1 (u.geometry.e - u.geometry.d + 1) (u.planSerials g) := fun g => by
      rw [hgeo]
      exact hu.planWindow (s := advanceSerial s) ((hwin g).advance (by omega))
    have hplans := decideAndMatch_plans first (hgeo ▸ hge) hwin' fun g => (hu.heads g).commanded (hcom g)
    refine State.plansInWindow_iff.mpr ⟨?_, fun g => ?_, fun g => ?_⟩
    · rw [hend.geometry, hg, hgeo]; exact hge
    · rw [hend.geometry, hg]
      exact hend.planWindow (hplans g).1
    · exact (hend.heads g).commanded (hplans g).2
  · obtain ⟨hge, hwin⟩ := State.plannedInWindow_iff.mp hp
    have hoff : ∀ k, (decideAndMatch first u).bayOffset k = s.bayOffset k := fun k => by
      simp only [State.bayOffset, hg, hgeo]
    have hge' : ∀ k, (decideAndMatch first u).geometry.d < (decideAndMatch first u).bayOffset k ∧
        (decideAndMatch first u).bayOffset k ≤ (decideAndMatch first u).geometry.d + 48 := fun k => by
      rw [hoff, hg, hgeo]; exact hge k
    have hwin' : ∀ k, (decideAndMatch first u).Window 0
        ((decideAndMatch first u).bayOffset k - (decideAndMatch first u).geometry.d + 1)
        ((decideAndMatch first u).plannedSerials k) := fun k => by
      rw [hoff, hg, hgeo]
      have := hge k
      exact decideAndMatch_planned first (Nat.succ_pos _)
        (hu.plannedWindow (s := advanceSerial s) ((hwin k).advance (by omega)))
    refine State.plannedInWindow_iff.mpr ⟨fun k => ?_, fun k => ?_⟩
    · rw [hend.geometry, hend.toShrinks.bayOffset]; exact hge' k
    · rw [hend.geometry, hend.toShrinks.bayOffset]
      have hticked := bayTicks_window hge' allBays hwin' (fun k hk => absurd (mem_allBays k) hk) k
      have hlast : KeepsAll (allBays.foldl bayTick (decideAndMatch first u))
          (chainEnd (allBays.foldl bayTick (decideAndMatch first u))) := (KeepsAll.refl _).chainEnd
      exact hlast.plannedWindow hticked

end Sys2Proof.Machine
end

section
/-! PROOF. Every step keeps every invariant, and every command answers a next state (O2, O57 to O60). -/

namespace Sys2Proof.Machine

open Sys2Proof

/-! ## SET GEOMETRY (R197) -/

theorem Geometry.offsets_of_inBounds {g : Geometry} (h : g.inBounds = true) :
    (g.d < g.e ∧ g.e ≤ g.d + 16) ∧ ∀ k : BayId, g.d < g.bays[k] ∧ g.bays[k] ≤ g.d + 48 := by
  simp only [Geometry.inBounds, Bool.and_eq_true, decide_eq_true_eq, List.all_eq_true] at h
  obtain ⟨⟨⟨⟨⟨-, hde⟩, he⟩, hbays⟩, -⟩, -⟩ := h
  refine ⟨⟨hde, he⟩, fun k => ?_⟩
  have hk := hbays g.bays[k] (by simp)
  omega

/-- A reset head has no entry. -/
theorem planSerials_resetHead (s : State) (g : HeadId) : (resetHead s g).planSerials g = [] := by
  unfold resetHead State.planSerials homeHead sendStep
  split <;> simp

/-- An accepted SET GEOMETRY resets both heads in the new geometry, and plans nothing. -/
theorem acceptGeometry_keeps (g : Geometry) (s : State) : ∃ v, KeepsAll { s with geometry := g } v ∧
    KeepsAll (resetHead (resetHead v .headSide) .tailSide) (acceptGeometry g s) := by
  refine ⟨_, (KeepsAll.refl _).updLink (f := fun l =>
    { l with line := if l.line = .unconfigured then .stopped else l.line }), ?_⟩
  unfold acceptGeometry
  exact ((KeepsAll.refl _).clearPlanned.updChain (f := fun c => { c with slots := Vector.replicate 64 .clear }) rfl
    fun hl => hl).setPassage _

/-- An accepted SET GEOMETRY empties both plan queues. -/
theorem planSerials_acceptGeometry (g : Geometry) (s : State) (h : HeadId) : (acceptGeometry g s).planSerials h = [] := by
  obtain ⟨v, -, hv⟩ := acceptGeometry_keeps g s
  refine List.sublist_nil.mp (List.Sublist.trans (hv.heads h).serials ?_)
  cases h with
  | tailSide => exact planSerials_resetHead (resetHead v .headSide) .tailSide ▸ List.Sublist.refl _
  | headSide =>
    have hsub := (((KeepsAll.refl (resetHead v .headSide)).resetHead .tailSide).heads .headSide).serials
    exact hsub.trans (planSerials_resetHead v .headSide ▸ List.Sublist.refl _)

/-- An accepted SET GEOMETRY: the windows are those of the new geometry. -/
theorem acceptGeometry_stepKeeps {g : Geometry} (hg : g.inBounds = true) (s : State) : StepKeeps s (acceptGeometry g s) := by
  obtain ⟨hde, hbays⟩ := Geometry.offsets_of_inBounds hg
  obtain ⟨v, hv, hrest⟩ := acceptGeometry_keeps g s
  have hall : KeepsAll { s with geometry := g } (acceptGeometry g s) := ((hv.resetHead _).resetHead _).trans hrest
  have hplans := planSerials_acceptGeometry g s
  have hkeeps : Keeps s { s with geometry := g } := {}
  refine ⟨hkeeps.trans hall.toKeeps, fun hp => ?_, fun hp hgeo => ?_⟩
  · refine State.plansInWindow_iff.mpr ⟨?_, fun h => ?_, fun h _ e he => ?_⟩
    · rw [hall.geometry]; exact hde
    · rw [hplans]; exact .nil _ _ _
    · rw [show ((acceptGeometry g s).head h).plan = [] from List.map_eq_nil_iff.mp (hplans h)] at he
      cases he
  · refine State.plannedInWindow_iff.mpr ⟨fun k => ?_, fun k => ?_⟩
    · rw [hall.geometry, hall.toShrinks.bayOffset]; exact hbays k
    · obtain hsame | hnone := hgeo
      · rw [hall.geometry] at hsame
        have hs : ({ s with geometry := g } : State) = s := by rw [show g = s.geometry from hsame]
        rw [hs] at hall
        exact (State.plannedInWindow_iff.mp (hall.stepKeeps.planned hp (.inl hall.geometry))).2 k
      · have hsub := hall.planned k
        rw [show ({ s with geometry := g } : State).bay k = s.bay k from rfl, hnone k] at hsub
        rw [State.plannedSerials, List.sublist_nil.mp hsub]
        exact .nil _ _ _

theorem setGeometry_stepKeeps (p : List Byte) (s : State) :
    StepKeeps s (request 0x01#8 (· = 18) setGeometry p s) := by
  have hs := KeepsAll.refl s
  obtain e | e | ⟨st, e⟩ | ⟨v, pl, hv, e⟩ := request_cases 0x01#8 (· = 18) setGeometry p s <;> rw [e]
  · exact hs.stepKeeps
  · exact hs.linkDiscard.stepKeeps
  · exact (hs.heard.answer _ _ _).stepKeeps
  · unfold setGeometry at hv
    dsimp only at hv
    split at hv
    · cases hv
    next hbounds =>
      split at hv
      · cases hv
      split at hv
      · cases hv
      · obtain ⟨rfl, rfl⟩ : acceptGeometry (geometryOf p) (heard s) = v ∧ [] = pl := by simpa [taken] using hv
        exact ((acceptGeometry_stepKeeps (by simpa using hbounds) _).keepsAll ((KeepsAll.refl _).answer _ _ _)).of_keepsAll
          hs.heard

/-! ## The state after power-on, and leaving reset -/

/-- Every invariant of the machine. -/
structure State.Invariants (s : State) : Prop where
  counters : s.CountersBounded
  capacity : s.WithinCapacity
  tags : s.TagsUnique
  books : s.BooksBalance
  plunges : s.PlungesTogether
  queues : s.BayQueuesSound
  plans : s.PlansInWindow
  planned : s.PlannedInWindow

theorem State.Invariants.keepsAll {s t : State} (h : s.Invariants) (h' : KeepsAll s t) : t.Invariants where
  counters := h'.counters h.counters
  capacity := h'.capacity h.capacity
  tags := h'.tags h.tags
  books := h'.books h.books
  plunges := h'.plunges h.plunges
  queues := h'.queues h.queues
  plans := h'.stepKeeps.plans h.plans
  planned := h'.stepKeeps.planned h.planned (.inl h'.geometry)

/-- A state that meets every invariant may follow any other. -/
theorem State.Invariants.stepKeeps {t : State} (h : t.Invariants) (s : State) : StepKeeps s t :=
  { counters := fun _ => h.counters, capacity := fun _ => h.capacity, tags := fun _ => h.tags, books := fun _ => h.books
    plunges := fun _ => h.plunges, queues := fun _ => h.queues, plans := fun _ => h.plans, planned := fun _ _ => h.planned }

theorem State.plan_reset (h : HeadId) : (State.reset.head h).plan = [] := by cases h <;> rfl

theorem State.bay_reset (k : BayId) : State.reset.bay k = .start := by simp [State.bay, State.reset]

/-- The state right after power-on meets every invariant. -/
theorem State.reset_invariants : State.reset.Invariants where
  counters c := by simp [State.count, State.reset]
  capacity := by constructor <;> decide
  tags := ⟨by decide, by decide, by decide, by decide⟩
  books := ⟨by decide, by simp [State.reset, OrderUnit.start], by simp [State.reset, OrderUnit.start], by decide,
    by simp [State.reset, OrderUnit.start], by simp [State.reset, OrderUnit.start, Interpreter.start]⟩
  plunges := by simp [State.PlungesTogether, State.reset]
  queues := ⟨by decide, by simp [State.reset], by decide, by simp [State.reset], by simp [State.reset]⟩
  plans := ⟨by decide, by simp [State.plan_reset], by simp [State.plan_reset], by simp [State.plan_reset]⟩
  planned := ⟨by decide, fun k e he => by simp [State.bay_reset, Bay.start] at he, fun k => by simp [State.bay_reset, Bay.start]⟩

theorem keepOutside_keepsAll (s r : State) : KeepsAll r (keepOutside s r) := {}

theorem KeepsAll.faultAtReset {s t : State} (h : KeepsAll s t) (g : HeadId) : KeepsAll s (faultAtReset t g) := by
  unfold Machine.faultAtReset
  split
  · exact h.faultHead g
  · exact h

theorem KeepsAll.bayFaultAtReset {s t : State} (h : KeepsAll s t) (k : BayId) : KeepsAll s (bayFaultAtReset t k) := by
  unfold Machine.bayFaultAtReset
  split
  · exact h.bayFaultActive k
  · exact h

theorem leaveReset_invariants (cause : ResetCause) (s : State) : (leaveReset cause s).Invariants := by
  have hbays : ∀ (l : List BayId) (t : State), KeepsAll State.reset t → KeepsAll State.reset (l.foldl bayFaultAtReset t) :=
    fun l t ht => List.foldlRecOn (motive := fun u => KeepsAll State.reset u) l bayFaultAtReset ht
      fun u hu k _ => hu.bayFaultAtReset k
  refine State.reset_invariants.keepsAll ?_
  unfold leaveReset
  exact hbays _ _ ((((keepOutside_keepsAll s State.reset).withCause cause).faultAtReset .headSide).faultAtReset .tailSide)

theorem powerOn_invariants (s : State) : (powerOn s).Invariants := by
  unfold powerOn
  split
  · exact State.reset_invariants.keepsAll ((keepOutside_keepsAll s State.reset).trans
      { plunges := fun _ => by simp [State.PlungesTogether] })
  · exact leaveReset_invariants _ s

/-! ## The watchdog and the millisecond -/

/-- Records of the line link change, LINK_HOLD among them. -/
theorem StepKeeps.updLink (s : State) (f : Link → Link) : StepKeeps s (s.updLink f) :=
  { counters := fun h => h, capacity := fun h => ⟨h.strips, h.buffer, h.load, h.orders, h.calls, h.repeats, h.queue, h.labels⟩
    queues := fun h => ⟨h.fifoOnce, h.fifo, h.labelsOnce, h.labels, h.current⟩
    tags := fun h => ⟨h.tags, h.strips, h.counterLow, h.counterHigh⟩
    books := fun h => ⟨h.ids, h.queued, h.balance, h.runOnce, h.loaded, h.held⟩, plunges := fun h => h
    plans := fun h => ⟨h.geometry, h.ahead, h.oldestFirst, h.commanded⟩
    planned := fun h _ => ⟨h.geometry, h.ahead, h.oldestFirst⟩ }

theorem watchdogExpire_stepKeeps (s : State) : StepKeeps s (watchdogExpire s) := by
  have hstop : KeepsAll s (s.updLink fun l => { l with watchdog := none }) := (KeepsAll.refl s).updLink
  unfold watchdogExpire
  split
  · exact (KeepsAll.refl s).stepKeeps
  · dsimp only
    split
    · exact hstop.stepKeeps
    · exact ((StepKeeps.updLink _ _).keepsAll (((KeepsAll.refl _).raise _).bump _).pauseChanged).of_keepsAll hstop

/-- A timer that has run out expires. -/
theorem KeepsAll.ifRunOut {s t : State} (h : KeepsAll s t) (timer : State → Option Nat) {f : State → State}
    (hf : KeepsAll t (f t)) : KeepsAll s (if runOut (timer t) then f t else t) := by
  split
  · exact h.trans hf
  · exact h

theorem millisecond_stepKeeps (s : State) : StepKeeps s (millisecond s) := by
  have hlink : ∀ t : State, KeepsAll t (if runOut t.link.frameTimer then linkDeadline t else t) := fun t =>
    (KeepsAll.refl t).ifRunOut (·.link.frameTimer) (KeepsAll.refl t).linkDeadline
  have hdog : ∀ t : State, StepKeeps t (if runOut t.link.watchdog then watchdogExpire t else t) := fun t => by
    split
    · exact watchdogExpire_stepKeeps t
    · exact (KeepsAll.refl t).stepKeeps
  have hrest : ∀ t : State, KeepsAll t (let u := if runOut t.matcher.frameTimer then stationTimeout t else t
      let v := if runOut u.strapper.timer then strapExpire u else u
      inFreeOrder v.settled (fun k s => settleExpire s k) v) := fun t =>
    (((KeepsAll.refl t).ifRunOut (·.matcher.frameTimer) (KeepsAll.refl t).stationTimeout).ifRunOut (·.strapper.timer)
      (KeepsAll.refl _).strapExpire).inFreeOrder _ fun k _ hu => hu.settleExpire k
  exact ((hdog _).keepsAll (hrest _)).of_keepsAll ((KeepsAll.refl s).countTimers.trans (hlink _))

/-! ## Every command -/

theorem KeepsAll.clearPulses (s : State) : KeepsAll s s.clearPulses :=
  { plunges := fun _ => by simp [State.PlungesTogether] }

/-- A command has an answer, and the answer keeps the invariants. -/
def Completes (s : State) (o : Host.Outcome State Fault Refusal) : Prop := ∃ t, o = .next t ∧ StepKeeps s.clearPulses t

theorem completes_event {s : State} {f : State → State} (hf : StepKeeps s.clearPulses (f s.clearPulses)) :
    Completes s (takeEvent f s) := by
  refine ⟨_, rfl, ?_⟩
  split
  · exact (KeepsAll.refl _).stepKeeps
  · exact hf

theorem completes_takeEvent {s : State} {f : State → State} (hf : ∀ u, KeepsAll u (f u)) : Completes s (takeEvent f s) :=
  completes_event (hf _).stepKeeps

theorem completes_takeEdge {s : State} (level : Inputs → Inputs) (f : State → State) (hf : ∀ u, KeepsAll u (f u)) :
    Completes s (takeEdge level f s) := by
  have hlevel : KeepsAll s.clearPulses ({ s with inputs := level s.inputs } : State).clearPulses := {}
  refine ⟨_, rfl, KeepsAll.stepKeeps ?_⟩
  split
  · exact hlevel
  · exact hlevel.trans (hf _)

theorem completes_wordRow {s : State} (codes : Nat → Bool) {effect : ProgramWord → State → State}
    (he : ∀ w u, KeepsAll u (effect w u)) : Completes s (takeEvent (wordRow codes effect) s) :=
  completes_takeEvent fun u => (KeepsAll.refl u).wordRow codes fun w => he w u

theorem KeepsAll.ifActive {s t : State} (h : KeepsAll s t) (v : Bool) {f : State → State} (hf : KeepsAll s t → KeepsAll s (f t)) :
    KeepsAll s (if v then f t else t) := by
  cases v
  · exact h
  · exact hf h

/-- A command that hears a request and hands it to a block, whose reply keeps the invariants. -/
def HearsRequest (i : Instr) (code : Byte) (p : List Byte) : Prop :=
  ∃ ok f, (∀ s, exec i s = takeEvent (request code ok f p) s) ∧ ∀ u, ReplyKeeps u (f p u)

theorem requestOf {i : Instr} {code : Byte} {p : List Byte} {ok : Nat → Bool} {f : List Byte → State → Reply}
    (hf : ∀ u, ReplyKeeps u (f p u)) (he : ∀ s, exec i s = takeEvent (request code ok f p) s := by exact fun _ => rfl) :
    HearsRequest i code p := ⟨ok, f, he, hf⟩

/-- The requests, each heard and handed to its block; SET GEOMETRY moves the windows. -/
theorem hearsRequest {i : Instr} {code : Byte} {p : List Byte} (h : i.request? = some (code, p)) :
    i = .setGeometry p ∧ code = 0x01#8 ∨ HearsRequest i code p := by
  cases i with
  | setGeometry q => cases h; exact .inl ⟨rfl, rfl⟩
  | setLimits q => cases h; exact .inr (requestOf fun u => (KeepsAll.refl u).setLimits _)
  | setGradeTable q => cases h; exact .inr (requestOf fun u => (KeepsAll.refl u).setGradeTable _)
  | setPointsTable q => cases h; exact .inr (requestOf fun u => (KeepsAll.refl u).setPointsTable _)
  | setSpindleLimits q => cases h; exact .inr (requestOf fun u => (KeepsAll.refl u).setSpindleLimits _)
  | setRecipe q => cases h; exact .inr (requestOf fun u => (KeepsAll.refl u).setRecipe _)
  | setTemplate q => cases h; exact .inr (requestOf fun u => (KeepsAll.refl u).setTemplate _)
  | setMillId q => cases h; exact .inr (requestOf fun u => (KeepsAll.refl u).setTemplate _)
  | setBay q => cases h; exact .inr (requestOf fun u => (KeepsAll.refl u).setBay _)
  | startLine q => cases h; exact .inr (requestOf fun u => (KeepsAll.refl u).startLine _)
  | stopLine q => cases h; exact .inr (requestOf fun u => (KeepsAll.refl u).stopLine _)
  | getStrip q => cases h; exact .inr (requestOf fun u => (KeepsAll.refl u).getStrip _)
  | listStrips q => cases h; exact .inr (requestOf fun u => (KeepsAll.refl u).listStrips _)
  | amendStrip q => cases h; exact .inr (requestOf fun u => (KeepsAll.refl u).amendStrip _)
  | purgeStrip q => cases h; exact .inr (requestOf fun u => (KeepsAll.refl u).purgeStrip _)
  | getLug q => cases h; exact .inr (requestOf fun u => (KeepsAll.refl u).getLug _)
  | newRun q => cases h; exact .inr (requestOf fun u => (KeepsAll.refl u).newRun _)
  | toolingReady q => cases h; exact .inr (requestOf fun u => (KeepsAll.refl u).toolingReady _)
  | clearHeadFault q => cases h; exact .inr (requestOf fun u => (KeepsAll.refl u).clearHeadFault _)
  | getBay q => cases h; exact .inr (requestOf fun u => (KeepsAll.refl u).getBay _)
  | closeBundle q => cases h; exact .inr (requestOf fun u => (KeepsAll.refl u).closeBundle _)
  | abortBundle q => cases h; exact .inr (requestOf fun u => (KeepsAll.refl u).abortBundleRequest _)
  | clearBay q => cases h; exact .inr (requestOf fun u => (KeepsAll.refl u).clearBay _)
  | enableBay q => cases h; exact .inr (requestOf fun u => (KeepsAll.refl u).enableBay _)
  | disableBay q => cases h; exact .inr (requestOf fun u => (KeepsAll.refl u).disableBay _)
  | resetStrapper q => cases h; exact .inr (requestOf fun u => (KeepsAll.refl u).resetStrapper _)
  | loadProgram q => cases h; exact .inr (requestOf fun u => (KeepsAll.refl u).loadProgram _)
  | addOrder q => cases h; exact .inr (requestOf fun u => (KeepsAll.refl u).addOrder _)
  | releaseOrder q => cases h; exact .inr (requestOf fun u => (KeepsAll.refl u).releaseOrder _)
  | cancelOrder q => cases h; exact .inr (requestOf fun u => (KeepsAll.refl u).cancelOrder _)
  | getOrder q => cases h; exact .inr (requestOf fun u => (KeepsAll.refl u).getOrder _)
  | retireOrder q => cases h; exact .inr (requestOf fun u => (KeepsAll.refl u).retireOrder _)
  | listLabels q => cases h; exact .inr (requestOf fun u => (KeepsAll.refl u).listLabels _)
  | fetchLabel q => cases h; exact .inr (requestOf fun u => (KeepsAll.refl u).fetchLabel _)
  | retireLabel q => cases h; exact .inr (requestOf fun u => (KeepsAll.refl u).retireLabel _)
  | setNoticeMask q => cases h; exact .inr (requestOf fun u => (KeepsAll.refl u).setNoticeMask _)
  | clearCounters q => cases h; exact .inr (requestOf fun u => (KeepsAll.refl u).clearCounters _)
  | holdInfeed q => cases h; exact .inr (requestOf (f := holdInfeed) fun u => ((KeepsAll.refl u).setInfeedHold true).taken)
  | releaseInfeed q => cases h; exact .inr (requestOf (f := releaseInfeed) fun u => ((KeepsAll.refl u).setInfeedHold false).taken)
  | getMoulder q => cases h; exact .inr (requestOf (f := getMoulder) fun u => (KeepsAll.refl u).replied _)
  | getHeads q => cases h; exact .inr (requestOf (f := getHeads) fun u => (KeepsAll.refl u).replied _)
  | getStatus q => cases h; exact .inr (requestOf (f := getStatus) fun u => (KeepsAll.refl u).replied _)
  | readNotices q => cases h; exact .inr (requestOf (f := readNotices) fun u => ((KeepsAll.refl u).updLink (f := fun l => { l with notices := 0 })).replied _)
  | resetTracking q => cases h; exact .inr (requestOf (f := resetTracking) fun u => (KeepsAll.refl u).trackingReset.taken)
  | _ => cases h

theorem completes_request {i : Instr} {code : Byte} {p : List Byte} (h : HearsRequest i code p) (s : State) :
    Completes s (exec i s) := by
  obtain ⟨ok, f, he, hf⟩ := h
  rw [he]
  refine completes_takeEvent fun u => (KeepsAll.refl u).request code ok p fun v hv => ?_
  have hreply := hf v
  cases hr : f p v with
  | error e => trivial
  | ok r => rw [hr] at hreply; exact hv.trans hreply

/-- Every command has an answer that keeps the invariants. -/
theorem exec_completes (c : Instr) (s : State) : Completes s (exec c s) := by
  cases hc : c.request? with
  | some q =>
    obtain ⟨code, p⟩ := q
    obtain ⟨rfl, -⟩ | h := hearsRequest hc
    · exact completes_event (setGeometry_stepKeeps p _)
    · exact completes_request h s
  | none =>
    cases c with
    | powerOn => exact ⟨_, rfl, (powerOn_invariants s).stepKeeps _⟩
    | resetPin => exact ⟨_, rfl, (leaveReset_invariants _ s).stepKeeps _⟩
    | linkFrameDiscarded => exact completes_takeEvent fun u => (KeepsAll.refl u).linkDiscard
    | linkFrameDeadline => exact completes_takeEvent fun u => (KeepsAll.refl u).linkDeadline
    | responseComplete => exact completes_takeEvent fun u => (KeepsAll.refl u).responseComplete
    | encoderCount => exact completes_takeEvent fun u => (KeepsAll.refl u).encoderCount
    | infeedEyeBlock => exact completes_takeEvent fun u => (KeepsAll.refl u).eyeBlock
    | infeedEyeUnblock => exact completes_takeEvent fun u => (KeepsAll.refl u).eyeUnblock
    | drainCompletion => exact completes_takeEvent fun u => (KeepsAll.refl u).drainTest
    | lostAtTransfer => exact completes_takeEvent fun u => (KeepsAll.refl u).lostAtTransfer
    | stationFrameDiscarded => exact completes_takeEvent fun u => (KeepsAll.refl u).stationDiscard
    | stationFrameTimeout => exact completes_takeEvent fun u => (KeepsAll.refl u).stationTimeout
    | matchCompletion => exact completes_takeEvent fun u => (KeepsAll.refl u).matchCompletion
    | transferClear => exact completes_takeEvent fun u => (KeepsAll.refl u).transferUnblock
    | verifyEyeBlock => exact completes_takeEvent fun u => (KeepsAll.refl u).verifyBlock
    | bundleOpen => exact completes_takeEvent fun u => (KeepsAll.refl u).offerEntry
    | strapperTakesBay => exact completes_takeEvent fun u => (KeepsAll.refl u).arbitrate
    | strapTimeout => exact completes_takeEvent fun u => (KeepsAll.refl u).strapExpire
    | labelFormation => exact completes_takeEvent fun u => (KeepsAll.refl u).serveLabelWait
    | orderTakeUp => exact completes_takeEvent fun u => (KeepsAll.refl u).takeUp
    | emissionResume => exact completes_takeEvent fun u => (KeepsAll.refl u).emissionResume
    | stationFrameBegin => exact completes_takeEvent fun u => (KeepsAll.refl u).stationBegin
    | linkWatchdogExpiry => exact completes_event (watchdogExpire_stepKeeps _)
    | unknownRequest code => exact completes_takeEvent fun u => (KeepsAll.refl u).unknownRequest code
    | tailConfirmed => exact completes_takeEvent fun u => (KeepsAll.refl u).positionRow fun _ hv => hv.tailEvent
    | passageLong => exact completes_takeEvent fun u => (KeepsAll.refl u).positionRow fun _ hv => hv.longTest
    | moulderExit => exact completes_takeEvent fun u => (KeepsAll.refl u).positionRow fun _ hv => hv.takeExits none
    | moulderClear => exact completes_takeEvent fun u => (KeepsAll.refl u).positionRow fun _ hv => hv.drainTest
    | reportReceived p => exact completes_takeEvent fun u => (KeepsAll.refl u).reportReceived p
    | lugTick => exact completes_event (lugTick_stepKeeps s.homed _)
    | dropUnverified k => exact completes_takeEvent fun u => (KeepsAll.refl u).resolveDrop k false
    | inPositionActive g =>
      exact completes_takeEdge (·.setInPosition g true) (positionReached s.homed g) fun u => (KeepsAll.refl u).positionReached _ g
    | inPositionInactive g =>
      exact completes_takeEdge (·.setInPosition g false) (positionLost g) fun u => (KeepsAll.refl u).positionLost g
    | homingComplete g =>
      exact completes_takeEdge (·.setInPosition g true) (homingComplete s.homed g) fun u => (KeepsAll.refl u).homingComplete _ g
    | positionerFault g v =>
      exact completes_takeEdge (Inputs.setHeadFault g v) (fun u => if v then faultHead g u else u)
        fun u => (KeepsAll.refl u).ifActive v fun hu => hu.faultHead g
    | bayConfirm k v =>
      exact completes_takeEdge (Inputs.setConfirm k v) (fun u => if v then confirm k u else u)
        fun u => (KeepsAll.refl u).ifActive v fun hu => hu.confirm k
    | bayFaultInput k v =>
      exact completes_takeEdge (Inputs.setBayFault k v) (fun u => if v then bayFaultActive u k else u)
        fun u => (KeepsAll.refl u).ifActive v (f := fun u => Machine.bayFaultActive u k) fun hu => hu.bayFaultActive k
    | dischargeComplete k v =>
      exact completes_takeEdge (Inputs.setDischarge k v) (fun u => if v then dischargeDone u k else u)
        fun u => (KeepsAll.refl u).ifActive v (f := fun u => Machine.dischargeDone u k) fun hu => hu.dischargeDone k
    | settleExpiry k =>
      exact completes_takeEvent (f := fun u => settleExpire u k) fun u => (KeepsAll.refl u).settleExpire k
    | strapComplete n => exact completes_takeEvent fun u => (KeepsAll.refl u).strapComplete n
    | endWord => exact completes_wordRow _ fun _ u => (KeepsAll.refl u).endOrder
    | bundleWord => exact completes_wordRow _ fun w u => (KeepsAll.refl u).bundleEffect w
    | repeatWord => exact completes_wordRow _ fun w u => (KeepsAll.refl u).repeatEffect w
    | repeatAlwaysWord => exact completes_wordRow _ fun _ u => (KeepsAll.refl u).pushRepeat none
    | endRepeatWord => exact completes_wordRow _ fun w u => (KeepsAll.refl u).endRepeatEffect w
    | callWord => exact completes_wordRow _ fun w u => (KeepsAll.refl u).callEffect w
    | returnWord => exact completes_wordRow _ fun w u => (KeepsAll.refl u).returnEffect w
    | holdWord => exact completes_wordRow _ fun w u => (KeepsAll.refl u).holdEffect w
    | unknownCodeWord => exact completes_wordRow _ fun _ u => (KeepsAll.refl u).faultOrder _
    | interpreterResume =>
      exact completes_takeEvent (f := fun u => if resumeDue u then resumePaused u else u)
        fun u => (KeepsAll.refl u).ifActive _ fun hu => hu.resumePaused
    | linkFrameBegin n => exact completes_takeEvent fun u => (KeepsAll.refl u).linkBegin n
    | resetPinAsserted => exact ⟨_, rfl, KeepsAll.stepKeeps {}⟩
    | _ => cases hc

/-- Every step has an answer that keeps the invariants. -/
theorem step_completes (s : State) : ∃ t, step s = .next t ∧ StepKeeps s t := by
  unfold step
  split
  · refine ⟨_, rfl, ?_⟩
    unfold idleTick
    split
    · exact (KeepsAll.clearPulses s).stepKeeps
    · exact (millisecond_stepKeeps _).of_keepsAll (KeepsAll.clearPulses s)
  next c rest _ =>
    obtain ⟨t, ht, hk⟩ := exec_completes c { s with pending := rest }
    have hpending : KeepsAll s { s with pending := rest } := {}
    exact ⟨t, ht, hk.of_keepsAll (hpending.trans (KeepsAll.clearPulses _))⟩

theorem step_stepKeeps {s t : State} (h : step s = .next t) : StepKeeps s t := by
  obtain ⟨u, hu, hk⟩ := step_completes s
  obtain rfl : u = t := by rw [hu] at h; exact Host.Outcome.next.inj h
  exact hk

/-- A list of bays, each once, is of at most eight. -/
theorem length_bays_le {l : List BayId} (h : l.Nodup) : l.length ≤ 8 := by simpa using h.length_le_card

end Sys2Proof.Machine

namespace Sys2Proof.Claims

open Sys2Proof Sys2Proof.Machine

/-- Settles O60: the reset values, field by field. -/
theorem resetMeetsInvariants : Obligations.ResetMeetsInvariants :=
  have h := State.reset_invariants
  ⟨h.counters, h.capacity, h.tags, h.books, h.plunges, h.queues, h.plans, h.planned⟩

/-- Settles O2: each command's next state, and the two plunges pulse in the cut alone. -/
theorem everyCommandCompletes : Obligations.EveryCommandCompletes := fun c s => by
  obtain ⟨t, ht, hk⟩ := exec_completes c s
  exact ⟨t, ht, hk.plunges (by simp [State.PlungesTogether])⟩

/-- Settles O57, from what each operation keeps; the lug tick and SET GEOMETRY move the windows. -/
theorem countersAndCapacitiesKept : Obligations.CountersAndCapacitiesKept := fun s t hst => by
  have hk := step_stepKeeps hst
  refine ⟨hk.counters, hk.capacity, fun hs => ?_, fun hs => ?_, fun hs hgeo => ?_⟩
  · have hq := hk.queues hs
    exact ⟨hq, length_bays_le hq.fifoOnce, length_bays_le hq.labelsOnce⟩
  · have hp := hk.plans hs
    obtain ⟨hge, hwin, -⟩ := State.plansInWindow_iff.mp hp
    refine ⟨hp, fun h => ?_⟩
    have hlen : (t.head h).plan.length ≤ t.geometry.e - t.geometry.d := by simpa [State.planSerials] using (hwin h).length_le
    exact ⟨hlen, by omega⟩
  · have hp := hk.planned hs hgeo
    obtain ⟨hge, hwin⟩ := State.plannedInWindow_iff.mp hp
    refine ⟨hp, fun k => ?_⟩
    have hlen : (t.bay k).planned.length ≤ t.bayOffset k - t.geometry.d := by
      simpa [State.plannedSerials] using (hwin k).length_le
    have := hge k
    omega

/-- Settles O58: a new record takes a tag that is free. -/
theorem tagsUniqueKept : Obligations.TagsUniqueKept := fun _ _ hs hst => (step_stepKeeps hst).tags hs

/-- Settles O59: the books under every operation of the order unit and every opening. -/
theorem booksBalanceKept : Obligations.BooksBalanceKept := fun _ _ hs hst => (step_stepKeeps hst).books hs

end Sys2Proof.Claims
end

section
set_option Elab.async false
/-! PROOF. One step, the millisecond, and the resets (O1). -/

namespace Sys2Proof.Machine

open Sys2Proof

/-! ## Free orders -/

/-- A free order is an order of the same members (log entry 8). -/
theorem freeOrder_perm {α : Type} (fuel c : Nat) (l : List α) : (freeOrder fuel c l).Perm l := by
  induction fuel generalizing c l with
  | zero => exact .refl l
  | succ fuel ih =>
    match l with
    | [] => exact .refl _
    | [a] => exact .refl _
    | a :: b :: l =>
      unfold freeOrder
      dsimp only
      split
      next x hx =>
        obtain ⟨hi, rfl⟩ := List.getElem?_eq_some_iff.mp hx
        exact ((ih _ _).cons _).trans (List.getElem_cons_eraseIdx_perm hi)
      · exact .refl _

/-! ## The expiries leave what they do not name -/

/-- What the expiry of a timer leaves: the pin, the pulses, the free choices and the settle timers. -/
structure Expires (s t : State) : Prop where
  resetPin : t.resetPin = s.resetPin := by rfl
  pulses : t.pulses = s.pulses := by rfl
  homed : t.homed = s.homed := by rfl
  freeCount : t.freeCount = s.freeCount := by rfl
  settle : ∀ k, (t.bay k).settleTimer = (s.bay k).settleTimer := by exact fun _ => rfl

theorem Expires.refl (s : State) : Expires s s := {}

theorem Expires.trans {s t u : State} (h : Expires s t) (h' : Expires t u) : Expires s u where
  resetPin := h'.resetPin.trans h.resetPin
  pulses := h'.pulses.trans h.pulses
  homed := h'.homed.trans h.homed
  freeCount := h'.freeCount.trans h.freeCount
  settle k := (h'.settle k).trans (h.settle k)

theorem linkDeadline_expires (s : State) : Expires s (linkDeadline s) := by
  unfold linkDeadline linkDiscard
  split
  · split <;> exact {}
  · exact {}

theorem watchdogExpire_expires (s : State) : Expires s (watchdogExpire s) := by
  unfold watchdogExpire
  split
  · exact {}
  · dsimp only
    split
    · exact {}
    · rw [pauseChanged_frame]; exact {}

theorem stationTimeout_expires (s : State) : Expires s (stationTimeout s) := by
  unfold stationTimeout
  split <;> exact {}

theorem settleTimer_updBay (s : State) (k : BayId) {f : Bay → Bay}
    (hf : (f (s.bay k)).settleTimer = (s.bay k).settleTimer) (j : BayId) :
    ((s.updBay k f).bay j).settleTimer = (s.bay j).settleTimer := by
  by_cases hj : j = k
  · rw [hj, State.bay_updBay, hf]
  · rw [State.bay_updBay_ne _ hj]

theorem strapExpire_expires (s : State) : Expires s (strapExpire s) := by
  unfold strapExpire
  split
  next k _ _ =>
    exact { settle := settleTimer_updBay s k (f := fun b => { b with state := .fault, origin := some .strapTimeout }) rfl }
  · exact {}

@[simp] theorem linkDeadline_watchdog (s : State) : (linkDeadline s).link.watchdog = s.link.watchdog := by
  unfold linkDeadline linkDiscard
  split
  · split <;> rfl
  · rfl

@[simp] theorem linkDeadline_matcher (s : State) : (linkDeadline s).matcher = s.matcher := by
  unfold linkDeadline linkDiscard
  split
  · split <;> rfl
  · rfl

@[simp] theorem linkDeadline_strapper (s : State) : (linkDeadline s).strapper = s.strapper := by
  unfold linkDeadline linkDiscard
  split
  · split <;> rfl
  · rfl

/-- The watchdog's expiry changes the line link, a counter and the interpreter. -/
theorem watchdogExpire_frame (s : State) : watchdogExpire s =
    { s with link := (watchdogExpire s).link, counters := (watchdogExpire s).counters, orders := (watchdogExpire s).orders } := by
  unfold watchdogExpire
  split
  · rfl
  · dsimp only
    split
    · rfl
    · rw [pauseChanged_frame]; rfl

@[simp] theorem watchdogExpire_matcher (s : State) : (watchdogExpire s).matcher = s.matcher := by rw [watchdogExpire_frame]

@[simp] theorem watchdogExpire_strapper (s : State) : (watchdogExpire s).strapper = s.strapper := by rw [watchdogExpire_frame]

@[simp] theorem stationTimeout_strapper (s : State) : (stationTimeout s).strapper = s.strapper := by
  unfold stationTimeout
  split <;> rfl

theorem arbitrate_withFreeCount (s : State) (n : Nat) :
    arbitrate { s with freeCount := n } = { arbitrate s with freeCount := n } := by
  unfold arbitrate strapFront
  by_cases h : strapDue s = true
  · rw [if_pos h, if_pos (show strapDue { s with freeCount := n } = true from h)]
    cases hfifo : s.strapper.fifo <;> rfl
  · rw [if_neg h, if_neg (show ¬ strapDue { s with freeCount := n } = true from h)]

/-- A settle expiry does not read the free choices. -/
theorem settleExpire_withFreeCount (s : State) (n : Nat) (k : BayId) :
    settleExpire { s with freeCount := n } k = { settleExpire s k with freeCount := n } := by
  by_cases h : (s.bay k).state = .settling
  · have hs : ∀ m, settleExpire { s with freeCount := m } k = joinStrapper { s with freeCount := m } k := fun m => if_pos h
    rw [hs n, show settleExpire s k = joinStrapper s k from hs s.freeCount]
    exact arbitrate_withFreeCount
      { s.updBay k (fun b => { b with state := .waitStrap, settleTimer := none }) with
        strapper := { s.strapper with fifo := s.strapper.fifo ++ [k] } } n
  · have hs : ∀ m, settleExpire { s with freeCount := m } k = { s with freeCount := m } := fun m => if_neg h
    rw [hs n, show settleExpire s k = s from hs s.freeCount]

/-! ## Rows taken in turn -/

/-- Outside reset, with no pulse of a command before and no homing just completed. -/
structure Calm (s : State) : Prop where
  resetPin : s.resetPin = false
  pulses : s.pulses = []
  homed : s.homed = []

theorem Calm.expires {s t : State} (h : Calm s) (ht : Expires s t) : Calm t :=
  ⟨ht.resetPin.trans h.resetPin, ht.pulses.trans h.pulses, ht.homed.trans h.homed⟩

theorem Calm.takeEvent {s : State} (h : Calm s) (f : State → State) : takeEvent f s = .next (f s) := by
  rw [takeEvent_run s f h.resetPin]
  have : s.clearPulses = s := by
    unfold State.clearPulses
    rw [← h.pulses, ← h.homed]
  rw [this]

theorem inTurn_append (l l' : List Instr) (s : State) : Claims.inTurn (l ++ l') s = Claims.inTurn l' (Claims.inTurn l s) :=
  List.foldl_append

theorem inTurn_cons {c : Instr} {s t : State} (h : exec c s = .next t) (l : List Instr) :
    Claims.inTurn (c :: l) s = Claims.inTurn l t := by
  simp [Claims.inTurn, h]

/-- The row of a timer that has run out is its expiry. -/
theorem inTurn_due {s : State} (h : Calm s) (timer : Option Nat) {row : Instr} {f : State → State}
    (hrow : ∀ s, exec row s = takeEvent f s) :
    Claims.inTurn (if timer = some 0 then [row] else []) s = if runOut timer then f s else s := by
  by_cases ht : timer = some 0
  · rw [if_pos ht, inTurn_cons ((hrow s).trans (h.takeEvent f))]
    simp [runOut, ht, Claims.inTurn]
  · simp [runOut, ht, Claims.inTurn]

theorem settleExpire_calm {s : State} (h : Calm s) (k : BayId) : Calm (settleExpire s k) := by
  unfold settleExpire joinStrapper arbitrate strapFront
  dsimp only
  split
  · split
    · split <;> exact ⟨h.resetPin, h.pulses, h.homed⟩
    · exact ⟨h.resetPin, h.pulses, h.homed⟩
  · exact h

/-- The settle expiries in turn. -/
theorem inTurn_settle {s : State} (h : Calm s) (l : List BayId) (n : Nat) :
    l.foldl (fun s k => settleExpire s k) { s with freeCount := n } =
      { Claims.inTurn (l.map .settleExpiry) s with freeCount := n } := by
  induction l generalizing s with
  | nil => rfl
  | cons k l ih =>
    rw [List.map_cons, inTurn_cons (c := .settleExpiry k) (h.takeEvent fun s => settleExpire s k), List.foldl_cons,
      settleExpire_withFreeCount]
    exact ih (settleExpire_calm h k)

/-! ## The millisecond -/

theorem Bay.countDown_of_none {b : Bay} (h : b.settleTimer = none) :
    { b with settleTimer := countDown b.settleTimer } = b := by
  cases b
  cases h
  rfl

/-- With no settle, watchdog, station or strap timer running, a millisecond only counts the link's frame timer down. -/
theorem countTimers_link {s : State} (h1 : s.link.watchdog = none) (h2 : s.matcher.frameTimer = none)
    (h3 : s.strapper.timer = none) (h4 : ∀ k : BayId, (s.bay k).settleTimer = none) :
    countTimers s = s.updLink fun l => { l with frameTimer := countLink s.link.frameTimer } := by
  have hbays : (Vector.ofFn fun k => { s.bays[k] with settleTimer := countDown s.bays[k].settleTimer }) = s.bays := by
    refine Vector.ext fun i hi => ?_
    rw [Vector.getElem_ofFn]
    exact Bay.countDown_of_none (h4 ⟨i, hi⟩)
  have hlink : { s.link with frameTimer := countLink s.link.frameTimer, watchdog := countDown s.link.watchdog } =
      { s.link with frameTimer := countLink s.link.frameTimer } := by
    generalize s.link = l at h1
    cases l
    cases h1
    rfl
  have hmatcher : { s.matcher with frameTimer := countDown s.matcher.frameTimer } = s.matcher := by
    generalize s.matcher = m at h2
    cases m
    cases h2
    rfl
  have hstrapper : { s.strapper with timer := countDown s.strapper.timer } = s.strapper := by
    generalize s.strapper = u at h3
    cases u
    cases h3
    rfl
  unfold countTimers State.updLink
  rw [hbays, hlink, hmatcher, hstrapper]

/-- With no such timer running, a millisecond at most discards the frame that is being received. -/
theorem millisecond_link {s : State} (h1 : s.link.watchdog = none) (h2 : s.matcher.frameTimer = none)
    (h3 : s.strapper.timer = none) (h4 : ∀ k : BayId, (s.bay k).settleTimer = none) :
    millisecond s =
      let u := s.updLink fun l => { l with frameTimer := countLink s.link.frameTimer }
      if runOut u.link.frameTimer then linkDeadline u else u := by
  have hcount := countTimers_link h1 h2 h3 h4
  unfold millisecond
  rw [hcount]
  dsimp only
  generalize hv : (if runOut (s.updLink fun l => { l with frameTimer := countLink s.link.frameTimer }).link.frameTimer then
    linkDeadline (s.updLink fun l => { l with frameTimer := countLink s.link.frameTimer }) else
    s.updLink fun l => { l with frameTimer := countLink s.link.frameTimer }) = v
  have hkept : v.link.watchdog = none ∧ v.matcher.frameTimer = none ∧ v.strapper.timer = none ∧
      ∀ k : BayId, (v.bay k).settleTimer = none := by
    rw [← hv]
    split
    · exact ⟨by simpa using h1, by simpa using h2, by simpa using h3, fun k => by
        rw [(linkDeadline_expires _).settle]; exact h4 k⟩
    · exact ⟨h1, h2, h3, h4⟩
  obtain ⟨hw, hm, hs, hb⟩ := hkept
  simp [runOut, hw, hm, hs, State.settled, hb]

/-- The millisecond in rows: each timer that runs out expires as its row does (log entries 7 and 8). -/
theorem millisecond_eq {s : State} (h : Calm s) : let t := countTimers s
    let due := fun (timer : Option Nat) (row : Instr) => if timer = some 0 then [row] else []
    ∃ settling : List BayId, settling.Perm (allBays.filter fun k => (t.bay k).settleTimer = some 0) ∧
      millisecond s = { Claims.inTurn
        (due t.link.frameTimer .linkFrameDeadline ++ due t.link.watchdog .linkWatchdogExpiry ++
          due t.matcher.frameTimer .stationFrameTimeout ++ due t.strapper.timer .strapTimeout ++
          settling.map .settleExpiry) t with freeCount := s.freeCount + (settling.length - 1) } := by
  intro t due
  have ht : Calm t := ⟨h.resetPin, h.pulses, h.homed⟩
  have hif : ∀ {u v : State} (b : Bool), Expires u v → Expires u (if b then v else u) := fun {u v} b hv => by
    cases b
    · exact .refl u
    · exact hv
  obtain ⟨u1, e1⟩ : ∃ u, u = if runOut t.link.frameTimer then linkDeadline t else t := ⟨_, rfl⟩
  have x1 : Expires t u1 := e1 ▸ hif _ (linkDeadline_expires t)
  obtain ⟨u2, e2⟩ : ∃ u, u = if runOut u1.link.watchdog then watchdogExpire u1 else u1 := ⟨_, rfl⟩
  have x2 : Expires u1 u2 := e2 ▸ hif _ (watchdogExpire_expires u1)
  obtain ⟨u3, e3⟩ : ∃ u, u = if runOut u2.matcher.frameTimer then stationTimeout u2 else u2 := ⟨_, rfl⟩
  have x3 : Expires u2 u3 := e3 ▸ hif _ (stationTimeout_expires u2)
  obtain ⟨u4, e4⟩ : ∃ u, u = if runOut u3.strapper.timer then strapExpire u3 else u3 := ⟨_, rfl⟩
  have x4 : Expires u3 u4 := e4 ▸ hif _ (strapExpire_expires u3)
  have hm : millisecond s = inFreeOrder u4.settled (fun k s => settleExpire s k) u4 := by
    rw [e4, e3, e2, e1]; rfl
  have hwatch : u1.link.watchdog = t.link.watchdog := by rw [e1]; split <;> simp
  have hmatch : u2.matcher = t.matcher := by
    have h1 : u1.matcher = t.matcher := by rw [e1]; split <;> simp
    rw [e2]; split <;> simp [h1]
  have hstrap : u3.strapper = t.strapper := by
    have h1 : u1.strapper = t.strapper := by rw [e1]; split <;> simp
    have h2 : u2.strapper = u1.strapper := by rw [e2]; split <;> simp
    rw [e3]; split <;> simp [h2, h1]
  have hall := ((x1.trans x2).trans x3).trans x4
  have hsettled : u4.settled = allBays.filter fun k => (t.bay k).settleTimer = some 0 := by
    simp only [State.settled, runOut, hall.settle]
  refine ⟨freeOrder u4.settled.length u4.freeCount u4.settled, hsettled ▸ freeOrder_perm _ _ _, ?_⟩
  have hlen := (freeOrder_perm u4.settled.length u4.freeCount u4.settled).length_eq
  rw [hm, inFreeOrder, freeChoices, inTurn_settle ((((ht.expires x1).expires x2).expires x3).expires x4), hlen]
  have hturn : u4 = Claims.inTurn (due t.link.frameTimer .linkFrameDeadline ++ due t.link.watchdog .linkWatchdogExpiry ++
      due t.matcher.frameTimer .stationFrameTimeout ++ due t.strapper.timer .strapTimeout) t := by
    rw [inTurn_append, inTurn_append, inTurn_append, inTurn_due ht _ fun _ => rfl, ← e1, ← hwatch,
      inTurn_due (ht.expires x1) _ fun _ => rfl, ← e2, ← hmatch, inTurn_due ((ht.expires x1).expires x2) _ fun _ => rfl, ← e3,
      ← hstrap, inTurn_due (((ht.expires x1).expires x2).expires x3) _ fun _ => rfl, ← e4]
  rw [inTurn_append, ← hturn, hall.freeCount]
  rfl

end Sys2Proof.Machine

namespace Sys2Proof.Claims

open Sys2Proof Sys2Proof.Machine

/-- Settles O1: a step is the front command's meaning, and a millisecond is its expiries in turn. -/
theorem stepRunsFrontCommand : Obligations.StepRunsFrontCommand := by
  intro s
  refine ⟨fun c rest h => by simp [step, h], fun h hpin h1 h2 h3 h4 h5 => ?_, fun h hpin => ?_, fun h hpin => ?_⟩
  · have hm := millisecond_link (s := s.clearPulses) h2 h3 h4 h5
    have hidle : millisecond s.clearPulses = s.clearPulses := by
      have hlink : { s.link with frameTimer := countLink s.link.frameTimer } = s.link := by
        generalize s.link = l at h1
        cases l
        cases h1
        rfl
      rw [hm]
      show (if runOut { s.link with frameTimer := countLink s.link.frameTimer }.frameTimer then _ else
        { s.clearPulses with link := { s.link with frameTimer := countLink s.link.frameTimer } }) = s.clearPulses
      rw [hlink, h1]
      rfl
    simp only [step, h, idleTick, hpin, Bool.false_eq_true, if_false, hidle]
    rfl
  · simp only [step, h, idleTick, hpin, if_true]
    rfl
  · obtain ⟨settling, hperm, hm⟩ := millisecond_eq (s := s.clearPulses) ⟨hpin, rfl, rfl⟩
    refine ⟨settling, hperm, ?_⟩
    simp only [step, h, idleTick, hpin, Bool.false_eq_true, if_false]
    rw [hm]
    rfl

end Sys2Proof.Claims
end

section
set_option Elab.async false
/-! PROOF. The resets: the values after power-on, the reset pin, and what a reset command leaves (O3 to O5). -/

namespace Sys2Proof.Machine

open Sys2Proof

/-! ## Commands under the reset pin -/

/-- Every command but the three of the resets is an event, or an edge of a field input. -/
theorem exec_event_or_edge {c : Instr} (h1 : c ≠ .powerOn) (h2 : c ≠ .resetPin) (h3 : c ≠ .resetPinAsserted) :
    ∃ (g : State → Inputs) (f : State → State → State),
      ∀ s, exec c s = takeEvent (f s) { s with inputs := g s } := by
  cases c with
  | powerOn => exact absurd rfl h1
  | resetPin => exact absurd rfl h2
  | resetPinAsserted => exact absurd rfl h3
  | inPositionActive | inPositionInactive | homingComplete | positionerFault | bayConfirm | bayFaultInput | dischargeComplete =>
    exact ⟨fun s => _, fun s => _, fun _ => rfl⟩
  | _ => exact ⟨fun s => s.inputs, fun _ => _, fun _ => rfl⟩

theorem outputsInactive_of_resetPin {s : State} (h : s.resetPin = true) (hp : s.pulses = []) : s.OutputsInactive where
  gate := by simp [State.gateOpen, h]
  attention := by simp [State.attn, h]
  strap := by simp [State.strapCommand, h]
  discharge k := by simp [State.dischargeOutput, h]
  transmitter := by simp [State.transmitting, h]
  pulses := hp

/-! ## Faults of heads and bays -/

theorem lostDrops_self (s : State) : lostDrops s s = [] := by simp [lostDrops]

/-- A head in FAULT: its queue and reference gone, the fault noticed and counted (R107). -/
def headFaulted (s : State) (h : HeadId) : State :=
  ((s.updHead h fun r => { r with state := .fault, plan := [], reference := none }).raise .headFault).bump (faultCounter h)

/-- A fault of a head with no plunge in its queue gives up no cut. -/
theorem faultHead_of_noPlunge {s : State} {h : HeadId} (hs : (s.head h).state ≠ .fault)
    (hp : ∀ e ∈ (s.head h).plan, e.plunge = false) : faultHead h s = headFaulted s h := by
  have hfold : ∀ (l : List PlanEntry) (u : State), (∀ e ∈ l, e.plunge = false) → l.foldl (cancelCut h) u = u := by
    intro l
    induction l with
    | nil => exact fun _ _ => rfl
    | cons e l ih =>
      intro u hl
      have he : cancelCut h u e = u := by simp [cancelCut, hl e]
      rw [List.foldl_cons, he, ih u fun e he => hl e (List.mem_cons_of_mem _ he)]
  unfold faultHead
  split
  next hf => exact absurd hf hs
  · dsimp only
    rw [hfold _ _ hp, lostDrops_self]
    rfl

/-- The bay faults taken at a reset, over bays that are all DISABLED. -/
theorem foldl_bayFaultAtReset (l : List BayId) {u : State} (hu : ∀ k, (u.bay k).state = .disabled) :
    l.foldl bayFaultAtReset u = if l.any (fun k => u.inputs.bayFault[k]) then u.raise .bayFault else u := by
  induction l generalizing u with
  | nil => rfl
  | cons k l ih =>
    rw [List.foldl_cons, List.any_cons]
    by_cases hk : u.inputs.bayFault[k] = true
    · have hstep : bayFaultAtReset u k = u.raise .bayFault := by
        rw [bayFaultAtReset, if_pos hk, bayFaultActive, hu k]
      have hraise : (u.raise .bayFault).raise .bayFault = u.raise .bayFault := by
        simp [State.raise, BitVec.or_assoc]
      rw [hstep, ih (fun j => by simpa using hu j), hraise, State.raise_inputs, hk]
      simp
    · have hstep : bayFaultAtReset u k = u := by rw [bayFaultAtReset, if_neg hk]
      rw [hstep, ih hu, Bool.eq_false_of_not_eq_true hk, Bool.false_or]

/-! ## Leaving reset -/

/-- The reset values with a cause; the queue, the free choices and the field inputs are kept (log entries 11 and 25). -/
def atReset (cause : ResetCause) (s : State) : State :=
  (keepOutside s State.reset).updLink fun l => { l with cause := cause }

/-- The reset values with the faults taken whose inputs are active. -/
def atResetFaulted (cause : ResetCause) (s : State) (head tail bay : Bool) : State :=
  let u := if head then headFaulted (atReset cause s) .headSide else atReset cause s
  let v := if tail then headFaulted u .tailSide else u
  if bay then v.raise .bayFault else v

theorem bay_atResetFaulted (cause : ResetCause) (s : State) (head tail bay : Bool) (k : BayId) :
    (atResetFaulted cause s head tail bay).bay k = .start := by
  rw [← State.bay_reset k]
  cases head <;> cases tail <;> cases bay <;> rfl

theorem leaveReset_eq (cause : ResetCause) (s : State) : leaveReset cause s =
    atResetFaulted cause s s.inputs.faultHead s.inputs.faultTail (allBays.any fun k => s.inputs.bayFault[k]) := by
  have hhead : faultAtReset (atReset cause s) .headSide =
      if s.inputs.faultHead then headFaulted (atReset cause s) .headSide else atReset cause s := by
    have : faultHead .headSide (atReset cause s) = headFaulted (atReset cause s) .headSide :=
      faultHead_of_noPlunge HeadState.noConfusion (fun e he => by cases he)
    rw [faultAtReset, this]
    rfl
  have htail : ∀ u, u = atReset cause s ∨ u = headFaulted (atReset cause s) .headSide →
      faultAtReset u .tailSide = if s.inputs.faultTail then headFaulted u .tailSide else u := by
    rintro u (rfl | rfl)
    all_goals
      rw [faultAtReset, faultHead_of_noPlunge HeadState.noConfusion (fun e he => by cases he)]
      rfl
  unfold leaveReset
  dsimp only
  rw [show (keepOutside s State.reset).updLink (fun l => { l with cause := cause }) = atReset cause s from rfl, hhead,
    htail _ (by split <;> simp), foldl_bayFaultAtReset]
  · cases s.inputs.faultHead <;> cases s.inputs.faultTail <;> rfl
  · intro k
    exact congrArg Bay.state (bay_atResetFaulted cause s s.inputs.faultHead s.inputs.faultTail false k)

end Sys2Proof.Machine

namespace Sys2Proof.Claims

open Sys2Proof Sys2Proof.Machine

/-- Settles O3: the reset state holds the values of Tables 5-5, 5-6, 10-6 and 10-7 and of the reset rules. -/
theorem resetLeavesStatedValues : Obligations.ResetLeavesStatedValues := by
  have hcount : ∀ c : Counter, State.reset.count c = 0 := fun c => by simp [State.count, State.reset]
  have hspindle : ∀ i : SpindleId, State.reset.moulder.spindle i =
      { wear := 0, warn := 20000000, limit := 25000000, worn := false, spent := false } := fun i => by cases i <;> rfl
  have hslot : ∀ n : Serial, State.reset.slot n = { kind := .empty, named := [] } := fun n => by
    simp [State.slot, State.reset, LugSlot.clear]
  have hhead : ∀ h : HeadId, State.reset.head h = .start := fun h => by cases h <;> rfl
  have hcal : ∀ t : Serial, State.reset.calEntry t = { planned := 0, made := 0 } := fun t => by
    simp [State.calEntry, State.reset]
  have hrecipe : ∀ i : Fin 32, State.reset.orders.recipes[i] = none := fun i => by
    simp [State.reset, OrderUnit.start]
  have hprogram : ∀ a : Fin 256, State.reset.orders.program[a] = { code := 0, a := 0, b := 0 } := fun a => by
    simp [State.reset, OrderUnit.start]
  have htemplate : ∀ i : Fin 4, State.reset.labels.templates[i] = none := fun i => by
    simp [State.reset, LabelBuilder.start]
  have hbay := State.bay_reset
  have hpoints : State.reset.points.map (fun c => ([c.s1, c.s2, c.s3, c.p0, c.p1, c.p2, c.p3], c.endSensitive)) =
      #v[([5, 10, 20, 0, 2, 4, 8], false), ([3, 8, 15, 2, 6, 10, 20], false), ([10, 30, 60, 8, 16, 30, 60], true),
        ([5, 15, 30, 4, 10, 20, 40], false), ([10, 50, 100, 6, 12, 24, 40], false), ([10, 30, 60, 1, 3, 6, 12], false),
        ([1, 2, 4, 6, 12, 24, 48], false), ([10, 30, 60, 2, 6, 12, 24], true)] := by simp [State.reset, defaultPoints]
  refine ⟨rfl, rfl, rfl, rfl, rfl, rfl, rfl, rfl, rfl, rfl, rfl, hcount, rfl, rfl, rfl, rfl, rfl, rfl, rfl, rfl,
    rfl, hspindle, rfl, rfl, rfl, rfl, rfl, hpoints, rfl, rfl, rfl, rfl, rfl, rfl, rfl, rfl, rfl, rfl, hslot, fun h =>
    ?_, rfl, hcal, fun k => ?_, rfl, rfl, rfl, rfl, rfl, rfl, hrecipe, hprogram, rfl, rfl, rfl, rfl, rfl, rfl, rfl,
    rfl, rfl, htemplate, rfl, rfl⟩
  · rw [hhead h]
    exact ⟨rfl, rfl, rfl, rfl, rfl, rfl⟩
  · rw [hbay k]
    exact ⟨rfl, rfl, rfl, rfl, rfl, rfl, rfl, rfl⟩

/-- Settles O4: under the pin an event only ends the old pulses, and an edge moves its input's level. -/
theorem resetPinStopsThePart : Obligations.ResetPinStopsThePart := by
  refine ⟨fun s => ⟨_, rfl, rfl, outputsInactive_of_resetPin rfl rfl⟩, fun s c hpin h1 h2 h3 => ?_⟩
  obtain ⟨g, f, hexec⟩ := exec_event_or_edge h1 h2 h3
  refine ⟨_, (hexec s).trans (takeEvent_reset _ _ hpin), rfl, outputsInactive_of_resetPin hpin rfl⟩

/-- Settles O5: leaving reset takes the faults whose inputs are active over the reset values. -/
theorem resetCommandsLeaveReset : Obligations.ResetCommandsLeaveReset := by
  intro s r
  have hpower : s.resetPin = false → exec .powerOn s = .next (leaveReset .powerOn s) := fun h => by
    show Host.Outcome.next (powerOn s) = _
    simp [powerOn, h]
  have hpin : exec .resetPin s = .next (leaveReset (if s.supplyRisen then .powerOn else .resetPin) s) := rfl
  refine ⟨fun hh ht hb => ?_, fun h => ?_, fun c hc hcpin => ?_⟩
  · have hclear : ∀ cause, leaveReset cause s = atReset cause s := fun cause => by
      have hany : (allBays.any fun k => s.inputs.bayFault[k]) = false := by simpa using fun k _ => hb k
      rw [leaveReset_eq, hh, ht, hany]
      rfl
    refine ⟨fun h => by rw [hpower h, hclear]; rfl, fun h => by rw [hpin, hclear, h]; rfl, fun h => by rw [hpin, hclear, h]; rfl⟩
  · show Host.Outcome.next (powerOn s) = _
    simp only [powerOn, h, if_true]
    rfl
  · have hleave : ∃ cause, exec c s = .next (leaveReset cause s) ∧
        cause = if c = .resetPin ∧ s.supplyRisen = false then .resetPin else .powerOn := by
      rcases List.mem_cons.mp hc with rfl | hc
      · exact ⟨_, hpower (hcpin rfl), by simp⟩
      · obtain rfl := List.mem_singleton.mp hc
        exact ⟨_, hpin, by cases s.supplyRisen <;> rfl⟩
    obtain ⟨cause, hexec, hcause⟩ := hleave
    refine ⟨_, hexec, ?_⟩
    rw [leaveReset_eq, ← hcause]
    have hany : (∃ k : BayId, s.inputs.bayFault[k] = true) ↔ (allBays.any fun k => s.inputs.bayFault[k]) = true := by
      rw [List.any_eq_true]
      exact ⟨fun ⟨k, hk⟩ => ⟨k, mem_allBays k, hk⟩, fun ⟨k, _, hk⟩ => ⟨k, hk⟩⟩
    rw [hany]
    generalize hbay : (allBays.any fun k => s.inputs.bayFault[k]) = bay
    generalize s.inputs.faultHead = head
    generalize s.inputs.faultTail = tail
    refine ⟨?_, ?_, ?_, ?_, ?_, fun x => ?_, fun n => ?_, fun k => ?_⟩
    · cases head <;> cases tail <;> cases bay <;> rfl
    · cases head <;> cases tail <;> cases bay <;> rfl
    · cases head <;> cases tail <;> cases bay <;> rfl
    · cases head <;> cases tail <;> cases bay <;> rfl
    · cases head <;> cases tail <;> cases bay <;> rfl
    · cases head <;> cases tail <;> cases bay <;> cases x <;> rfl
    · have hnotices : (atResetFaulted cause s head tail bay).link.notices =
          (if head || tail then Notice.bit .headFault else 0) ||| if bay then Notice.bit .bayFault else 0 := by
        cases head <;> cases tail <;> cases bay <;>
          simp [atResetFaulted, headFaulted, atReset, keepOutside, State.reset, Link.start]
      rw [State.isPending, hnotices]
      clear hbay hnotices hany
      revert head tail bay
      cases n <;> decide
    · rw [bay_atResetFaulted]
      rfl

end Sys2Proof.Claims
end

section
set_option Elab.async false
/-! PROOF. The line link: reception, the watchdog and LINK_HOLD, answers and refusals (O6 to O9). -/

namespace Sys2Proof.Machine

open Sys2Proof Claims

/-! ## Events outside reset -/

/-- Outside reset an event is its effect on the state as the event finds it. -/
theorem takeEvent_entered {s : State} (h : s.resetPin = false) (f : State → State) :
    takeEvent f s = .next (f (entered s)) := takeEvent_run s f h

/-! ## Reception (R192) -/

theorem linkBegin_hunt {s : State} (h : s.link.receiver = .hunt) (length : Option (Fin 601)) : linkBegin length s =
    s.updLink fun l => { l with receiver := .receiving, frameTimer := some (frameDeadline length) } := if_pos h

theorem linkBegin_busy {s : State} (h : s.link.receiver ≠ .hunt) (length : Option (Fin 601)) : linkBegin length s = s := if_neg h

theorem linkDiscard_taken {s : State} (h : s.link.receiver ≠ .answering) : linkDiscard s =
    (s.updLink fun l => { l with receiver := .hunt, frameTimer := none }).bump .linkDiscarded := if_neg h

theorem linkDiscard_answering {s : State} (h : s.link.receiver = .answering) : linkDiscard s = s := if_pos h

theorem linkDeadline_receiving {s : State} (h : s.link.receiver = .receiving) : linkDeadline s =
    (s.updLink fun l => { l with receiver := .hunt, frameTimer := none }).bump .linkDiscarded := by
  rw [linkDeadline, if_pos h, linkDiscard_taken (by rw [h]; decide)]

theorem responseComplete_answering {s : State} (h : s.link.receiver = .answering) :
    responseComplete s = s.updLink fun l => { l with receiver := .hunt, response := none } := if_pos h

theorem unknownRequest_refused {s : State} {code : Byte} (hc : isRequestCode code = false) (h : s.link.receiver ≠ .answering) :
    unknownRequest code s = refusedOf code .unknownRequest (heard s) := by
  rw [unknownRequest, if_neg (by simp [hc]), request_taken s code _ _ [] h (by decide) rfl]
  rfl

/-! ## Taking up an order (R159) -/

theorem takeUpFront_eq {s : State} {id : Nat} {rest : List Nat} {o : Order} (hrun : s.orders.runList = id :: rest)
    (ho : s.order? id = some o) : takeUpFront s = takenUp s id rest o.start := by
  simp [takeUpFront, hrun, ho, takenUp, tookUp, State.updOrder]

theorem takeUp_due {s : State} (h : s.orders.interp.state = .idle) (hp : s.pauseCondition = false)
    (hr : s.orders.runList ≠ []) : takeUp s = takeUpFront s := if_pos ((takeUpDue_iff s).mpr ⟨h, hp, hr⟩)

theorem takeUpFront_runList {s : State} {id : Nat} {rest : List Nat} (h : s.orders.runList = id :: rest) :
    (takeUpFront s).orders.runList = rest ∧ (takeUpFront s).orders.interp.order = some id := by
  simp [takeUpFront, h]

/-! ## The watchdog (R203) -/

/-- A request heard under LINK_HOLD. -/
theorem heard_held {s : State} (h : s.link.hold = true) : heard s =
    pauseChanged (s.updLink fun l => { l with watchdog := s.limits.watchdogStart, hold := false }) := by
  unfold heard
  rw [if_pos h]
  rfl

/-- The expiry of a running watchdog with LINK_HOLD clear. -/
theorem watchdogExpire_running {s : State} {n : Nat} (h : s.link.watchdog = some n) (hh : s.link.hold = false) :
    watchdogExpire s = pauseChanged (((s.updLink fun l => { l with watchdog := none, hold := true }).raise .linkHold).bump
      .linkHolds) := by
  simp only [watchdogExpire, h, hh]
  rfl

/-! ## Requests and their answers (R193, R194) -/

/-- Each request is heard under its code and handed to its block. -/
theorem exec_request {i : Instr} {code : Byte} {p : List Byte} (h : i.request? = some (code, p)) :
    ∃ (ok : Nat → Bool) (f : List Byte → State → Reply), ∀ s, exec i s = takeEvent (request code ok f p) s := by
  obtain ⟨rfl, rfl⟩ | ⟨ok, f, he, -⟩ := hearsRequest h
  · exact ⟨_, _, fun _ => rfl⟩
  · exact ⟨ok, f, he⟩

/-- The reply to a request that is heard. -/
theorem request_reply {s : State} (code : Byte) (ok : Nat → Bool) (f : List Byte → State → Reply) (p : List Byte)
    (h : s.link.receiver ≠ .answering) (hl : p.length ≤ 600) : request code ok f p s =
      respond code (heard s) (if ok p.length then f p (heard s) else .error .badArgument) := by
  unfold request
  rw [if_neg h, if_neg (show ¬ Config.payloadLimit < p.length from not_lt.mpr hl)]

theorem answer_link (code : Byte) (e : Status) (p : List Byte) (s : State) : (answer code e p s).link =
    { s.link with
      receiver := .answering
      frameTimer := none
      response := some { code := code, status := e, payload := p } } := rfl

/-- A reply that does not come to set LINK_HOLD. -/
def HoldStaysClear (s : State) : Reply → Prop
  | .ok (t, _) => t.link.hold = false
  | .error _ => s.link.hold = false

theorem respond_answers {code : Byte} {s : State} {r : Reply} (h : HoldStaysClear s r) : ∃ w : Response,
    (respond code s r).link.receiver = .answering ∧ (respond code s r).link.hold = false ∧
      (respond code s r).link.response = some w ∧ w.code = code ∧ (w.status ≠ .ok → w.payload = []) := by
  obtain ⟨t, p, rfl, hresp⟩ | ⟨e, rfl, hresp⟩ := respond_cases s code r <;> rw [hresp]
  · exact ⟨_, rfl, h, rfl, rfl, fun hne => absurd rfl hne⟩
  · exact ⟨_, rfl, h, rfl, rfl, fun _ => rfl⟩

/-- An accepted SET GEOMETRY keeps what every operation keeps over the new geometry. -/
theorem acceptGeometry_keepsAll (g : Geometry) (s : State) : KeepsAll { s with geometry := g } (acceptGeometry g s) := by
  obtain ⟨v, hv, hrest⟩ := acceptGeometry_keeps g s
  exact ((hv.resetHead _).resetHead _).trans hrest

theorem setGeometry_holdStaysClear (p : List Byte) {s : State} (h : s.link.hold = false) : HoldStaysClear s (setGeometry p s) := by
  unfold setGeometry
  dsimp only
  split
  · exact h
  split
  · exact h
  split
  · exact h
  · exact (acceptGeometry_keepsAll _ s).hold h

/-- No request comes to set LINK_HOLD. -/
theorem request_holdStaysClear {i : Instr} {code : Byte} {p : List Byte} (h : i.request? = some (code, p)) :
    ∃ (ok : Nat → Bool) (f : List Byte → State → Reply), (∀ s, exec i s = takeEvent (request code ok f p) s) ∧
      ∀ s, s.link.hold = false → HoldStaysClear s (f p s) := by
  obtain ⟨rfl, rfl⟩ | ⟨ok, f, he, hf⟩ := hearsRequest h
  · exact ⟨_, _, fun _ => rfl, fun s hs => setGeometry_holdStaysClear p hs⟩
  · refine ⟨ok, f, he, fun s hs => ?_⟩
    have hkeeps := hf s
    cases hr : f p s with
    | error e => exact hs
    | ok r =>
      rw [hr] at hkeeps
      exact hkeeps.hold hs

end Sys2Proof.Machine

namespace Sys2Proof.Claims

open Sys2Proof Sys2Proof.Machine

/-- Settles O6, by the receiver's state and, for time, by the millisecond that counts the frame timer down. -/
theorem linkReception : Obligations.LinkReception := by
  intro s hpin q dropped begun
  have hevent : ∀ f, takeEvent f s = .next (f q) := takeEvent_entered hpin
  refine ⟨fun h => ⟨?_, fun length => ?_⟩, fun h length => ?_, fun h => ?_, fun h => ?_,
    fun time hq h ht h1 h2 h3 h4 => ?_, fun h => ⟨?_, ?_⟩, fun code h hc => ?_⟩
  · exact (hevent _).trans (congrArg _ (linkBegin_hunt (s := q) h none))
  · refine (hevent _).trans (congrArg _ ((linkBegin_hunt (s := q) h (some length)).trans ?_))
    rw [frameDeadline_some, show 1 + 2 + 1 + length.val + 2 = 6 + length.val by omega]
    rfl
  · exact (hevent _).trans (congrArg _ (linkBegin_busy (s := q) h length))
  · exact (hevent _).trans (congrArg _ (linkDiscard_taken (s := q) h))
  · exact (hevent _).trans (congrArg _ (linkDeadline_receiving (s := q) h))
  · have hstep : step s = .next (millisecond q) := by
      simp only [step, hq, idleTick, hpin, Bool.false_eq_true, if_false]
      rfl
    rw [hstep, millisecond_link (s := q) h1 h2 h3 h4, show q.link.frameTimer = some time from ht]
    dsimp only
    by_cases hle : time ≤ 4608
    · rw [if_pos hle, if_pos (by simp [runOut, countLink, Config.linkMillisecond]; omega),
        linkDeadline_receiving (s := q.updLink fun l => { l with frameTimer := countLink (some time) }) h]
      rfl
    · rw [if_neg hle, if_neg (by simp [runOut, countLink, Config.linkMillisecond]; omega)]
      show _ = Host.Outcome.next (q.updLink fun l => { l with receiver := .receiving, frameTimer := some (time - 4608) })
      rw [← show q.link.receiver = .receiving from h]
      rfl
  · exact (hevent _).trans (congrArg _ (linkDiscard_answering (s := q) h))
  · exact (hevent _).trans (congrArg _ (responseComplete_answering (s := q) h))
  · exact (hevent _).trans (congrArg _ (unknownRequest_refused (s := q) hc h))

/-- Settles O7, by LINK_HOLD: the interpreter follows the pause condition, which the hold alone changes. -/
theorem watchdogAndLinkHold : Obligations.WatchdogAndLinkHold := by
  intro s timer l
  refine ⟨fun h => heard_clear s h, fun h => ⟨?_, fun hl hi => ?_, fun hl hi id rest hr => ?_⟩, fun n hpin hn hh => ?_⟩
  · rw [heard_frame]
    rfl
  · have hp := (pauseCondition_eq_false_iff (s.updLink fun l => { l with watchdog := s.limits.watchdogStart, hold := false })).mpr
      ⟨hl, rfl⟩
    rw [heard_held h, pauseChanged_of_paused _ hp hi]
    rfl
  · have hp := (pauseCondition_eq_false_iff (s.updLink fun l => { l with watchdog := s.limits.watchdogStart, hold := false })).mpr
      ⟨hl, rfl⟩
    have hi' : (s.updLink fun l => { l with watchdog := s.limits.watchdogStart, hold := false }).orders.interp.state = .idle := hi
    rw [heard_held h, pauseChanged_of_not_paused _ hp (by rw [hi']; decide),
      takeUp_due hi' hp (by rw [State.updLink_orders, hr]; simp)]
    exact (takeUpFront_runList (s := s.updLink _) hr).symm
  · refine ⟨_, takeEvent_entered hpin watchdogExpire, ?_⟩
    rw [watchdogExpire_running (s := entered s) hn hh]
    generalize hv : State.bump (State.raise ((entered s).updLink fun l => { l with watchdog := none, hold := true }) .linkHold)
      .linkHolds = v
    have hlink : v.link.hold = true ∧ v.link.watchdog = none := by rw [← hv]; exact ⟨rfl, rfl⟩
    have hpause : v.pauseCondition = true := by simp [State.pauseCondition, hlink.1]
    refine ⟨?_, ?_, ?_, ?_, ?_, ?_, ?_⟩
    · rw [pauseChanged_link, hlink.1]
    · rw [pauseChanged_link, hlink.2]
    · rw [State.isPending, pauseChanged_link, ← hv]
      simp [Notice.bit]
    · rw [pauseChanged_frame, ← hv]
      exact State.count_bump_self _ _
    · simp [State.gateCondition, hlink.1]
    · rw [pauseChanged_orders_of_pause _ hpause, ← hv]
      rfl
    · rw [pauseChanged_frame, ← hv]
      rfl

/-- Settles O8: a request in ANSWERING is not received, and the reply to any other is a response under its code. -/
theorem everyValidRequestIsAnswered : Obligations.EveryValidRequestIsAnswered := by
  intro i code p s hi hpin hlen
  obtain ⟨ok, f, hexec, hhold⟩ := request_holdStaysClear hi
  rw [hexec, takeEvent_entered hpin]
  refine ⟨fun h => ?_, fun h => ?_⟩
  · rw [request_answering (entered s) code ok f p h]
  · rw [request_reply (s := entered s) code ok f p h hlen]
    have hfound : (found s).link.hold = false := found_hold s
    have hclear : HoldStaysClear (found s) (if ok p.length then f p (found s) else .error .badArgument) := by
      split
      · exact hhold _ hfound
      · exact hfound
    obtain ⟨w, hw⟩ := respond_answers (code := code) hclear
    exact ⟨_, w, rfl, hw⟩

/-- Settles O9: a reply that is a refusal is answered over the state in which its block found the part. -/
theorem refusedRequestChangesNothing : Obligations.RefusedRequestChangesNothing := by
  intro i code p s t st b hi hr ht hresp hst
  obtain ⟨ok, f, hexec⟩ := exec_request hi
  obtain ⟨hpin, hreceiver, hlen⟩ := hr
  rw [hexec, takeEvent_entered hpin, request_reply (s := entered s) code ok f p hreceiver hlen] at ht
  obtain rfl := Host.Outcome.next.inj ht
  obtain ⟨u, pl, -, hu⟩ | ⟨e, -, he⟩ := respond_cases (heard (entered s)) code
      (if ok p.length then f p (heard (entered s)) else .error .badArgument)
  · rw [hu, answer_link] at hresp
    cases hresp
    exact absurd rfl hst
  · rw [he, answer_link] at hresp
    cases hresp
    rw [he]
    exact answer_refused code hst _

end Sys2Proof.Claims
end

section
set_option Elab.async false
/-! PROOF. The fields of a payload, and what the earlier proofs need of `found`. -/

namespace Sys2Proof.Machine

open Sys2Proof

/-! ## Bytes (chapter 11) -/

/-- A number of any size, in `len` bytes, is read back modulo 256 ^ len. -/
theorem ofBytes_toBytes_mod (len n : Nat) : ofBytes (toBytes len n) = n % 256 ^ len := by
  induction len generalizing n with
  | zero => simp [ofBytes, toBytes, Nat.mod_one]
  | succ len ih =>
    have happend : ∀ (l : List Byte) (b : Byte), ofBytes (l ++ [b]) = ofBytes l * 256 + b.toNat := fun l b => by
      simp [ofBytes, List.foldl_append]
    have hmod : n % 256 ^ (len + 1) = n % 256 + 256 * (n / 256 % 256 ^ len) := by
      rw [Nat.pow_succ, Nat.mul_comm (256 ^ len) 256, Nat.mod_mul]
    rw [toBytes, happend, ih, BitVec.toNat_ofNat, hmod]
    omega

/-- A field that a payload's front spells. -/
theorem fieldAt_front (m n : Nat) (rest : List Byte) : fieldAt (toBytes m n ++ rest) 0 m = n % 256 ^ m := by
  rw [fieldAt, List.drop_zero, List.take_append_of_le_length (length_toBytes m n).ge,
    List.take_of_length_le (length_toBytes m n).le, ofBytes_toBytes_mod]

theorem fieldAt_whole (m n : Nat) : fieldAt (toBytes m n) 0 m = n % 256 ^ m := by
  simpa using fieldAt_front m n []

/-- A field behind a part of known length. -/
theorem fieldAt_append {a rest : List Byte} {off : Nat} (h : a.length ≤ off) (len : Nat) :
    fieldAt (a ++ rest) off len = fieldAt rest (off - a.length) len := by
  rw [fieldAt, fieldAt, List.drop_append, List.drop_of_length_le h, List.nil_append]

theorem fieldAt_skip {m off : Nat} (n : Nat) (rest : List Byte) (h : m ≤ off) (len : Nat) :
    fieldAt (toBytes m n ++ rest) off len = fieldAt rest (off - m) len := by
  rw [fieldAt_append (by simpa using h), length_toBytes]

theorem fieldAt_drop (p : List Byte) (k off len : Nat) : fieldAt (p.drop k) off len = fieldAt p (k + off) len := by
  rw [fieldAt, fieldAt, List.drop_drop]

theorem length_flatMap_byte (l : List Nat) : (l.flatMap (toBytes 1)).length = l.length := by
  induction l with
  | nil => rfl
  | cons n l ih => rw [List.flatMap_cons, List.length_append, ih, length_toBytes, List.length_cons, Nat.add_comm]

/-- The k-th of a row of one-byte fields. -/
theorem fieldAt_flatMap_byte {l : List Nat} {k : Nat} (hk : k < l.length) (rest : List Byte) :
    fieldAt (l.flatMap (toBytes 1) ++ rest) k 1 = l[k] % 256 := by
  induction l generalizing k with
  | nil => cases hk
  | cons n l ih =>
    rw [List.flatMap_cons, List.append_assoc]
    cases k with
    | zero => exact fieldAt_front 1 n _
    | succ k =>
      rw [fieldAt_skip n _ (Nat.succ_le_succ (Nat.zero_le k))]
      exact ih (Nat.lt_of_succ_lt_succ hk)

/-- What a payload holds behind a part of known length. -/
theorem drop_skip {a : List Byte} {m n : Nat} (ha : a.length = m) (h : m ≤ n) (rest : List Byte) :
    (a ++ rest).drop n = rest.drop (n - m) := by
  rw [List.drop_append, List.drop_of_length_le (ha ▸ h), List.nil_append, ha]

/-- A list of naturals has no member twice. -/
theorem distinct_iff_nodup (l : List Nat) : distinct l = true ↔ l.Nodup := by
  induction l with
  | nil => simp [distinct]
  | cons a l ih => simp [distinct, ih]

theorem flagOf_bit (b : Bool) : flagOf (if b then 1 else 0) = some b := by cases b <;> rfl

theorem Grade.ofNum_num (g : Grade) : Grade.ofNum g.num = some g := by cases g <;> rfl

theorem Grade.num_lt (g : Grade) : g.num < 256 := by cases g <;> decide

theorem bayOfNum_bayNum (k : BayId) : bayOfNum (bayNum k) = some k := by
  have hk := k.isLt
  have h : 1 ≤ bayNum k ∧ bayNum k ≤ 8 := by unfold bayNum; omega
  exact dif_pos h

theorem bayNum_lt (k : BayId) : bayNum k < 256 := by have := k.isLt; simp only [bayNum]; omega

/-! ## What a request leaves as it found it -/

open Claims

/-- Hearing a request acts on the line link and the order unit's interpreter, list and table alone. -/
theorem found_eq (s : State) : found s = { s with
    pulses := [], homed := []
    link := { s.link with watchdog := s.limits.watchdogStart, hold := false }
    orders := (found s).orders } := heard_frame (entered s)

variable (s : State)

@[simp] theorem found_pulses : (found s).pulses = [] := by rw [found_eq]
@[simp] theorem found_homed : (found s).homed = [] := by rw [found_eq]
@[simp] theorem found_resetPin : (found s).resetPin = s.resetPin := by rw [found_eq]
@[simp] theorem found_inputs : (found s).inputs = s.inputs := by rw [found_eq]
@[simp] theorem found_counters : (found s).counters = s.counters := by rw [found_eq]
@[simp] theorem found_geometry : (found s).geometry = s.geometry := by rw [found_eq]
@[simp] theorem found_limits : (found s).limits = s.limits := by rw [found_eq]
@[simp] theorem found_moulder : (found s).moulder = s.moulder := by rw [found_eq]
@[simp] theorem found_strips : (found s).strips = s.strips := by rw [found_eq]
@[simp] theorem found_matcher : (found s).matcher = s.matcher := by rw [found_eq]
@[simp] theorem found_chain : (found s).chain = s.chain := by rw [found_eq]
@[simp] theorem found_headSide : (found s).headSide = s.headSide := by rw [found_eq]
@[simp] theorem found_tailSide : (found s).tailSide = s.tailSide := by rw [found_eq]
@[simp] theorem found_calendar : (found s).calendar = s.calendar := by rw [found_eq]
@[simp] theorem found_bays : (found s).bays = s.bays := by rw [found_eq]
@[simp] theorem found_strapper : (found s).strapper = s.strapper := by rw [found_eq]
@[simp] theorem found_labelWait : (found s).labelWait = s.labelWait := by rw [found_eq]
@[simp] theorem found_bundleSerial : (found s).bundleSerial = s.bundleSerial := by rw [found_eq]
@[simp] theorem found_labels : (found s).labels = s.labels := by rw [found_eq]
@[simp] theorem found_head (h : HeadId) : (found s).head h = s.head h := by cases h <;> simp [State.head]
@[simp] theorem found_slot (n : Serial) : (found s).slot n = s.slot n := by simp [State.slot]
@[simp] theorem found_strip? (tag : Nat) : (found s).strip? tag = s.strip? tag := by simp [State.strip?]
@[simp] theorem found_calEntry (t : Serial) : (found s).calEntry t = s.calEntry t := by simp [State.calEntry]
@[simp] theorem found_serialAt (k : Nat) : (found s).serialAt k = s.serialAt k := by simp [State.serialAt]

@[simp] theorem found_startsAt (t : Serial) : (found s).startsAt t = s.startsAt t := by simp [State.startsAt, State.ringHolds]
@[simp] theorem found_windowStarts (t : Serial) (n : Nat) : (found s).windowStarts t n = s.windowStarts t n := by
  induction n generalizing t with
  | zero => rfl
  | succ n ih => rw [State.windowStarts, State.windowStarts, ih, found_startsAt]

/-- Hearing a request pauses, resumes or takes up: it leaves the recipes and the program. -/
theorem pauseChanged_stored : (pauseChanged s).orders.recipes = s.orders.recipes ∧
    (pauseChanged s).orders.program = s.orders.program := by
  obtain ⟨-, h⟩ | ⟨-, -, h⟩ | ⟨-, -, h⟩ := pauseChanged_cases s
  · rw [h]; unfold pauseInterp; split <;> exact ⟨rfl, rfl⟩
  · rw [h]; exact ⟨rfl, rfl⟩
  · rw [h]
    obtain h' | ⟨-, h'⟩ := takeUp_cases s
    · rw [h']; exact ⟨rfl, rfl⟩
    · rw [h']; unfold takeUpFront; split <;> exact ⟨rfl, rfl⟩

theorem heard_stored : (heard s).orders.recipes = s.orders.recipes ∧ (heard s).orders.program = s.orders.program := by
  cases h : s.link.hold with
  | false => rw [heard_clear s h]; exact ⟨rfl, rfl⟩
  | true => rw [heard_held h]; exact pauseChanged_stored _

@[simp] theorem found_recipes : (found s).orders.recipes = s.orders.recipes := (heard_stored (entered s)).1
@[simp] theorem found_program : (found s).orders.program = s.orders.program := (heard_stored (entered s)).2

/-! ## The answer of a command by the reply of its block -/

variable {s} {i : Instr} {code : Byte} {ok : Nat → Bool} {f : List Byte → State → Reply} {p : List Byte}

/-- A request that its block takes is answered OK. -/
theorem exec_taken {t : State} (he : exec i s = takeEvent (request code ok f p) s) (hr : Receives s p) (ho : ok p.length = true)
    (hf : f p (found s) = taken t) : exec i s = .next (okOf code [] t) :=
  he.trans (takeEvent_request_taken hr code ho hf)

/-- A request that its block replies to with a payload is answered OK with it. -/
theorem exec_replied {t : State} {pl : List Byte} (he : exec i s = takeEvent (request code ok f p) s) (hr : Receives s p)
    (ho : ok p.length = true) (hf : f p (found s) = .ok (t, pl)) : exec i s = .next (okOf code pl t) := by
  rw [he, takeEvent_request hr code f ho, hf]
  rfl

/-- A request that its block refuses is answered with the refusal. -/
theorem exec_refused {e : Status} (he : exec i s = takeEvent (request code ok f p) s) (hr : Receives s p)
    (ho : ok p.length = true) (hne : e ≠ .ok) (hf : f p (found s) = .error e) :
    exec i s = .next (refusedOf code e (found s)) :=
  he.trans (takeEvent_request_refused hr code ho hne hf)

end Sys2Proof.Machine
end

section
set_option Elab.async false
/-! PROOF. The configuration requests: tables, limits, recipes, bays and templates (O11 to O14). -/

namespace Sys2Proof.Machine

open Sys2Proof Claims

/-! ## The decision tables (R94, R95) -/

theorem length_gradeBytes (g : GradeEntry) : (gradeBytes g).length = 6 := by simp [gradeBytes]

theorem gradeEntryOf_gradeBytes {g : GradeEntry} (h : g.dmax ≤ 65535 ∧ 1 ≤ g.price ∧ g.price ≤ 65535) (rest : List Byte) :
    gradeEntryOf (gradeBytes g ++ rest) = some g := by
  obtain ⟨hdmax, hprice, hlimit⟩ := h
  have hflag : (if g.enabled then 1 else 0) % 256 ^ 1 = if g.enabled then 1 else 0 := by split <;> rfl
  have hset := g.forbidden.isLt
  have h1 : g.dmax % 256 ^ 2 = g.dmax := Nat.mod_eq_of_lt (by omega)
  have h2 : g.forbidden.toNat % 256 ^ 1 = g.forbidden.toNat := Nat.mod_eq_of_lt (by omega)
  have h3 : g.price % 256 ^ 2 = g.price := Nat.mod_eq_of_lt (by omega)
  simp only [gradeEntryOf, gradeBytes, List.append_assoc, fieldAt_front, fieldAt_skip, Nat.le_refl, Nat.reduceLeDiff,
    Nat.reduceSub, hflag, flagOf_bit, h1, h2, h3, BitVec.ofNat_toNat, BitVec.setWidth_eq]
  rw [if_neg (by omega)]

theorem length_pointsBytes (c : ClassPoints) : (pointsBytes c).length = 8 := by simp [pointsBytes]

theorem classPointsOf_pointsBytes {c : ClassPoints} (h : PointsBounds c) (rest : List Byte) :
    classPointsOf (pointsBytes c ++ rest) = some c := by
  obtain ⟨hs1, hs2, hs3, hs, hp0, hp1, hp2, hp3⟩ := h
  have hflag : (if c.endSensitive then 1 else 0) % 256 ^ 1 = if c.endSensitive then 1 else 0 := by split <;> rfl
  have hbyte : ∀ n, n ≤ 255 → n % 256 ^ 1 = n := fun n hn => Nat.mod_eq_of_lt (by omega)
  simp only [classPointsOf, pointsBytes, List.append_assoc, fieldAt_front, fieldAt_skip, Nat.le_refl, Nat.reduceLeDiff,
    Nat.reduceSub, hflag, flagOf_bit, hbyte c.s1 (by omega), hbyte c.s2 (by omega), hbyte c.s3 hs, hbyte c.p0 hp0,
    hbyte c.p1 hp1, hbyte c.p2 hp2, hbyte c.p3 hp3]
  rw [if_neg (by simp only [Bool.or_eq_true, decide_eq_true_eq]; omega)]

/-! ## The spindle limits (R32, R33) -/

theorem Spindle.isWorn_eq (w : Spindle) : w.isWorn = decide (w.warn ≤ w.wear) := by
  simp only [Spindle.isWorn, Spindle.state]
  split
  · simp; omega
  · split <;> simp <;> omega

theorem Spindle.isSpent_eq (w : Spindle) : w.isSpent = decide (w.warn ≤ w.wear ∧ w.limit ≤ w.wear) := by
  simp only [Spindle.isSpent, Spindle.state]
  split
  · simp; omega
  · split <;> simp <;> omega

/-- A spindle with its marks formed again (R32). -/
def Spindle.marked (w : Spindle) : Spindle := { w with worn := w.worn || w.isWorn, spent := w.spent || w.isSpent }

/-- The bit of a notice that is raised under a condition. -/
def Notice.bitIf (n : Notice) (b : Bool) : BitVec 17 := if b then n.bit else 0

theorem Notice.bitIf_or (n : Notice) (a b : Bool) : n.bitIf a ||| n.bitIf b = n.bitIf (a || b) := by
  cases a <;> cases b <;> simp [Notice.bitIf]

/-- A spindle that is put raises its notices under clear marks (R32). -/
theorem putSpindle_eq (s : State) (i : SpindleId) (w : Spindle) : putSpindle s i w = { s with
    moulder := s.moulder.setSpindle i (Spindle.marked w)
    link := { s.link with notices := (s.link.notices ||| Notice.bitIf .spindleWorn (w.isWorn && !w.worn)
      ||| Notice.bitIf .spindleSpent (w.isSpent && !w.spent)) } } := by
  cases hw : (w.isWorn && !w.worn) <;> cases hs : (w.isSpent && !w.spent) <;>
    simp [putSpindle, hw, hs, State.raise, Notice.bitIf, Spindle.marked]

theorem mem_allSpindles (i : SpindleId) : i ∈ allSpindles := by cases i <;> decide

/-- A condition on some spindle, spelled out. -/
theorem exists_spindle (p : SpindleId → Bool) :
    (∃ i ∈ allSpindles, p i = true) ↔ (p .top || p .bottom || p .tongue || p .groove) = true := by
  simp [allSpindles, or_assoc]

/-- The four spindles put in their order are formed again together (R32). -/
theorem putSpindles_eq_respun (x : State) (f : SpindleId → Spindle → Spindle) :
    allSpindles.foldl (fun s i => putSpindle s i (f i (s.moulder.spindle i))) x = respun x f := by
  have hworn : ∀ w : Spindle, (decide (w.worn = false ∧ (w.worn || decide (w.warn ≤ w.wear)) = true)) = (w.isWorn && !w.worn) :=
    fun w => by rw [← Spindle.isWorn_eq]; cases w.worn <;> cases w.isWorn <;> rfl
  have hspent : ∀ w : Spindle, (decide (w.spent = false ∧
      (w.spent || decide (w.warn ≤ w.wear ∧ w.limit ≤ w.wear)) = true)) = (w.isSpent && !w.spent) :=
    fun w => by rw [← Spindle.isSpent_eq]; cases w.spent <;> cases w.isSpent <;> rfl
  have hraised : ∀ (n : Notice) (p : SpindleId → Prop) [DecidablePred p] (q : SpindleId → Bool), (∀ i, decide (p i) = q i) →
      (if ∃ i ∈ allSpindles, p i then n.bit else 0) =
        n.bitIf (q .top) ||| n.bitIf (q .bottom) ||| n.bitIf (q .tongue) ||| n.bitIf (q .groove) := by
    intro n p _ q hq
    have hp : (∃ i ∈ allSpindles, p i) ↔ ∃ i ∈ allSpindles, q i = true := by
      simp only [← hq, decide_eq_true_eq]
    rw [Notice.bitIf_or, Notice.bitIf_or, Notice.bitIf_or, if_congr (hp.trans (exists_spindle q)) rfl rfl]
    rfl
  unfold respun
  dsimp only
  rw [hraised .spindleWorn _ _ fun i => hworn (f i (x.moulder.spindle i)),
    hraised .spindleSpent _ _ fun i => hspent (f i (x.moulder.spindle i))]
  simp only [allSpindles, List.foldl_cons, List.foldl_nil, putSpindle_eq, Moulder.setSpindle, Moulder.spindle, Spindle.marked,
    Spindle.isWorn_eq, Spindle.isSpent_eq]
  congr 2
  ac_rfl

theorem thresholdsOf_bytes {w l : Nat} (h : 1 ≤ w ∧ w < l ∧ l ≤ 4294967295) (rest : List Byte) :
    thresholdsOf (toBytes 4 w ++ (toBytes 4 l ++ rest)) = some (w, l) := by
  obtain ⟨hw, hl, hlimit⟩ := h
  have h1 : w % 256 ^ 4 = w := Nat.mod_eq_of_lt (by omega)
  have h2 : l % 256 ^ 4 = l := Nat.mod_eq_of_lt (by omega)
  simp only [thresholdsOf, fieldAt_front, fieldAt_skip, Nat.le_refl, Nat.reduceSub, h1, h2]
  rw [if_neg (by simp only [Bool.or_eq_true, decide_eq_true_eq]; omega)]

theorem derateOf_eq {n : Nat} (h : n ≤ 15) : derateOf n = some n := if_pos h

/-- SET SPINDLE LIMITS reads the values of its payload (R33). -/
theorem setSpindleLimits_bytes {w l : SpindleId → Nat} {top bottom : Nat} (tongue groove : Grade) (s : State)
    (h : ∀ i, 1 ≤ w i ∧ w i < l i ∧ l i ≤ 4294967295) (ht : top ≤ 15) (hb : bottom ≤ 15) :
    setSpindleLimits (Claims.spindleBytes w l top bottom tongue groove) s = taken (respun
      { s with moulder := { s.moulder with
          derateTop := top, derateBottom := bottom, capTongue := tongue, capGroove := groove } }
      fun i spindle => { spindle with warn := w i, limit := l i }) := by
  have hbyte : ∀ n, n < 256 → n % 256 ^ 1 = n := fun n hn => Nat.mod_eq_of_lt (by omega)
  have hdrop : ∀ (m a b : Nat) (rest : List Byte), (toBytes 4 a ++ (toBytes 4 b ++ rest)).drop (m + 8) = rest.drop m := by
    intro m a b rest
    rw [drop_skip (length_toBytes 4 a) (by omega), drop_skip (length_toBytes 4 b) (by omega)]
    congr 1
  unfold setSpindleLimits Claims.spindleBytes
  simp only [List.append_assoc, thresholdsOf_bytes (h _)]
  rw [hdrop 0, hdrop 8, hdrop 0, hdrop 16, hdrop 8, hdrop 0]
  simp only [List.drop_zero, thresholdsOf_bytes (h _), fieldAt_front, fieldAt_whole, fieldAt_skip, Nat.le_refl,
    Nat.reduceLeDiff, Nat.reduceSub, hbyte top (by omega), hbyte bottom (by omega), hbyte _ (Grade.num_lt tongue),
    hbyte _ (Grade.num_lt groove), derateOf_eq ht, derateOf_eq hb, Grade.ofNum_num]
  rw [← putSpindles_eq_respun]
  rfl

/-! ## SET LIMITS (R198) -/

theorem limitsOf_limitsBytes {l : Limits} (h : LimitsRanges l) : limitsOf (limitsBytes l) = l := by
  obtain ⟨⟨-, h1⟩, ⟨-, h2⟩, ⟨-, h3⟩, h4, h5, h6, h7, ⟨-, h8⟩, ⟨-, h9⟩, ⟨-, h10⟩, ⟨-, h11⟩, h12⟩ := h
  have hbyte : ∀ n, n < 256 → n % 256 ^ 1 = n := fun n hn => Nat.mod_eq_of_lt (by omega)
  have hpair : ∀ n, n < 65536 → n % 256 ^ 2 = n := fun n hn => Nat.mod_eq_of_lt (by omega)
  simp only [limitsOf, limitsBytes, List.append_assoc, fieldAt_front, fieldAt_whole, fieldAt_skip, Nat.le_refl,
    Nat.reduceLeDiff, Nat.reduceSub, hpair l.moisture (by omega), hbyte l.speed (by omega), hbyte l.lpark (by omega),
    hbyte l.boost (by omega), hbyte l.zone (by omega), hpair l.tp (by omega), hbyte l.tl (by omega), hpair l.tt (by omega),
    hbyte l.window (by omega), hbyte l.air (by omega), hpair l.strapTimeout (by omega), hpair l.watchdog (by omega)]

theorem within_iff (a b n : Nat) : within a b n = true ↔ a ≤ n ∧ n ≤ b := by simp [within]

theorem inRange_of_ranges {l : Limits} (h : LimitsRanges l) : l.inRange = true := by
  obtain ⟨h1, h2, h3, h4, h5, h6, h7, h8, h9, h10, h11, h12⟩ := h
  simp only [Limits.inRange, Bool.and_eq_true, Bool.or_eq_true, within_iff, decide_eq_true_eq]
  exact ⟨⟨⟨⟨⟨⟨⟨⟨⟨⟨⟨h1, h2⟩, h3⟩, ⟨Nat.zero_le _, h4⟩⟩, ⟨Nat.zero_le _, h5⟩⟩, ⟨Nat.zero_le _, h6⟩⟩, ⟨Nat.zero_le _, h7⟩⟩, h8⟩,
    h9⟩, h10⟩, h11⟩, h12⟩

theorem planned_eq_true_iff (s : State) : s.planned = true ↔ s.headSide.plan ≠ [] ∨ s.tailSide.plan ≠ [] := by
  simp [State.planned]

/-- The windows of the ring that a change of the air limits tests (R118). -/
theorem windowsMeet_iff (s : State) {w : Nat} (hw : w ≤ 16) (a : Nat) : s.windowsMeet w a = true ↔
    ∀ i, i + w ≤ 64 → s.windowStarts (s.serialAt 15 + BitVec.ofNat 32 i) w ≤ a := by
  simp only [State.windowsMeet, List.all_eq_true, List.mem_range, Config.calendarTicks, Config.calendarPast]
  exact ⟨fun h i hi => of_decide_eq_true (h i (by omega)), fun h i hi => decide_eq_true (h i (by omega))⟩

theorem setLimits_slower {l : Limits} (h : LimitsRanges l) {s : State} (hs : l.speed < s.limits.speed) (hp : s.planned = true) :
    setLimits (limitsBytes l) s = .error .wrongState := by
  simp [setLimits, limitsOf_limitsBytes h, inRange_of_ranges h, hs, hp]

theorem setLimits_of_fits {l : Limits} (h : LimitsRanges l) {s : State} (hs : s.limits.speed ≤ l.speed ∨ s.planned = false) :
    setLimits (limitsBytes l) s = if s.airChangeFits l.window l.air then taken (restartWatchdog { s with limits := l })
      else .error .wrongState := by
  have hslow : ¬ ((decide (l.speed < s.limits.speed) && s.planned) = true) := by
    rintro hc
    rw [Bool.and_eq_true, decide_eq_true_eq] at hc
    obtain h1 | h1 := hs
    · omega
    · rw [h1] at hc; exact Bool.noConfusion hc.2
  simp only [setLimits, limitsOf_limitsBytes h, inRange_of_ranges h, Bool.not_true, Bool.false_eq_true, if_false, if_neg hslow,
    Bool.not_eq_true']
  cases s.airChangeFits l.window l.air <;> rfl

end Sys2Proof.Machine

namespace Sys2Proof.Claims

open Sys2Proof Sys2Proof.Machine

/-- Settles O11: each entry of the payload is read back at its place. -/
theorem setDecisionTables : Obligations.SetDecisionTables := by
  intro s
  refine ⟨fun a b c d => ?_, fun a b c d e f g h => ?_⟩
  · intro p hr h
    have ha := gradeEntryOf_gradeBytes (h a (by simp))
    have hb := gradeEntryOf_gradeBytes (h b (by simp))
    have hc := gradeEntryOf_gradeBytes (h c (by simp))
    have hd := gradeEntryOf_gradeBytes (h d (by simp))
    refine exec_taken (f := setGradeTable) rfl hr (by simp [p, length_gradeBytes]) ?_
    simp only [p, setGradeTable, List.append_assoc, ha, drop_skip (length_gradeBytes _), Nat.le_refl, Nat.reduceLeDiff,
      Nat.reduceSub, List.drop_zero, hb, hc]
    rw [← List.append_nil (gradeBytes d), hd]
  · intro p hr hb
    have hread : ∀ q ∈ [a, b, c, d, e, f, g, h], ∀ rest, classPointsOf (pointsBytes q ++ rest) = some q := fun q hq =>
      classPointsOf_pointsBytes (hb q hq)
    refine exec_taken (f := setPointsTable) rfl hr (by simp [p, length_pointsBytes]) ?_
    simp only [p, setPointsTable, List.flatMap_cons, List.flatMap_nil, drop_skip (length_pointsBytes _), Nat.le_refl,
      Nat.reduceLeDiff, Nat.reduceSub, List.drop_zero, hread _ (List.mem_cons_self), List.mem_cons, true_or, or_true, hread]

/-- Settles O12: the four spindles are put with their new thresholds. -/
theorem setSpindleLimitsReforms : Obligations.SetSpindleLimitsReforms := by
  intro s w l top bottom tongue groove p hr h ht hb
  rw [← found_moulder s]
  exact exec_taken (f := setSpindleLimits) rfl hr (by simp [p, Claims.spindleBytes])
    (setSpindleLimits_bytes tongue groove (found s) h ht hb)

/-- Settles O13, in the order of the tests: the ranges, the speed under a queued entry, the air windows. -/
theorem setLimitsReplacesAll : Obligations.SetLimitsReplacesAll := by
  intro s l hr hl
  have hlen : decide ((limitsBytes l).length = 17) = true := by simp [limitsBytes]
  have hmeet : (found s).windowsMeet l.window l.air = s.windowsMeet l.window l.air := by
    simp [State.windowsMeet]
  have hplanned : (found s).planned = s.planned := by simp [State.planned]
  have hwindow := windowsMeet_iff s hl.window.2 l.air
  refine ⟨fun ⟨hs, hp⟩ => ?_, fun hs => ?_⟩
  · refine exec_refused (f := setLimits) rfl hr hlen (by decide) (setLimits_slower hl (by simpa using hs) ?_)
    rw [hplanned]
    exact (planned_eq_true_iff s).mpr hp
  have hfits : setLimits (limitsBytes l) (found s) = if (found s).airChangeFits l.window l.air then
      taken (restartWatchdog { found s with limits := l }) else .error .wrongState := by
    refine setLimits_of_fits hl (hs.imp (by simpa using ·) fun hp => ?_)
    rw [hplanned, ← Bool.not_eq_true, planned_eq_true_iff]
    simp [hp]
  refine ⟨fun h => ?_, fun i hchange hi hair => ?_⟩
  · refine exec_taken (f := setLimits) rfl hr hlen ?_
    rw [hfits, if_pos]
    · rfl
    unfold State.airChangeFits
    rw [hmeet, found_limits]
    split
    next hc => exact hwindow.mpr (h.resolve_left fun hn => by omega)
    · rfl
  · refine exec_refused (f := setLimits) rfl hr hlen (by decide) ?_
    rw [hfits, if_neg]
    unfold State.airChangeFits
    rw [hmeet, found_limits, if_pos hchange, hwindow]
    exact fun hall => absurd (hall i hi) (not_le.mpr hair)

end Sys2Proof.Claims
end

section
set_option Elab.async false
/-! PROOF. Recipes, bays, templates and the geometry (O10, O14). -/

namespace Sys2Proof.Machine

open Sys2Proof Claims

/-! ## SET RECIPE (R154) -/

theorem sum_le_of_all (l : List Nat) {m : Nat} (h : ∀ n ∈ l, n ≤ m) : ∀ n ∈ l, n < m + 1 := fun n hn => Nat.lt_succ_of_le (h n hn)

/-- A row of one-byte fields is read back as the vector it came from. -/
theorem ofFn_fieldAt_row {n : Nat} {v : Vector Nat n} (hv : ∀ i : Fin n, v[i] < 256) (off : Nat) {p rest : List Byte}
    (hp : ∀ k, fieldAt p (off + k) 1 = fieldAt (v.toList.flatMap (toBytes 1) ++ rest) k 1) :
    (Vector.ofFn fun i : Fin n => fieldAt p (off + i.val) 1) = v := by
  refine Vector.ext fun i hi => ?_
  have hlen : i < v.toList.length := by simpa using hi
  rw [Vector.getElem_ofFn, hp, fieldAt_flatMap_byte hlen]
  simpa using Nat.mod_eq_of_lt (hv ⟨i, hi⟩)

theorem recipeOf_recipePayload (i : Fin 32) {r : Recipe} (h : RecipeRanges r) :
    recipeOf (recipePayload i r) = some r ∧ fieldAt (recipePayload i r) 0 1 = i.val := by
  obtain ⟨hspecies, hprofile, hwidth, hgrades, htarget, hquotas, hroom⟩ := h
  have hbyte : ∀ n, n < 256 → n % 256 ^ 1 = n := fun n hn => Nat.mod_eq_of_lt (by omega)
  have hset := r.grades.isLt
  have htemplate := r.template.isLt
  have hindex := i.isLt
  have hlen : (r.quotas.toList.flatMap (toBytes 1)).length = 12 := by simp
  have hquota : (Vector.ofFn fun k : Fin 12 => fieldAt (recipePayload i r) (6 + k.val) 1) = r.quotas := by
    refine ofFn_fieldAt_row (rest := toBytes 1 r.template.val) (fun k => Nat.lt_of_le_of_lt (hquotas k) (by decide)) 6
      fun k => ?_
    simp only [recipePayload, List.append_assoc]
    rw [fieldAt_skip _ _ (by omega), fieldAt_skip _ _ (by omega), fieldAt_skip _ _ (by omega), fieldAt_skip _ _ (by omega),
      fieldAt_skip _ _ (by omega), fieldAt_skip _ _ (by omega)]
    congr 1
    omega
  have hlast : fieldAt (recipePayload i r) 18 1 = r.template.val := by
    simp only [recipePayload, List.append_assoc, fieldAt_skip, Nat.reduceLeDiff, Nat.reduceSub]
    rw [fieldAt_append (by rw [hlen]), hlen]
    exact (fieldAt_whole 1 r.template.val).trans (hbyte _ (by omega))
  have h0 : fieldAt (recipePayload i r) 0 1 = i.val := by
    simp only [recipePayload, List.append_assoc, fieldAt_front]
    exact hbyte _ (by omega)
  refine ⟨?_, h0⟩
  have hfields : fieldAt (recipePayload i r) 1 1 = r.species ∧ fieldAt (recipePayload i r) 2 1 = r.profile ∧
      fieldAt (recipePayload i r) 3 1 = r.width ∧ fieldAt (recipePayload i r) 4 1 = r.grades.toNat ∧
      fieldAt (recipePayload i r) 5 1 = r.target := by
    simp only [recipePayload, List.append_assoc, fieldAt_front, fieldAt_skip, Nat.le_refl, Nat.reduceLeDiff, Nat.reduceSub]
    exact ⟨hbyte _ (by omega), hbyte _ (by omega), hbyte _ (by omega), hbyte _ (by omega), hbyte _ (by omega)⟩
  obtain ⟨h1, h2, h3, h4, h5⟩ := hfields
  have hall : r.quotas.toList.all (fun q => decide (q ≤ 64)) = true := by
    rw [List.all_eq_true]
    intro q hq
    obtain ⟨k, hk, rfl⟩ := List.getElem_of_mem hq
    exact decide_eq_true (by simpa using hquotas ⟨k, by simpa using hk⟩)
  unfold recipeOf
  simp only [h1, h2, h3, h4, h5, hlast, hquota, setOf_toNat, htemplate, dif_pos, Fin.eta]
  rw [if_pos]
  simp only [Bool.and_eq_true, within_iff, decide_eq_true_eq, hall, and_true]
  exact ⟨⟨⟨⟨⟨hspecies, hprofile⟩, hwidth⟩, hgrades⟩, htarget⟩, hroom⟩

/-! ## SET TEMPLATE (R177, R178) -/

theorem isPrintable_iff (b : Byte) : isPrintable b = true ↔ 0x20 ≤ b.toNat ∧ b.toNat ≤ 0x7E := by simp [isPrintable, within]

theorem templateByte_iff (b : Byte) : templateByte b = true ↔ AllowedByte b := by
  have hline : b.toNat = 0x0A ↔ b = 0x0A#8 := by rw [← BitVec.toNat_inj]; rfl
  simp [templateByte, isPrintable, within, AllowedByte, hline, or_assoc]

theorem templateOk_of {b : List Byte} (hne : b ≠ []) (hlen : b.length ≤ 192) (hall : ∀ x ∈ b, AllowedByte x)
    (hlast : ∀ x ∈ b.dropLast, x ≠ 0x8B#8) : templateOk b = true := by
  simp only [templateOk, Bool.and_eq_true, decide_eq_true_eq, List.all_eq_true]
  exact ⟨⟨⟨hne, hlen⟩, fun x hx => (templateByte_iff x).mpr (hall x hx)⟩, hlast⟩

theorem setTemplate_form (i : Fin 4) {b : List Byte} (h : templateOk b = true) (s : State) :
    setTemplate (0#8 :: BitVec.ofNat 8 i.val :: b) s =
      taken { s with labels := { s.labels with templates := s.labels.templates.set i (some b) } } := by
  have hi := i.isLt
  have h0 : fieldAt (0#8 :: BitVec.ofNat 8 i.val :: b) 0 1 = 0 := rfl
  have h1 : fieldAt (0#8 :: BitVec.ofNat 8 i.val :: b) 1 1 = i.val := by
    simp [fieldAt, ofBytes]
    omega
  simp only [setTemplate, h0, templateForm, h1, hi, dif_pos, List.drop_succ_cons, List.drop_zero, h, if_true]

theorem setTemplate_millId {m : List Byte} (hlen : m.length = 4) (h : ∀ x ∈ m, 0x20 ≤ x.toNat ∧ x.toNat ≤ 0x7E) (s : State) :
    setTemplate (1#8 :: m) s = taken { s with labels := { s.labels with millId := m } } := by
  have h0 : fieldAt (1#8 :: m) 0 1 = 1 := rfl
  have hall : m.all isPrintable = true := List.all_eq_true.mpr fun x hx => (isPrintable_iff x).mpr (h x hx)
  simp [setTemplate, h0, millIdForm, hlen, hall]

/-! ## SET GEOMETRY (R196, R197) -/

theorem GeometryBounds.inBounds {g : Geometry} (h : GeometryBounds g) : g.inBounds = true := by
  obtain ⟨hdm, hds, ⟨hdt, hdt', hdt''⟩, ⟨hv, hd, he, hed, hx⟩, hbays, hdistinct⟩ := h
  have hall : g.bays.toList.all (fun b => decide (g.e < b) && decide (b < g.x) && decide (b ≤ g.d + 48)) = true := by
    rw [List.all_eq_true]
    intro b hb
    obtain ⟨k, hk, rfl⟩ := List.getElem_of_mem hb
    have hb := hbays ⟨k, by simpa using hk⟩
    simpa [and_assoc] using hb
  have hnodup : distinct g.bays.toList = true := by
    rw [distinct_iff_nodup, List.nodup_iff_injective_get]
    intro a b hab
    by_contra hne
    have ha : a.val < 8 := by simpa using a.isLt
    have hb : b.val < 8 := by simpa using b.isLt
    refine hdistinct ⟨a.val, ha⟩ ⟨b.val, hb⟩ (fun h => hne (Fin.ext (Fin.mk.inj h))) ?_
    simpa using hab
  simp only [Geometry.inBounds, Bool.and_eq_true, decide_eq_true_eq, hall, hnodup, and_true]
  omega

theorem geometryOf_geometryBytes {g : Geometry} (h : GeometryBounds g) : geometryOf (geometryBytes g) = g := by
  obtain ⟨hdm, hds, ⟨hdt, hdt', hdt''⟩, ⟨hv, hd, he, hed, hx⟩, hbays, -⟩ := h
  have hbyte : ∀ n, n < 256 → n % 256 ^ 1 = n := fun n hn => Nat.mod_eq_of_lt (by omega)
  have hpair : ∀ n, n < 65536 → n % 256 ^ 2 = n := fun n hn => Nat.mod_eq_of_lt (by omega)
  have hbay := hbays 0
  have hlen : (g.bays.toList.flatMap (toBytes 1)).length = 8 := by simp
  have hrow : (Vector.ofFn fun k : BayId => fieldAt (geometryBytes g) (9 + k.val) 1) = g.bays := by
    refine ofFn_fieldAt_row (rest := toBytes 1 g.x) (fun k => by have := hbays k; omega) 9 fun k => ?_
    simp only [geometryBytes, List.append_assoc]
    rw [fieldAt_skip _ _ (by omega), fieldAt_skip _ _ (by omega), fieldAt_skip _ _ (by omega), fieldAt_skip _ _ (by omega),
      fieldAt_skip _ _ (by omega), fieldAt_skip _ _ (by omega)]
    congr 1
    omega
  have hlast : fieldAt (geometryBytes g) 17 1 = g.x := by
    simp only [geometryBytes, List.append_assoc, fieldAt_skip, Nat.reduceLeDiff, Nat.reduceSub]
    rw [fieldAt_append (by rw [hlen]), hlen]
    exact (fieldAt_whole 1 g.x).trans (hbyte _ (by omega))
  have hfields : fieldAt (geometryBytes g) 0 2 = g.dm ∧ fieldAt (geometryBytes g) 2 2 = g.ds ∧
      fieldAt (geometryBytes g) 4 2 = g.dt ∧ fieldAt (geometryBytes g) 6 1 = g.v ∧ fieldAt (geometryBytes g) 7 1 = g.d ∧
      fieldAt (geometryBytes g) 8 1 = g.e := by
    simp only [geometryBytes, List.append_assoc, fieldAt_front, fieldAt_skip, Nat.le_refl, Nat.reduceLeDiff, Nat.reduceSub]
    exact ⟨hpair _ (by omega), hpair _ (by omega), hpair _ (by omega), hbyte _ (by omega), hbyte _ (by omega),
      hbyte _ (by omega)⟩
  obtain ⟨h1, h2, h3, h4, h5, h6⟩ := hfields
  simp only [geometryOf, h1, h2, h3, h4, h5, h6, hlast, hrow]

/-- A reset head: a READY one goes to HOMING with step 0 sent, any other loses its entries (R120, R121). -/
theorem resetHead_ready {s : State} {h : HeadId} (hs : (s.head h).state = .ready) : resetHead s h =
    (s.updHead h fun r => { r with state := .homing, plan := [], reference := none, commanded := 0, inPosition := false }).pulse
      (.step h 0) := by
  simp only [resetHead, hs]
  cases h <;> rfl

theorem resetHead_other {s : State} {h : HeadId} (hs : (s.head h).state ≠ .ready) :
    resetHead s h = s.updHead h fun r => { r with plan := [] } := by
  unfold resetHead
  split
  next hr => exact absurd hr hs
  · rfl

/-- Resetting a head acts on it and on the pulses. -/
theorem resetHead_frame (s : State) (h : HeadId) : resetHead s h = { s with
    headSide := (resetHead s h).headSide, tailSide := (resetHead s h).tailSide, pulses := (resetHead s h).pulses } := by
  by_cases hs : (s.head h).state = .ready
  · rw [resetHead_ready hs]; cases h <;> rfl
  · rw [resetHead_other hs]; cases h <;> rfl

/-- The record of a head that has been reset (R120, R121). -/
def Head.wasReset (r : Head) : Head :=
  if r.state = .ready then { r with state := .homing, plan := [], reference := none, commanded := 0, inPosition := false }
  else { r with plan := [] }

theorem head_resetHead (s : State) (h : HeadId) : (resetHead s h).head h = (s.head h).wasReset := by
  by_cases hs : (s.head h).state = .ready
  · rw [resetHead_ready hs, Head.wasReset, if_pos hs]; simp
  · rw [resetHead_other hs, Head.wasReset, if_neg hs]; simp

theorem head_resetHead_ne (s : State) {h g : HeadId} (hg : g ≠ h) : (resetHead s h).head g = s.head g := by
  by_cases hs : (s.head h).state = .ready
  · rw [resetHead_ready hs, State.head_pulse, State.head_updHead_ne _ hg]
  · rw [resetHead_other hs, State.head_updHead_ne _ hg]

theorem head_resetHeads (s : State) (h : HeadId) :
    (resetHead (resetHead s .headSide) .tailSide).head h = (s.head h).wasReset := by
  cases h with
  | tailSide => rw [head_resetHead, head_resetHead_ne s (by decide)]
  | headSide => rw [head_resetHead_ne _ (by decide), head_resetHead]

theorem wasReset_of_ready {r : Head} (h : r.state = .ready) : r.wasReset.state = .homing ∧ r.wasReset.commanded = 0 ∧
    r.wasReset.inPosition = false ∧ r.wasReset.reference = none := by
  rw [Head.wasReset, if_pos h]
  exact ⟨rfl, rfl, rfl, rfl⟩

theorem wasReset_of_not_ready {r : Head} (h : r.state ≠ .ready) : r.wasReset = { r with plan := [] } := if_neg h

theorem wasReset_plan (r : Head) : r.wasReset.plan = [] := by
  unfold Head.wasReset
  split <;> rfl

theorem setGeometry_bytes {g : Geometry} (h : GeometryBounds g) {s : State} (hl : s.link.line ≠ .running) (hs : s.strips = []) :
    setGeometry (geometryBytes g) s = taken (acceptGeometry g s) := by
  simp [setGeometry, geometryOf_geometryBytes h, GeometryBounds.inBounds h, hl, hs]

/-- What an accepted SET GEOMETRY touches. -/
theorem acceptGeometry_frame (g : Geometry) (s : State) : acceptGeometry g s = { s with
    link := { s.link with line := if s.link.line = .unconfigured then .stopped else s.link.line }
    geometry := g
    headSide := s.headSide.wasReset
    tailSide := s.tailSide.wasReset
    pulses := (acceptGeometry g s).pulses
    calendar := Vector.ofFn fun i => { s.calendar[i] with planned := 0 }
    chain := { s.chain with slots := Vector.replicate 64 .clear }
    lineal := { s.lineal with passage := s.lineal.passage.map fun a => { a with tag := none } } } := by
  have hheads : ∀ u : State, resetHead (resetHead u .headSide) .tailSide = { u with
      headSide := u.headSide.wasReset, tailSide := u.tailSide.wasReset
      pulses := (resetHead (resetHead u .headSide) .tailSide).pulses } := by
    intro u
    have hh : (resetHead (resetHead u .headSide) .tailSide).headSide = u.headSide.wasReset := head_resetHeads u .headSide
    have ht : (resetHead (resetHead u .headSide) .tailSide).tailSide = u.tailSide.wasReset := head_resetHeads u .tailSide
    have hframe := (resetHead_frame (resetHead u .headSide) .tailSide)
    rw [hh, ht] at hframe
    rw [hframe, resetHead_frame u .headSide]
  unfold acceptGeometry State.setPassage State.updChain State.clearPlanned
  dsimp only
  rw [hheads]
  rfl

end Sys2Proof.Machine

namespace Sys2Proof.Claims

open Sys2Proof Sys2Proof.Machine

/-- Settles O14: each payload is read back, and its block takes it or refuses it. -/
theorem setRecipesBaysAndTemplates : Obligations.SetRecipesBaysAndTemplates := by
  intro s
  refine ⟨fun i r hr h => ?_, fun k n => ?_, fun i b hr hne hlen hall hlast => ?_, fun m hr hlen h => ?_⟩
  · obtain ⟨hrecipe, hindex⟩ := recipeOf_recipePayload i h
    have hlen : decide ((recipePayload i r).length = 19) = true := by simp [recipePayload]
    have hreply : setRecipe (recipePayload i r) (found s) = if (s.labels.templates[r.template]).isSome then
        taken { found s with orders := { (found s).orders with recipes := (found s).orders.recipes.set i (some r) } }
        else .error .badArgument := by
      have hi := i.isLt
      simp only [setRecipe, hrecipe, hindex, hi, dif_pos, found_labels]
    split
    next hsome => exact exec_taken (f := setRecipe) rfl hr hlen (hreply.trans (if_pos hsome))
    next hnone => exact exec_refused (f := setRecipe) rfl hr hlen (by decide) (hreply.trans (if_neg hnone))
  · intro p hr h50 h2000
    have hfield : fieldAt p 0 1 = bayNum k ∧ fieldAt p 1 2 = n := by
      simp only [p, fieldAt_front, fieldAt_skip, fieldAt_whole, Nat.le_refl, Nat.sub_self]
      exact ⟨Nat.mod_eq_of_lt (bayNum_lt k), Nat.mod_eq_of_lt (by omega)⟩
    obtain ⟨hbay, hn⟩ := hfield
    refine exec_taken (f := setBay) rfl hr (by simp [p]) ?_
    simp only [setBay, hbay, hn, bayOfNum_bayNum, (within_iff 50 2000 n).mpr ⟨h50, h2000⟩, if_true]
    simp only [State.updBay, found_bays, found_bay]
  · intro p t
    have hform := setTemplate_form i (templateOk_of hne hlen hall hlast) (found s)
    rw [found_labels] at hform
    have hpos : 0 < b.length := List.length_pos_iff.mpr hne
    have hok : within 2 194 p.length = true := (within_iff _ _ _).mpr (by simp [p]; omega)
    exact ⟨exec_taken (ok := within 2 194) (f := setTemplate) rfl hr hok hform,
      exec_taken (ok := within 2 194) (f := setTemplate) rfl hr hok hform⟩
  · intro t
    have hform := setTemplate_millId hlen h (found s)
    rw [found_labels] at hform
    have hok : within 2 194 (1#8 :: m).length = true := (within_iff _ _ _).mpr (by simp [hlen])
    exact ⟨exec_taken (ok := within 2 194) (f := setTemplate) rfl hr hok hform,
      exec_taken (ok := within 2 194) (f := setTemplate) rfl hr hok hform⟩

/-- Settles O10: the payload is the geometry, and its acceptance touches what R197 and R121 name. -/
theorem setGeometryAccepted : Obligations.SetGeometryAccepted := by
  intro s g hr hg hl hs
  have hlen : decide ((geometryBytes g).length = 18) = true := by simp [geometryBytes]
  have hexec : exec (.setGeometry (geometryBytes g)) s = .next (okOf 0x01#8 [] (acceptGeometry g (found s))) :=
    exec_taken (f := setGeometry) rfl hr hlen
    (setGeometry_bytes hg (s := found s) (by simpa using hl) (by simpa using hs))
  have hframe := acceptGeometry_frame g (found s)
  generalize acceptGeometry g (found s) = u at hexec hframe
  have hline : u.link.line = .stopped := by
    rw [hframe]
    show (if (found s).link.line = .unconfigured then LineState.stopped else (found s).link.line) = .stopped
    rw [found_line]
    cases hline : s.link.line with
    | running => exact absurd hline hl
    | _ => rfl
  have hhead : ∀ h : HeadId, u.head h = (s.head h).wasReset := fun h => by
    rw [← found_head s h, hframe]
    cases h <;> rfl
  have hcal : ∀ n, u.calEntry n = { s.calEntry n with planned := 0 } := fun n => by
    rw [hframe]
    simp [State.calEntry]
  have hslot : ∀ n, u.slot n = { kind := .empty, named := [] } := fun n => by
    rw [hframe]
    simp [State.slot, LugSlot.clear]
  have hchain : u.chain = { s.chain with slots := u.chain.slots } := by
    rw [hframe, ← found_chain s]
  have hlineal : u.lineal = { s.lineal with passage := s.lineal.passage.map fun a => { a with tag := none } } := by
    rw [hframe, ← found_lineal s]
  refine ⟨okOf 0x01#8 [] u, hexec, by rw [hframe]; rfl, rfl, hline, fun h => ?_, hcal, hslot, hchain, hlineal, ?_⟩
  · rw [show (okOf 0x01#8 [] u).head h = u.head h by cases h <;> rfl, hhead h]
    exact ⟨wasReset_plan _, wasReset_of_ready, wasReset_of_not_ready⟩
  · rw [hframe]
    rfl

end Sys2Proof.Claims
end

section
set_option Elab.async false
/-! PROOF. The reading requests and their payloads, AMEND STRIP, and the moulder's runs (O16, O17, O19, O25). -/

namespace Sys2Proof.Machine

open Sys2Proof Claims

/-! ## Lengths of payloads (11.3) -/

@[simp] theorem length_byte (n : Nat) : (byte n).length = 1 := length_toBytes 1 n

/-- A row of entries of one length. -/
theorem length_flatMap_of {α : Type} {f : α → List Byte} {m : Nat} (h : ∀ x, (f x).length = m) (l : List α) :
    (l.flatMap f).length = m * l.length := by
  induction l with
  | nil => rfl
  | cons a l ih => rw [List.flatMap_cons, List.length_append, h, ih, List.length_cons, Nat.mul_succ, Nat.add_comm]

theorem length_padTo {n : Nat} {l : List Byte} (h : l.length ≤ n) : (padTo n l).length = n := by
  simp [padTo]
  omega

@[simp] theorem length_defectBytes (d : Defect) : (defectBytes d).length = 7 := by simp [defectBytes]

@[simp] theorem length_overrideBytes (v : Option Override) : (overrideBytes v).length = 2 := by
  obtain _ | (g | _) := v <;> simp [overrideBytes]

@[simp] theorem length_dispositionBytes (d : Option Decision) : (dispositionBytes d).length = 2 := by
  cases d <;> simp [dispositionBytes]

@[simp] theorem length_choiceBytes (c : Option Choice) : (choiceBytes c).length = 10 := by cases c <;> simp [choiceBytes]

@[simp] theorem length_destBytes (d : Option Destination) : (destBytes d).length = 5 := by cases d <;> simp [destBytes]

@[simp] theorem length_stampBytes (w : Option WearStamp) : (stampBytes w).length = 2 := by cases w <;> simp [stampBytes]

theorem length_reportBytes (q : Option ReportPart) :
    (reportBytes q).length = 5 + 7 * ((q.map (·.defects.length)).getD 0) := by
  cases q with
  | none => simp [reportBytes]
  | some q =>
    simp [reportBytes, length_flatMap_of length_defectBytes]
    omega

@[simp] theorem length_listEntry (r : Strip) : (listEntry r).length = 4 := by simp [listEntry]

@[simp] theorem length_loadBytes (e : LoadEntry) : (loadBytes e).length = 3 := by cases e <;> simp [loadBytes]

@[simp] theorem length_spindleBytes (w : Spindle) : (Machine.spindleBytes w).length = 14 := by simp [Machine.spindleBytes]

@[simp] theorem length_pendingRunBytes (q : Option PendingRun) : (pendingRunBytes q).length = 4 := by
  cases q <;> simp [pendingRunBytes]

@[simp] theorem length_planBytes (e : PlanEntry) : (planBytes e).length = 6 := by simp [planBytes]

@[simp] theorem length_referenceBytes (r : Option Reference) : (referenceBytes r).length = 5 := by
  cases r <;> simp [referenceBytes]

@[simp] theorem length_executedBytes (e : Option PlanEntry) : (executedBytes e).length = 6 := by
  cases e <;> simp [executedBytes]

theorem length_headBytes (s : State) (h : HeadId) : (headBytes s h).length = 17 + 6 * (s.head h).plan.length := by
  simp [headBytes, length_flatMap_of length_planBytes]
  omega

theorem length_calendarBytes (s : State) : (calendarBytes s).length = 128 := by
  rw [calendarBytes, length_flatMap_of (m := 2) fun i => by simp]
  simp [Config.calendarTicks]

@[simp] theorem length_recipeBytes (r : Recipe) : (recipeBytes r).length = 18 := by
  simp [recipeBytes, length_flatMap_of length_byte]

@[simp] theorem length_bandBytes (b : BandCounts) : (bandBytes b).length = 3 := by simp [bandBytes]

@[simp] theorem length_bundleBytes (b : Option Bundle) : (bundleBytes b).length = 76 := by
  cases b <;> simp [bundleBytes, length_flatMap_of length_bandBytes, length_flatMap_of length_byte]

@[simp] theorem length_dropBytes (d : Option PendingDrop) : (dropBytes d).length = 7 := by cases d <;> simp [dropBytes]

theorem length_fifoBytes {l : List BayId} (h : l.length ≤ 8) : (fifoBytes l).length = 9 := by
  have hrow : (l.flatMap fun k => byte (bayNum k)).length ≤ 8 := by
    rw [length_flatMap_of (m := 1) fun k => length_byte _]
    omega
  simp only [fifoBytes, List.length_append, length_byte, length_padTo hrow]

@[simp] theorem length_frameBytes (f : RepeatFrame) : (frameBytes f).length = 3 := by simp [frameBytes]

theorem length_interpreterBytes {i : Interpreter} (hc : i.calls.length ≤ 4) (hr : i.repeats.length ≤ 4) (id : Nat) :
    (interpreterBytes i id).length = 27 := by
  have h1 : (i.calls.flatMap (toBytes 2)).length ≤ 8 := by rw [length_flatMap_of (length_toBytes 2)]; omega
  have h2 : (i.repeats.flatMap frameBytes).length ≤ 12 := by rw [length_flatMap_of length_frameBytes]; omega
  unfold interpreterBytes
  split
  · simp only [List.length_append, length_byte, length_padTo h1, length_padTo h2]
  · exact length_toBytes 27 0

@[simp] theorem length_labelEntry (r : Label) : (labelEntry r).length = 11 := by simp [labelEntry]

/-! ## AMEND STRIP (R13) -/

/-- The fields of an AMEND STRIP payload. -/
theorem overrideOf_bytes {tag : Nat} (h : tag ≤ 65535) (v : Option Override) :
    fieldAt (toBytes 2 tag ++ overrideBytes v) 0 2 = tag ∧
      overrideOf (fieldAt (toBytes 2 tag ++ overrideBytes v) 2 1) (fieldAt (toBytes 2 tag ++ overrideBytes v) 3 1) = some v := by
  refine ⟨(fieldAt_front 2 tag _).trans (Nat.mod_eq_of_lt (by omega)), ?_⟩
  rw [fieldAt_skip _ _ (by decide), fieldAt_skip _ _ (by decide)]
  obtain _ | (g | _) := v
  · rfl
  · cases g <;> rfl
  · rfl

theorem Strip.amendable_iff (r : Strip) : r.amendable = true ↔ r.state = .lineal ∨ r.state = .loaded := by
  simp [Strip.amendable]

/-! ## Moulder runs (R28 to R31) -/

/-- No old-run strip stands before moulder exit. -/
theorem oldRunCount_eq_zero_iff (s : State) : s.oldRunCount = 0 ↔ ∀ r ∈ s.strips, s.isOldRun r = false := by
  simp [State.oldRunCount]

theorem drainTest_of_clear {s : State} {q : PendingRun} (hm : s.moulder.state = .draining) (hq : s.moulder.next = some q)
    (h : ∀ r ∈ s.strips, s.isOldRun r = false) : drainTest s = { s with
      moulder := if q.change = 0 then { s.moulder with state := .running, current := installed s q, next := none }
        else { s.moulder with state := .changeover } } := by
  have hdue : drainDue s = true := by simp [drainDue, hm, (oldRunCount_eq_zero_iff s).mpr h]
  rw [drainTest, if_pos hdue]
  unfold drainComplete
  rw [hq]
  dsimp only
  by_cases hc : q.change = 0
  · rw [if_neg (not_not.mpr hc), if_pos hc]
    rfl
  · rw [if_pos hc, if_neg hc]

theorem drainTest_of_old {s : State} (h : ∃ r ∈ s.strips, s.isOldRun r = true) : drainTest s = s := by
  refine drainTest_not_due s ?_
  have hcount : ¬ s.oldRunCount = 0 := by
    rw [oldRunCount_eq_zero_iff]
    obtain ⟨r, hr, hold⟩ := h
    exact fun hall => by simp [hall r hr] at hold
  simp [drainDue, hcount]

/-- The pending run of a payload within its ranges (R29). -/
theorem pendingRunOf_runBytes {q : PendingRun} (h1 : 1 ≤ q.species) (h2 : q.species ≤ 63) (h3 : 1 ≤ q.profile)
    (h4 : q.profile ≤ 15) : pendingRunOf (runBytes q) = some q := by
  have hset := q.change.isLt
  have hbyte : ∀ n, n < 256 → n % 256 ^ 1 = n := fun n hn => Nat.mod_eq_of_lt (by omega)
  simp only [pendingRunOf, runBytes, List.append_assoc, fieldAt_front, fieldAt_whole, fieldAt_skip, Nat.le_refl,
    Nat.reduceLeDiff, Nat.reduceSub, hbyte q.species (by omega), hbyte q.profile (by omega), hbyte q.change.toNat (by omega),
    setOf_toNat, (within_iff 1 63 q.species).mpr ⟨h1, h2⟩, (within_iff 1 15 q.profile).mpr ⟨h3, h4⟩, Bool.and_self, if_true]

/-- A payload with a value outside its range carries no pending run (R29). -/
theorem pendingRunOf_out {a b c : Nat} (ha : a ≤ 255) (hb : b ≤ 255) (hc : c ≤ 255)
    (h : a = 0 ∨ 63 < a ∨ b = 0 ∨ 15 < b ∨ 15 < c) : pendingRunOf (toBytes 1 a ++ toBytes 1 b ++ toBytes 1 c) = none := by
  have hbyte : ∀ n, n ≤ 255 → n % 256 ^ 1 = n := fun n hn => Nat.mod_eq_of_lt (by omega)
  simp only [pendingRunOf, List.append_assoc, fieldAt_front, fieldAt_whole, fieldAt_skip, Nat.le_refl, Nat.reduceLeDiff,
    Nat.reduceSub, hbyte a ha, hbyte b hb, hbyte c hc]
  split
  next change hset =>
    have hc15 : c < 2 ^ 4 := by
      by_contra hlt
      rw [setOf, if_neg hlt] at hset
      cases hset
    rw [if_neg]
    rw [Bool.and_eq_true, within_iff, within_iff]
    omega
  · rfl

/-- Spindles retooled in their order: those of the change set are new, with their thresholds kept (R31). -/
theorem retool_all (change : BitVec 4) (m : Moulder) : allSpindles.foldl (retool change) m =
    (let fresh := fun i : SpindleId => if change.getLsbD i.bit then
      { m.spindle i with wear := 0, worn := false, spent := false } else m.spindle i
    { m with top := fresh .top, bottom := fresh .bottom, tongue := fresh .tongue, groove := fresh .groove }) := by
  have hone : ∀ (m : Moulder) (i : SpindleId), retool change m i = m.setSpindle i (if change.getLsbD i.bit then
      { m.spindle i with wear := 0, worn := false, spent := false } else m.spindle i) := fun m i => by
    unfold retool
    split
    · rfl
    · cases i <;> rfl
  simp only [allSpindles, List.foldl_cons, List.foldl_nil, hone]
  rfl

end Sys2Proof.Machine

namespace Sys2Proof.Claims

open Sys2Proof Sys2Proof.Machine

/-- Settles O17, by the lengths of the parts of each payload. -/
theorem responsePayloadLengths : Obligations.ResponsePayloadLengths := by
  refine ⟨fun r => ?_, fun s n => ?_, fun s k hnamed hload => ?_, fun s => ?_, fun s => ?_, fun s k hf hl => ?_, fun s => ?_,
    fun s o hc hr => ?_, fun r => ?_, fun s n => ?_, fun s => ?_, fun s => ?_⟩
  · simp only [stripPayload, List.length_append, length_toBytes, length_byte, length_stampBytes, length_overrideBytes,
      length_dispositionBytes, length_choiceBytes, length_destBytes, length_reportBytes]
    omega
  · simp [listPayload, length_flatMap_of length_listEntry]
  · have h1 : ((s.slot (s.serialAt k)).named.flatMap (toBytes 2)).length ≤ 4 := by
      rw [length_flatMap_of (length_toBytes 2)]; omega
    have h2 : (s.chain.load.flatMap loadBytes).length ≤ 6 := by rw [length_flatMap_of length_loadBytes]; omega
    simp only [lugPayload, List.length_append, length_toBytes, length_byte, length_padTo h1, length_padTo h2]
  · simp [moulderPayload]
  · simp [headsPayload, length_headBytes, length_calendarBytes, State.head]
    omega
  · have hplanned := length_flatMap_of (f := fun d : PlannedDrop => toBytes 4 d.serial.toNat ++ toBytes 2 d.tag) (m := 6)
      (fun d => by simp) (s.bay k).planned
    simp only [bayPayload, List.length_append, length_byte, length_toBytes, length_bundleBytes, length_dropBytes,
      length_fifoBytes hf, length_fifoBytes hl, hplanned]
  · have h1 := length_flatMap_of (f := fun o : Order => toBytes 2 o.id ++ byte o.state.code) (m := 3) (fun o => by simp)
      s.orders.table
    have h2 := length_flatMap_of (f := fun e : QueueEntry => toBytes 2 e.order ++ byte e.recipe.val) (m := 3)
      (fun e => by simp) s.orders.queue
    simp only [orderUnitPayload, List.length_append, length_byte, length_toBytes, h1, h2,
      length_flatMap_of (length_toBytes 2)]
    omega
  · simp only [orderPayload, List.length_append, length_byte, length_toBytes, length_interpreterBytes hc hr]
  · simp [labelPayload]
    omega
  · simp [labelsPayload, length_flatMap_of length_labelEntry]
    omega
  · simp [noticesPayload]
  · simp [statusPayload, noticesPayload, length_flatMap_of (length_toBytes 2)]

/-- Settles O16: the reply of a reading request is the state in which it finds the part. -/
theorem readsChangeNothing : Obligations.ReadsChangeNothing := by
  intro s h
  have hbyte : ∀ n, n ≤ 255 → fieldAt (toBytes 1 n) 0 1 = n := fun n hn => fieldAt_toBytes (by omega)
  have hsame : ∀ n, Receives s [0#8] → Receives s (toBytes 1 n) := fun n ⟨h1, h2, _⟩ => ⟨h1, h2, by simp⟩
  refine ⟨fun tag r hr h1 h2 hstrip => ?_, fun n hr hn => ?_, fun k hr hk hk' => ?_, fun hr => ⟨?_, ?_, ?_⟩, fun k hr => ?_,
    fun hr => ?_, fun id o hr h1 h2 ho => ?_, fun n hr hn => ?_⟩
  · refine exec_replied (f := getStrip) rfl hr rfl ?_
    simp only [getStrip, fieldAt_id h2, found_strip?, hstrip]
    exact if_neg (by omega)
  · exact exec_replied (f := listStrips) rfl (hsame n hr) rfl (by simp only [listStrips, hbyte n (by omega), hn, if_true]; rfl)
  · exact exec_replied (f := getLug) rfl (hsame k hr) rfl
      (by simp only [getLug, hbyte k hk', found_geometry, hk, if_true]; rfl)
  · exact exec_replied (f := getMoulder) rfl hr rfl rfl
  · exact exec_replied (f := getHeads) rfl hr rfl rfl
  · exact exec_replied (f := getStatus) rfl hr rfl rfl
  · refine exec_replied (f := getBay) rfl (hsame (bayNum k) hr) rfl ?_
    have hk := bayNum_lt k
    simp only [getBay, bayRequest, hbyte (bayNum k) (by omega), bayOfNum_bayNum]
    rfl
  · have hzero : getOrder [0#8, 0#8] (found s) = .ok (found s, orderUnitPayload (found s)) := by
      simp [getOrder, fieldAt, ofBytes]
    exact exec_replied (f := getOrder) rfl hr rfl hzero
  · refine exec_replied (f := getOrder) rfl hr rfl ?_
    simp only [getOrder, fieldAt_id h2]
    rw [if_neg (by omega), show (found s).order? id = some o from ho]
  · exact exec_replied (f := listLabels) rfl (hsame n hr) rfl (by simp only [listLabels, hbyte n (by omega), hn, if_true]; rfl)

/-- Settles O19, in the order of the tests of R13. -/
theorem amendStripSetsOverride : Obligations.AmendStripSetsOverride := by
  intro s tag v p hr htag
  obtain ⟨htagField, hover⟩ := overrideOf_bytes htag v
  have hlen : decide (p.length = 4) = true := by simp [p]
  refine ⟨fun h => ?_, fun h hnone => ?_, fun r h hsome => ⟨fun hst => ?_, fun h1 h2 => ?_⟩⟩
  · refine exec_refused (f := amendStrip) rfl hr hlen (by decide) ?_
    simp only [amendStrip, p, hover, htagField]
    exact if_pos h
  · refine exec_refused (f := amendStrip) rfl hr hlen (by decide) ?_
    simp only [amendStrip, p, hover, htagField, found_strip?, hnone]
    exact if_neg h
  · refine exec_taken (f := amendStrip) rfl hr hlen ?_
    simp only [amendStrip, p, hover, htagField, found_strip?, hsome, (Strip.amendable_iff r).mpr hst, if_true, State.updStrip,
      found_strips]
    exact if_neg h
  · refine exec_refused (f := amendStrip) rfl hr hlen (by decide) ?_
    have hno : ¬ r.amendable = true := by rw [Strip.amendable_iff]; exact fun h => h.elim h1 h2
    simp only [amendStrip, p, hover, htagField, found_strip?, hsome, hno]
    exact if_neg h

/-- Settles O25, by the moulder state and, while RUNNING or DRAINING, by the old-run strips that are left. -/
theorem moulderRuns : Obligations.MoulderRuns := by
  refine ⟨fun s q hs1 hs2 hp1 hp2 => ?_, fun s => ⟨fun a b c => ?_, fun hr hm => ?_⟩⟩
  · intro h next run
    refine ⟨fun hr => ?_, fun hpin hm hq => ⟨fun hall => ?_, fun hold => ?_⟩, fun hr hq hm => ?_⟩
    · have hread := pendingRunOf_runBytes hs1 hs2 hp1 hp2
      have hlen : decide ((runBytes q).length = 3) = true := by simp [runBytes]
      have holdRun : ∀ r, (recordRun (found s) q .draining).isOldRun r = s.isOldRun r := fun r => by
        simp [State.isOldRun, recordRun, State.clearTarget, State.exitTarget]
      refine ⟨fun hm => ?_, fun hm hold => ?_, fun hm hall => ?_, fun hm => ?_⟩
      · refine exec_taken (f := newRun) rfl hr hlen ?_
        simp only [newRun, hread, found_moulder, hm]
        by_cases hc : q.change = 0
        · rw [if_neg (not_not.mpr hc), if_pos hc]
          simp only [installRun, run, installed, nextRunNumber, h, found_moulder]
        · rw [if_pos hc, if_neg hc]
          simp only [recordRun, next, h, found_moulder]
      · refine exec_taken (f := newRun) rfl hr hlen ?_
        simp only [newRun, hread, found_moulder, hm]
        rw [drainTest_of_old]
        · simp only [recordRun, next, h, found_moulder]
        · obtain ⟨r, hmem, hr⟩ := hold
          exact ⟨r, by simpa [recordRun] using hmem, (holdRun r).trans hr⟩
      · refine exec_taken (f := newRun) rfl hr hlen ?_
        simp only [newRun, hread, found_moulder, hm]
        rw [drainTest_of_clear (q := q) rfl rfl fun r hr => (holdRun r).trans (hall r (by simpa [recordRun] using hr))]
        by_cases hc : q.change = 0
        · simp only [hc, if_true, recordRun, run, installed, h, found_moulder]
        · simp only [hc, if_false, recordRun, next, h, found_moulder]
      · refine exec_refused (f := newRun) rfl hr hlen (by decide) ?_
        obtain hm | hm := hm <;> simp only [newRun, hread, found_moulder, hm]
    · exact (takeEvent_entered hpin drainTest).trans (congrArg _ (drainTest_of_clear (s := entered s) hm hq hall))
    · exact (takeEvent_entered hpin drainTest).trans (congrArg _ (drainTest_of_old (s := entered s) hold))
    · intro fresh
      refine exec_taken (f := toolingReady) rfl hr rfl ?_
      simp only [toolingReady, found_moulder, hm, hq, retool_all]
      simp only [installRun, h, installed, nextRunNumber, fresh]
  · intro p hr ha hb hc hout
    refine exec_refused (f := newRun) rfl hr (by simp [p]) (by decide) ?_
    simp only [newRun, p, pendingRunOf_out ha hb hc hout]
  · refine exec_refused (f := toolingReady) rfl hr rfl (by decide) ?_
    unfold toolingReady
    split
    next hc _ => exact absurd (by simpa using hc) hm
    · rfl

end Sys2Proof.Claims
end

section
set_option Elab.async false
/-! PROOF. The station link and the passes of the matcher (O26, O27). -/

namespace Sys2Proof.Machine

open Sys2Proof Claims

/-! ## Reception of reports (R40 to R43, R207) -/

/-- The entries of a report stand 7 bytes apart. -/
theorem rawEntries_eq (n : Nat) (p : List Byte) :
    rawEntries n p = (List.range n).map fun i => rawEntry (p.drop (7 * i)) := by
  induction n generalizing p with
  | zero => rfl
  | succ n ih =>
    rw [rawEntries, ih, List.range_succ_eq_map, List.map_cons, List.map_map]
    refine congrArg₂ List.cons rfl (List.map_congr_left fun i _ => ?_)
    rw [Function.comp_apply, List.drop_drop, show 7 + 7 * i = 7 * i.succ by omega]

theorem reportWellFormed_iff (p : List Byte) :
    reportWellFormed p = true ↔ fieldAt p 8 1 ≤ 32 ∧ p.length = 9 + 7 * fieldAt p 8 1 := by
  simp [reportWellFormed]

/-- The report that a payload spells, entry by entry. -/
theorem readReport_eq (p : List Byte) : readReport p =
    { head := BitVec.ofNat 32 (fieldAt p 0 4), length := fieldAt p 4 2, moisture := fieldAt p 6 2
      entries := (List.range (fieldAt p 8 1)).map fun i => rawEntry (p.drop (9 + 7 * i)) } := by
  simp only [readReport, rawEntries_eq, List.drop_drop]

/-! ## Passes (R45) -/

variable (s : State) (q : Report)

/-- How a list divides around the strip that is its nearest: nearer than those before it, and no further than those
behind it. -/
def Divides (r : Strip) (l1 l2 : List Strip) : Prop :=
  (∀ x ∈ l1, s.posDistance q r < s.posDistance q x) ∧ ∀ x ∈ l2, s.posDistance q r ≤ s.posDistance q x

theorem nearest_eq_none_iff (l : List Strip) : s.nearest q l = none ↔ l = [] := by
  cases l with
  | nil => simp [State.nearest]
  | cons a l =>
    simp only [State.nearest, reduceCtorEq, iff_false]
    split
    · split <;> simp
    · simp

theorem nearest_eq_some_iff (l : List Strip) (r : Strip) :
    s.nearest q l = some r ↔ ∃ l1 l2, l = l1 ++ r :: l2 ∧ Divides s q r l1 l2 := by
  induction l generalizing r with
  | nil => simp [State.nearest]
  | cons a l ih =>
    constructor
    · intro h
      cases hb : s.nearest q l with
      | none =>
        obtain rfl := (nearest_eq_none_iff s q l).mp hb
        obtain rfl : a = r := by simpa [State.nearest] using h
        exact ⟨[], [], rfl, by simp, by simp⟩
      | some b =>
        obtain ⟨l1, l2, rfl, h1, h2⟩ := (ih b).mp hb
        simp only [State.nearest, hb] at h
        split at h
        next hlt =>
          obtain rfl := Option.some.inj h
          exact ⟨a :: l1, l2, rfl, List.forall_mem_cons.mpr ⟨hlt, h1⟩, h2⟩
        next hlt =>
          obtain rfl := Option.some.inj h
          have hab := not_lt.mp hlt
          refine ⟨[], l1 ++ b :: l2, rfl, by simp, fun x hx => ?_⟩
          rcases List.mem_append.mp hx with hx | hx
          · exact hab.trans (h1 x hx).le
          · rcases List.mem_cons.mp hx with rfl | hx
            · exact hab
            · exact hab.trans (h2 x hx)
    · rintro ⟨l1, l2, hl, h1, h2⟩
      rcases List.cons_eq_append_iff.mp hl with ⟨rfl, hr⟩ | ⟨l1', rfl, hl'⟩
      · obtain ⟨rfl, rfl⟩ := List.cons.inj hr
        cases hb : s.nearest q l2 with
        | none => simp [State.nearest, hb]
        | some b =>
          obtain ⟨m1, m2, rfl, -⟩ := (ih b).mp hb
          have hle := h2 b (by simp)
          simp only [State.nearest, hb, if_neg (not_lt.mpr hle)]
      · have hr : s.nearest q l = some r :=
          (ih r).mpr ⟨l1', l2, hl', fun x hx => h1 x (List.mem_cons_of_mem _ hx), h2⟩
        simp only [State.nearest, hr, if_pos (h1 a List.mem_cons_self)]

/-- The strips of a set that fit, where the list divides. -/
theorem pass_eq_some_iff (set : Strip → Bool) (r : Strip) : s.pass q set = some r ↔
    ∃ l1 l2, s.strips = l1 ++ r :: l2 ∧ set r = true ∧ s.fits q r = true ∧
      (∀ x ∈ l1, set x = true → s.fits q x = true → s.posDistance q r < s.posDistance q x) ∧
      ∀ x ∈ l2, set x = true → s.fits q x = true → s.posDistance q r ≤ s.posDistance q x := by
  rw [State.pass, nearest_eq_some_iff]
  constructor
  · rintro ⟨m1, m2, hm, h1, h2⟩
    obtain ⟨a, b, hab, rfl, hb⟩ := List.filter_eq_append_iff.mp hm
    obtain ⟨c, d, rfl, hc, hr, rfl⟩ := List.filter_eq_cons_iff.mp hb
    rw [Bool.and_eq_true] at hr
    refine ⟨a ++ c, d, by rw [hab, List.append_assoc], hr.1, hr.2, fun x hx hset hfit => ?_, fun x hx hset hfit => ?_⟩
    · rcases List.mem_append.mp hx with hx | hx
      · exact h1 x (List.mem_filter.mpr ⟨hx, by rw [hset, hfit]; rfl⟩)
      · exact absurd (by rw [hset, hfit]; rfl) (hc x hx)
    · exact h2 x (List.mem_filter.mpr ⟨hx, by rw [hset, hfit]; rfl⟩)
  · rintro ⟨l1, l2, hl, hset, hfit, h1, h2⟩
    have hkeep : ∀ x, x ∈ List.filter (fun r => set r && s.fits q r) l1 ∨ x ∈ List.filter (fun r => set r && s.fits q r) l2 →
        set x = true ∧ s.fits q x = true := fun x hx => by
      rw [← Bool.and_eq_true]
      exact hx.elim (fun h => (List.mem_filter.mp h).2) fun h => (List.mem_filter.mp h).2
    refine ⟨l1.filter fun r => set r && s.fits q r, l2.filter fun r => set r && s.fits q r, ?_, fun x hx => ?_, fun x hx => ?_⟩
    · rw [hl, List.filter_append, List.filter_cons_of_pos (by rw [hset, hfit]; rfl)]
    · obtain ⟨h, h'⟩ := hkeep x (.inl hx)
      exact h1 x (List.mem_filter.mp hx).1 h h'
    · obtain ⟨h, h'⟩ := hkeep x (.inr hx)
      exact h2 x (List.mem_filter.mp hx).1 h h'

theorem pass_eq_none_iff (set : Strip → Bool) :
    s.pass q set = none ↔ ∀ x ∈ s.strips, set x = true → s.fits q x = false := by
  rw [State.pass, nearest_eq_none_iff, List.filter_eq_nil_iff]
  refine forall₂_congr fun x _ => ?_
  cases set x <;> simp

theorem fits_iff (r : Strip) : s.fits q r = true ↔ r.state ≠ .entering ∧ ∃ lm, r.lm = some lm ∧
    (q.head - s.scanTarget r).toInt.natAbs ≤ s.limits.tp ∧ q.length ≤ lm + s.limits.tl ∧ lm ≤ q.length + s.limits.tl := by
  cases hlm : r.lm with
  | none => simp [State.fits, hlm]
  | some lm =>
    have hlen : max q.length lm - min q.length lm ≤ s.limits.tl ↔ q.length ≤ lm + s.limits.tl ∧ lm ≤ q.length + s.limits.tl := by
      omega
    simp [State.fits, hlm, State.posDistance, distance, lengthDistance, and_assoc]
    omega

end Sys2Proof.Machine

namespace Sys2Proof.Claims

open Sys2Proof Sys2Proof.Machine

/-- Settles O26, by the receiver's state and, for a report, by its tests and the room in the buffer. -/
theorem stationLinkReception : Obligations.StationLinkReception := by
  intro s hpin q hunt dropped
  have hevent : ∀ f, takeEvent f s = .next (f q) := takeEvent_entered hpin
  have hidle : s.matcher.receiving = false → ¬ q.matcher.receiving = true := fun h hq =>
    Bool.noConfusion (h.symm.trans hq)
  refine ⟨fun h => ?_, fun h => ?_, hevent stationDiscard, fun h => ?_, fun h => ?_, fun p hn hlen => ?_, fun p hbad => ?_⟩
  · exact (hevent _).trans (congrArg _ (if_neg (hidle h)))
  · exact (hevent _).trans (congrArg _ (if_pos h))
  · exact (hevent _).trans (congrArg _ (if_pos h))
  · exact (hevent _).trans (congrArg _ (if_neg (hidle h)))
  · have hwell := (reportWellFormed_iff p).mpr ⟨hn, hlen⟩
    have hreport : exec (.reportReceived p) s = .next (joinBuffer (readReport p) (stationHunt q)) :=
      (hevent (reportReceived p)).trans (congrArg _ (if_pos hwell))
    rw [hreport, readReport_eq]
    by_cases hroom : s.matcher.buffer.length < 4
    · rw [if_pos hroom]
      exact congrArg _ (if_pos hroom)
    · rw [if_neg hroom]
      exact congrArg _ (if_neg hroom)
  · have hwell : ¬ reportWellFormed p = true := by
      rw [reportWellFormed_iff]
      rintro ⟨h1, h2⟩
      exact hbad.elim (fun h => by omega) fun h => h h2
    exact (hevent (reportReceived p)).trans (congrArg _ (if_neg hwell))

/-- Settles O27: a pass is the nearest of the strips that fit, where the table divides around it. -/
theorem passPicksNearestStrip : Obligations.PassPicksNearestStrip := fun s q set =>
  ⟨pass_eq_some_iff s q set, pass_eq_none_iff s q set, fits_iff s q⟩

end Sys2Proof.Claims
end

section
set_option Elab.async false
/-! PROOF. The lineal section: counts, passages and the lineal position events (O22 to O24). -/

namespace Sys2Proof.Machine

open Sys2Proof Claims

/-! ## The position counter is moved by counts alone -/

@[simp] theorem p_drainTest (s : State) : (drainTest s).lineal = s.lineal := by
  unfold drainTest drainComplete
  split
  · split
    · split <;> rfl
    · rfl
  · rfl

@[simp] theorem p_remove (s : State) (tag : Nat) : (s.remove tag).lineal.p = s.lineal.p := by
  unfold State.remove
  split <;> rfl

theorem p_loseStrip (s : State) (tag : Nat) (c : Counter) : (loseStrip s tag c).lineal.p = s.lineal.p := by
  simp [loseStrip, State.retire]

theorem p_loseOverdueLoop (n : Nat) (s : State) : (loseOverdueLoop n s).lineal.p = s.lineal.p := by
  induction n generalizing s with
  | zero => rfl
  | succ n ih =>
    unfold loseOverdueLoop
    split
    · rw [ih, p_loseStrip]
    · rfl

theorem p_takeExit (r : Strip) (s : State) : (takeExit r s).lineal = s.lineal := by
  simp only [takeExit, addWear, allSpindles, List.foldl_cons, List.foldl_nil, putSpindle_eq, State.updStrip]

theorem p_takeExits (tag : Option Nat) (s : State) : (takeExits tag s).lineal = s.lineal := by
  unfold takeExits inFreeOrder
  refine List.foldlRecOn (motive := fun u => u.lineal = s.lineal) _ _ ?_ fun u hu r _ => (p_takeExit r u).trans hu
  rfl

theorem p_longTest (s : State) : (longTest s).lineal.p = s.lineal.p := by
  unfold longTest
  split
  · rfl
  split
  · dsimp only
    split <;> rfl
  · rfl

theorem p_takeTail (s : State) : (takeTail s).1.lineal.p = s.lineal.p := by
  unfold takeTail
  split
  · split
    · simp only [p_drainTest, confirmTail]
      split <;> rfl
    · rfl
  · rfl

theorem p_encoderCount (s : State) : (encoderCount s).lineal.p = s.lineal.p + 1 := by
  unfold encoderCount positionEvents loseOverdue
  dsimp only
  rw [p_loseOverdueLoop]
  have hif : ∀ u : State, (if u.clearDue then drainTest u else u).lineal.p = u.lineal.p := fun u => by
    split
    · rw [p_drainTest]
    · rfl
  rw [hif, p_takeExits, p_takeTail, p_longTest]
  rfl

/-! ## Events that are not due -/

theorem longTest_of_not_due {s : State} (h : s.longDue = false) : longTest s = s := by
  unfold longTest
  split
  · rfl
  next a ha =>
    have hlong : a.turnsLong s.lineal.p = false := by simpa [State.longDue, ha] using h
    simp [hlong]

theorem takeTail_of_not_due {s : State} (h : s.tailDue = false) : takeTail s = (s, none) := by
  unfold takeTail
  split
  next a ha =>
    have hend : a.endsAt s.lineal.p = false := by simpa [State.tailDue, ha] using h
    simp [hend]
  · rfl

theorem takeExits_of_filter_nil {s : State} {tag : Option Nat} (h : s.strips.filter (s.exitDue tag) = []) :
    takeExits tag s = s := by
  rw [takeExits, h, inFreeOrder_nil]

theorem takeExits_of_not_due {s : State} (h : s.exitsDue = false) : takeExits none s = s := by
  refine takeExits_of_filter_nil (List.filter_eq_nil_iff.mpr fun r hr => ?_)
  rw [State.exitsDue, List.any_eq_false] at h
  exact h r hr

/-- The position events of a count, event by event; no strip is past its deadline after them. -/
theorem positionEvents_eq {s s1 s2 s3 s4 : State} {tag : Option Nat} (h1 : longTest s = s1) (h2 : takeTail s1 = (s2, tag))
    (h3 : takeExits tag s2 = s3) (h4 : (if s3.clearDue then drainTest s3 else s3) = s4) (h5 : s4.overdue? = none) :
    positionEvents s = s4 := by
  unfold positionEvents
  rw [h1, h2]
  dsimp only
  rw [h3, h4, loseOverdue_none s4 h5]

theorem encoderCount_of_none_due {s : State} (h1 : (advanceP s).tailDue = false) (h2 : (advanceP s).longDue = false)
    (h3 : (advanceP s).exitsDue = false) (h4 : (advanceP s).clearDue = false) (h5 : (advanceP s).overdue? = none) :
    encoderCount s = advanceP s :=
  positionEvents_eq (longTest_of_not_due h2) (takeTail_of_not_due h1) (takeExits_of_not_due h3) (by rw [h4]; rfl) h5

/-- A row that names a position event, when its event is not due at P. -/
theorem positionRow_of_not_due {due : State → Bool} (event : State → State) {s : State} (h : due s = false) :
    positionRow due event s = if due (advanceP s) then encoderCount s else s := by
  rw [positionRow, if_neg (by simp [h])]

theorem positionRow_of_due {due : State → Bool} {event : State → State} {s : State} (h : due s = true) :
    positionRow due event s = event s := if_pos h

/-! ## Watched and overdue strips (R7, R27) -/

theorem watched?_mem {s : State} {r : Strip} (h : s.watched? = some r) : r ∈ s.strips ∧ r.state = .lineal := by
  obtain ⟨tag, -, htag⟩ := List.exists_of_findSome?_eq_some h
  split at htag
  next x hx =>
    split at htag
    next hc =>
      obtain rfl := Option.some.inj htag
      rw [Bool.and_eq_true, decide_eq_true_eq] at hc
      exact ⟨List.mem_of_find?_eq_some hx, hc.1⟩
    · cases htag
  · cases htag

/-- No LINEAL strip is past its transfer deadline. -/
def State.NonePast (s : State) : Prop :=
  ∀ r ∈ s.strips, r.state = .lineal → passed s.lineal.p (s.transferLast r) = false

theorem overdue?_of_watched {s : State} {r : Strip} (h : s.watched? = some r) :
    s.overdue? = if passed s.lineal.p (s.transferLast r) then some r else none := by
  rw [State.overdue?, h]

theorem overdue?_of_nonePast {s : State} (h : s.NonePast) : s.overdue? = none := by
  cases hw : s.watched? with
  | none => rw [State.overdue?, hw]
  | some r =>
    obtain ⟨hr, hst⟩ := watched?_mem hw
    rw [overdue?_of_watched hw, if_neg (by rw [h r hr hst]; decide)]

/-- Records touched in fields that the tracker's position tests do not read. -/
structure Retouched (g : Strip → Strip) (s t : State) : Prop where
  strips : t.strips = s.strips.map g
  p : t.lineal.p = s.lineal.p := by rfl
  queue : t.lineal.queue = s.lineal.queue := by rfl
  load : t.chain.load = s.chain.load := by rfl
  geometry : t.geometry = s.geometry := by rfl
  limits : t.limits = s.limits := by rfl
  current : t.moulder.current = s.moulder.current := by rfl
  tag : ∀ r, (g r).tag = r.tag
  state : ∀ r, (g r).state = r.state
  head : ∀ r, (g r).head = r.head
  lm : ∀ r, (g r).lm = r.lm
  run : ∀ r, (g r).run = r.run

namespace Retouched

variable {g : Strip → Strip} {s t : State} (h : Retouched g s t)
include h

theorem strip? (tag : Nat) : t.strip? tag = (s.strip? tag).map g := by
  rw [State.strip?, h.strips, List.find?_map]
  congr 2
  funext r
  simp [h.tag]

theorem transferLast (r : Strip) : t.transferLast (g r) = s.transferLast r := by
  simp [State.transferLast, State.transferTarget, h.head, h.lm, h.geometry, h.limits]

theorem exitTarget (r : Strip) : t.exitTarget (g r) = s.exitTarget r := by
  simp [State.exitTarget, h.head, h.geometry]

theorem watched? : t.watched? = s.watched?.map g := by
  unfold State.watched?
  rw [h.queue]
  induction s.lineal.queue with
  | nil => rfl
  | cons tag l ih =>
    rw [List.findSome?_cons, List.findSome?_cons, h.strip? tag]
    cases hr : s.strip? tag with
    | none => exact ih
    | some r =>
      have hc : (decide ((g r).state = .lineal) && !t.isCleared tag) = (decide (r.state = .lineal) && !s.isCleared tag) := by
        rw [h.state, State.isCleared, State.isCleared, h.load]
      simp only [Option.map_some, hc]
      cases decide (r.state = .lineal) && !s.isCleared tag with
      | true => rfl
      | false => exact ih

theorem overdue? : t.overdue? = s.overdue?.map g := by
  cases hw : s.watched? with
  | none =>
    have hwt : t.watched? = none := by rw [h.watched?, hw]; rfl
    rw [State.overdue?, State.overdue?, hw, hwt]; rfl
  | some r =>
    have hwt : t.watched? = some (g r) := by rw [h.watched?, hw]; rfl
    rw [overdue?_of_watched hwt, overdue?_of_watched hw, h.p, h.transferLast]
    split <;> rfl

theorem nonePast (hn : s.NonePast) : t.NonePast := fun r hr hst => by
  rw [h.strips] at hr
  obtain ⟨x, hx, rfl⟩ := List.mem_map.mp hr
  rw [h.p, h.transferLast]
  exact hn x hx ((h.state x).symm.trans hst)

theorem clearDue : t.clearDue = s.clearDue := by
  simp only [State.clearDue, h.strips, List.any_map, h.p, h.current]
  congr 1
  funext r
  simp only [Function.comp_apply, h.state, h.run, State.clearTarget, h.exitTarget, h.lm]
  rfl

/-- Moulder exits are due for the same records, while no stamp is touched. -/
theorem exitDue (hstamp : ∀ r, (g r).stamp = r.stamp) (tag : Option Nat) (r : Strip) : t.exitDue tag (g r) = s.exitDue tag r := by
  simp [State.exitDue, h.state, hstamp, h.p, h.exitTarget, h.tag]

theorem exitsDue (hstamp : ∀ r, (g r).stamp = r.stamp) : t.exitsDue = s.exitsDue := by
  rw [State.exitsDue, h.strips, List.any_map]
  congr 1
  funext r
  exact h.exitDue hstamp none r

end Retouched

/-! ## The long mark, the tail confirmation and the moulder exit -/

/-- The long mark is set (R24). -/
theorem longTest_of_due {s : State} {a : Passage} (hp : s.lineal.passage = some a) (hl : a.turnsLong s.lineal.p = true) :
    longTest s = { s with
      lineal := { s.lineal with passage := some { a with long := true } }
      strips := match a.tag with
        | some tag => s.strips.map fun r => if r.tag = tag then { r with size := .long } else r
        | none => s.strips } := by
  simp only [longTest, hp, hl, if_true]
  cases a.tag <;> rfl

theorem turnsLong_iff (a : Passage) (p : Position) :
    a.turnsLong p = true ↔ a.phase = .blocked ∧ a.long = false ∧ 2801 ≤ (p - a.h).toNat := by
  rw [Passage.turnsLong, Bool.and_eq_true, Bool.and_eq_true, decide_eq_true_eq, decide_eq_true_eq, and_assoc, Bool.not_eq_true']
  exact Iff.rfl

theorem takeTail_of_due {s : State} {a : Passage} (hp : s.lineal.passage = some a) (he : a.endsAt s.lineal.p = true) :
    takeTail s = (drainTest (confirmTail s a), a.tag) := by
  simp only [takeTail, hp, he, if_true]

/-- A strip's moulder exit, as the claims name it (R25, R32, R34). -/
theorem takeExit_eq_exited (r : Strip) (s : State) : takeExit r s = exited s r.tag (r.lm.getD 0) := by
  unfold takeExit exited
  dsimp only
  rw [← putSpindles_eq_respun]
  simp only [Moulder.stamp, Spindle.isWorn_eq]
  rfl

theorem takeExits_of_one {s : State} {tag : Option Nat} {r : Strip} {lm : Nat} (h : s.strips.filter (s.exitDue tag) = [r])
    (hlm : r.lm = some lm) : takeExits tag s = exited s r.tag lm := by
  rw [takeExits, h, inFreeOrder_singleton, takeExit_eq_exited, hlm]
  rfl

/-- A moulder exit touches the stamp of the record. -/
theorem exited_retouched (s : State) (tag lm : Nat) : ∃ stamp, Retouched (fun r => if r.tag = tag then { r with stamp := some stamp } else r)
    s (exited s tag lm) := by
  refine ⟨_, { strips := rfl, tag := fun r => ?_, state := fun r => ?_, head := fun r => ?_, lm := fun r => ?_, run := fun r => ?_ }⟩
  all_goals split <;> rfl

end Sys2Proof.Machine

namespace Sys2Proof.Claims

open Sys2Proof Sys2Proof.Machine

/-- Settles O22: a count moves P by one, and a row not due at P is the next count where its event is due there. -/
theorem encoderCountAdvancesP : Obligations.EncoderCountAdvancesP := by
  intro s hpin c
  have hevent : ∀ f, takeEvent f s = .next (f (entered s)) := takeEvent_entered hpin
  have hcount : exec .encoderCount s = .next (encoderCount (entered s)) := hevent encoderCount
  have hrow : ∀ (due : State → Bool) (event : State → State), due (entered s) = false →
      takeEvent (positionRow due event) s = if due c then exec .encoderCount s else .next (entered s) := fun due event h => by
    rw [hevent, positionRow_of_not_due event h, hcount]
    show Host.Outcome.next (if due c then _ else _) = _
    split <;> rfl
  refine ⟨⟨_, hcount, p_encoderCount _⟩, fun h1 h2 h3 h4 h5 => ?_, hrow State.tailDue tailEvent, hrow State.longDue longTest,
    hrow State.exitsDue (takeExits none), hrow State.clearDue drainTest, fun h => ?_,
    fun r h => ?_⟩
  · rw [hcount, encoderCount_of_none_due h1 h2 h3 h4 h5]
    rfl
  · refine (hevent lostAtTransfer).trans (congrArg _ (if_neg ?_))
    rw [show (advanceP (entered s)).overdue? = none from h]
    decide
  · refine (hevent lostAtTransfer).trans ((congrArg _ (if_pos ?_)).trans hcount.symm)
    rw [show (advanceP (entered s)).overdue? = some r from h]
    rfl

/-- Settles O23, by the phase of the passage. -/
theorem infeedEyePassages : Obligations.InfeedEyePassages := by
  intro s hpin q
  have hevent : ∀ f, takeEvent f s = .next (f q) := takeEvent_entered hpin
  refine ⟨fun hp hroom htags => ?_, fun hp hfull => ?_, fun a ha hphase => ⟨?_, ?_⟩, fun a ha hphase => ⟨?_, fun h => ?_, fun h hl => ?_⟩⟩
  · have hedge : eyeBlock q = headEdge q := by
      simp only [eyeBlock, show q.lineal.passage = none from hp]
    have hfree := State.freeTag_not_taken htags
    rw [State.tagTaken, List.any_eq_false] at hfree
    refine ⟨s.freeTag, ?_, (State.freeTag_mem htags).1, (State.freeTag_mem htags).2, fun r hr => by simpa using hfree r hr,
      fun hown => ?_⟩
    · refine (hevent eyeBlock).trans (congrArg _ (hedge.trans ?_))
      exact if_pos hroom
    · have hnot : s.tagTaken s.lineal.tagCounter = false := by
        rw [State.tagTaken, List.any_eq_false]
        exact fun r hr => by simpa using hown r hr
      unfold State.freeTag
      cases s.strips.length with
      | zero => rfl
      | succ n => rw [firstFree, if_neg (by simp [hnot])]
  · have hedge : eyeBlock q = headEdge q := by
      simp only [eyeBlock, show q.lineal.passage = none from hp]
    refine (hevent eyeBlock).trans (congrArg _ (hedge.trans ?_))
    refine (if_neg (show ¬ q.strips.length < Config.stripCapacity from ?_)).trans rfl
    rw [show q.strips.length = 96 from hfull]
    decide
  · refine (hevent eyeUnblock).trans (congrArg _ ?_)
    simp only [eyeUnblock, show q.lineal.passage = some a from ha, hphase]
    rfl
  · refine (hevent eyeBlock).trans (congrArg _ ?_)
    simp only [eyeBlock, show q.lineal.passage = some a from ha, hphase]
  · refine (hevent eyeUnblock).trans (congrArg _ ?_)
    simp only [eyeUnblock, show q.lineal.passage = some a from ha, hphase]
  all_goals
    have hflicker : eyeBlock q = longTest (q.setPassage (some { a with phase := .blocked })) := by
      simp only [eyeBlock, show q.lineal.passage = some a from ha, hphase]
    refine (hevent eyeBlock).trans (congrArg _ (hflicker.trans ?_))
  · refine (longTest_of_not_due (Bool.eq_false_iff.mpr fun hdue => ?_)).trans rfl
    obtain ⟨-, hlong, hcounts⟩ := (turnsLong_iff { a with phase := .blocked } s.lineal.p).mp hdue
    obtain h | h := h
    · exact absurd h (not_lt.mpr hcounts)
    · exact Bool.noConfusion (h.symm.trans hlong)
  · exact longTest_of_due (s := q.setPassage (some { a with phase := .blocked })) (a := { a with phase := .blocked }) rfl
      ((turnsLong_iff { a with phase := .blocked } s.lineal.p).mpr ⟨rfl, hl, h⟩)

end Sys2Proof.Claims
end

section
set_option Elab.async false
/-! PROOF. The position events of one strip, at the count that brings P to them and by their rows (O24). -/

namespace Sys2Proof.Machine

open Sys2Proof Claims

/-- A row that names a position event, at P, or the count that brings P to it: the same state comes of both. -/
theorem exec_at {s x y : State} {row e : Instr} {due : State → Bool} {event : State → State} (hpin : s.resetPin = false)
    (hrow : exec row s = takeEvent (positionRow due event) s)
    (hmem : (x, e) ∈ [(entered s, row), (nextCount s, Instr.encoderCount)])
    (hevent : positionRow due event x = y) (hcount : e = .encoderCount → positionEvents x = y) : exec e s = .next y := by
  rcases List.mem_cons.mp hmem with h | h
  · obtain ⟨rfl, rfl⟩ := Prod.mk.inj h
    rw [hrow, takeEvent_entered hpin, hevent]
  · obtain ⟨rfl, rfl⟩ := Prod.mk.inj (List.mem_singleton.mp h)
    exact (takeEvent_entered hpin encoderCount).trans (congrArg _ (hcount rfl))

/-- The states of the two have one passage, strip table, geometry, limits and moulder. -/
theorem same_at {s x : State} {row e : Instr} (hmem : (x, e) ∈ [(entered s, row), (nextCount s, Instr.encoderCount)]) :
    x.lineal.passage = s.lineal.passage ∧ x.strips = s.strips ∧ x.geometry = s.geometry ∧ x.limits = s.limits ∧
      x.moulder = s.moulder := by
  rcases List.mem_cons.mp hmem with h | h
  · obtain ⟨rfl, -⟩ := Prod.mk.inj h
    exact ⟨rfl, rfl, rfl, rfl, rfl⟩
  · obtain ⟨rfl, -⟩ := Prod.mk.inj (List.mem_singleton.mp h)
    exact ⟨rfl, rfl, rfl, rfl, rfl⟩

theorem drainTest_of_not_draining {s : State} (h : s.moulder.state ≠ .draining) : drainTest s = s :=
  drainTest_not_due s (by simp [drainDue, h])

theorem clear_of_not_draining {s : State} (h : s.moulder.state ≠ .draining) : (if s.clearDue then drainTest s else s) = s := by
  rw [drainTest_of_not_draining h, ite_self]

/-! ## The tail confirmation (R22, R23, R25) -/

/-- The records after the tail confirmation of a passage. -/
def confirmedBy (a : Passage) (r : Strip) : Strip := if a.tag = some r.tag then r.confirmed a else r

theorem confirmTail_eq (x : State) (a : Passage) : confirmTail x a =
    { x with lineal := { x.lineal with passage := none }, strips := x.strips.map (confirmedBy a) } := by
  unfold confirmTail State.setPassage
  cases ha : a.tag with
  | none =>
    have hid : x.strips.map (confirmedBy a) = x.strips := by
      rw [List.map_congr_left (g := id) fun r _ => by simp [confirmedBy, ha], List.map_id]
    rw [hid]
  | some tag =>
    have hmap : ∀ r, confirmedBy a r = if r.tag = tag then r.confirmed a else r := fun r => by
      simp [confirmedBy, ha, eq_comm]
    rw [List.map_congr_left fun r _ => hmap r]
    rfl

theorem reached_iff (p t : Position) : reached p t = true ↔ p = t ∨ passed p t = true := by simp [reached]

/-- The exits that a tail confirmation brings: the confirmed strip's alone, when it has passed its exit while ENTERING. -/
theorem exits_of_confirmTail {x : State} (a : Passage) (hnone : ∀ r ∈ x.strips, x.exitDue none r = false) :
    (confirmTail x a).strips.filter ((confirmTail x a).exitDue a.tag) = (x.strips.filter fun r =>
      decide (a.tag = some r.tag ∧ r.stamp = none ∧ reached x.lineal.p (x.exitTarget r) = true)).map (confirmedBy a) := by
  have hone : ∀ r ∈ x.strips, (confirmTail x a).exitDue a.tag (confirmedBy a r) =
      decide (a.tag = some r.tag ∧ r.stamp = none ∧ reached x.lineal.p (x.exitTarget r) = true) := by
    intro r hr
    rw [confirmTail_eq, Bool.eq_iff_iff, decide_eq_true_eq]
    by_cases ha : a.tag = some r.tag
    · have hrec : confirmedBy a r = r.confirmed a := if_pos ha
      simp only [hrec, State.exitDue, Strip.confirmed, ha, State.exitTarget, Bool.and_eq_true, Bool.or_eq_true,
        decide_eq_true_eq, reached_iff, true_and]
      tauto
    · have hrec : confirmedBy a r = r := if_neg ha
      have hno := hnone r hr
      simp only [State.exitDue, reduceCtorEq, decide_false, Bool.false_and, Bool.or_false] at hno
      simp only [hrec, State.exitDue, ha, decide_false, Bool.false_and, Bool.or_false, false_and, iff_false, Bool.not_eq_true]
      exact hno
  rw [show (confirmTail x a).strips = x.strips.map (confirmedBy a) by rw [confirmTail_eq], List.filter_map]
  exact congrArg _ (List.filter_congr hone)

/-- The tail confirmation, by its row and by its count, when it brings no drain and no strip past its deadline. -/
theorem tailEvent_at {x y : State} {a : Passage} (hp : x.lineal.passage = some a) (hphase : a.phase = .clearing)
    (hend : a.endsAt x.lineal.p = true) (hm : x.moulder.state ≠ .draining) (hy : takeExits a.tag (confirmTail x a) = y)
    (hym : y.moulder.state ≠ .draining) (hover : y.overdue? = none) :
    positionRow State.tailDue tailEvent x = y ∧ positionEvents x = y := by
  have hdue : x.tailDue = true := by simp only [State.tailDue, hp, hend]
  have hlong : x.longDue = false := by
    simp [State.longDue, hp, Passage.turnsLong, hphase]
  have htail : takeTail x = (confirmTail x a, a.tag) := by
    rw [takeTail_of_due hp hend, drainTest_of_not_draining (by rw [confirmTail_eq]; exact hm)]
  refine ⟨?_, positionEvents_eq (longTest_of_not_due hlong) htail hy (clear_of_not_draining hym) hover⟩
  rw [positionRow_of_due hdue, tailEvent, htail]
  dsimp only
  rw [hy, loseNewlyWatched_none _ _ hover]

/-- A confirmed record is LINEAL, and past its deadline when its own transfer window is. -/
theorem nonePast_confirmTail {x : State} {a : Passage} (hq : x.NonePast)
    (hown : ∀ r ∈ x.strips, a.tag = some r.tag → passed x.lineal.p (x.transferLast (r.confirmed a)) = false) :
    (confirmTail x a).NonePast := by
  rw [confirmTail_eq]
  intro r hr hst
  obtain ⟨r0, hr0, rfl⟩ := List.mem_map.mp hr
  unfold confirmedBy at hst ⊢
  split
  next ha => exact hown r0 hr0 ha
  next ha => exact hq r0 hr0 (by rwa [if_neg ha] at hst)

/-! ## The last strip of the queue past its deadline (R27) -/

theorem remove_of_not_loaded {s : State} {tag : Nat} {r : Strip} (h : s.strip? tag = some r) (hs : r.serial = none) :
    s.remove tag = { s with
      strips := s.strips.filter fun x => x.tag ≠ tag, lineal := { s.lineal with queue := s.lineal.queue.filter (· ≠ tag) } } := by
  have hserial : (s.strip? tag).bind (·.serial) = none := by rw [h]; exact hs
  unfold State.remove
  rw [hserial]

theorem loseStrip_of_not_loaded {s : State} {tag : Nat} {r : Strip} (h : s.strip? tag = some r) (hs : r.serial = none)
    (hm : s.moulder.state ≠ .draining) (c : Counter) : loseStrip s tag c = (State.bump { s with
      strips := s.strips.filter fun x => x.tag ≠ tag, lineal := { s.lineal with queue := s.lineal.queue.filter (· ≠ tag) } }
        c).raise .stripLost := by
  rw [loseStrip, State.retire, remove_of_not_loaded h hs]
  exact drainTest_of_not_draining hm

/-- The front of the queue is the watched strip when it is LINEAL and not cleared. -/
theorem watched?_of_front {s : State} {tag : Nat} {rest : List Nat} {r : Strip} (hq : s.lineal.queue = tag :: rest)
    (hr : s.strip? tag = some r) (hst : r.state = .lineal) (hc : s.isCleared tag = false) : s.watched? = some r := by
  simp [State.watched?, hq, hr, hst, hc]

theorem overdue?_of_empty_queue {s : State} (h : s.lineal.queue = []) : s.overdue? = none := by
  simp [State.overdue?, State.watched?, h]

/-- The one strip of the queue is lost when P has passed its deadline. -/
theorem loseOverdue_of_one {s : State} {r : Strip} (hq : s.lineal.queue = [r.tag]) (hr : s.strip? r.tag = some r)
    (hst : r.state = .lineal) (hc : s.isCleared r.tag = false) (hs : r.serial = none)
    (hpast : passed s.lineal.p (s.transferLast r) = true) (hm : s.moulder.state ≠ .draining) :
    loseOverdue s = (State.bump { s with
      strips := s.strips.filter fun x => x.tag ≠ r.tag, lineal := { s.lineal with queue := [] } } .lostTransfer).raise .stripLost := by
  have hover : s.overdue? = some r := by
    rw [overdue?_of_watched (watched?_of_front hq hr hst hc), if_pos hpast]
  rw [loseOverdue, hq, List.length_singleton, loseOverdueLoop, hover]
  dsimp only [loseOverdueLoop]
  rw [loseStrip_of_not_loaded hr hs hm, hq]
  simp

end Sys2Proof.Machine

namespace Sys2Proof.Claims

open Sys2Proof Sys2Proof.Machine

/-- Settles O24, event by event; in each the row and the count come to one state. -/
theorem linealPositionEvents : Obligations.LinealPositionEvents := by
  intro s hpin q c other
  refine ⟨fun a u hp hphase hu => ?tail, fun a hp hphase hl x e hmem hcounts hother => ?long,
    fun r lm x e hmem hone hlm hother => ?exit, fun n x e hmem hdue hm hn hold hother => ?clear,
    fun r hq hr hst hload hs hpast hm hp hstamps e he => ?lost⟩
  case tail =>
    intro lm x e hmem hP hquiet hexits hdeadline closed
    obtain rfl : a.u.getD a.h = u := by rw [hu]; rfl
    obtain ⟨hpassage, hstrips, hgeometry, hlimits, hmoulder⟩ := same_at hmem
    have hclosed : confirmTail x a = closed := by
      simp only [closed, ← hstrips, confirmTail]
      cases a.tag <;> rfl
    have hend : a.endsAt x.lineal.p = true := by
      rw [Passage.endsAt, hphase, hP, hu]
      simp [Config.tailCounts]
    have hquiet' : (confirmTail x a).NonePast := by
      refine nonePast_confirmTail hquiet.2 fun r hr ha => ?_
      rw [State.transferLast, State.transferTarget, hgeometry, hlimits]
      exact hdeadline r (hstrips ▸ hr) ha
    have htail := exits_of_confirmTail a (x := x) (fun r hr => hexits r (hstrips ▸ hr))
    have hstate : (confirmTail x a).moulder.state ≠ .draining := by
      rw [confirmTail_eq]
      exact hquiet.1
    have hpx : x.lineal.passage = some a := hpassage.trans hp
    have hexit : ∀ r, x.exitTarget r = s.exitTarget r := fun r => by rw [State.exitTarget, State.exitTarget, hgeometry]
    refine ⟨fun hbefore => ?_, fun r ha honly hstamp hreached => ?_⟩
    · have hy : takeExits a.tag (confirmTail x a) = closed := by
        rw [takeExits_of_filter_nil, hclosed]
        rw [htail, List.map_eq_nil_iff, List.filter_eq_nil_iff]
        intro r hr hdue
        obtain ⟨ha, -, hreached⟩ := of_decide_eq_true hdue
        rw [hexit, hbefore r (hstrips ▸ hr) ha] at hreached
        exact Bool.noConfusion hreached
      rw [hclosed] at hquiet' hstate
      obtain ⟨hrow, hcount⟩ := tailEvent_at hpx hphase hend hquiet.1 hy hstate (overdue?_of_nonePast hquiet')
      exact exec_at hpin rfl hmem hrow fun _ => hcount
    · have hfilter : (confirmTail x a).strips.filter ((confirmTail x a).exitDue a.tag) = [r.confirmed a] := by
        have hsame : x.strips.filter (fun y => decide (a.tag = some y.tag ∧ y.stamp = none ∧
            reached x.lineal.p (x.exitTarget y) = true)) = [r] := by
          rw [hstrips, ← honly]
          refine List.filter_congr fun y hy => decide_eq_decide.mpr ⟨fun h => ?_, fun h => ?_⟩
          · exact (Option.some.inj (ha.symm.trans h.1)).symm
          · have hyr : y ∈ s.strips.filter fun y => y.tag = r.tag := List.mem_filter.mpr ⟨hy, decide_eq_true h⟩
            rw [honly] at hyr
            obtain rfl := List.mem_singleton.mp hyr
            exact ⟨ha, hstamp, by rwa [hexit]⟩
        rw [htail, hsame, List.map_singleton, confirmedBy, if_pos ha]
      have hy := takeExits_of_one hfilter (lm := lm) rfl
      obtain ⟨stamp, htouch⟩ := exited_retouched (confirmTail x a) (r.confirmed a).tag lm
      have hover := overdue?_of_nonePast (htouch.nonePast hquiet')
      obtain ⟨hrow, hcount⟩ := tailEvent_at hpx hphase hend hquiet.1 hy hstate hover
      rw [← hclosed]
      exact exec_at hpin rfl hmem hrow fun _ => hcount
  case long =>
    obtain ⟨hpassage, hstrips, -, -, -⟩ := same_at hmem
    have hpx : x.lineal.passage = some a := hpassage.trans hp
    have hturns := (turnsLong_iff a x.lineal.p).mpr ⟨hphase, hl, hcounts⟩
    have hdue : x.longDue = true := by simp only [State.longDue, hpx, hturns]
    have hlong := longTest_of_due hpx hturns
    rw [hstrips] at hlong
    generalize hy : ({ x with
        lineal := { x.lineal with passage := some { a with long := true } }
        strips := match a.tag with
          | some tag => s.strips.map fun r => if r.tag = tag then { r with size := .long } else r
          | none => s.strips } : State) = y at hlong
    have hrow : positionRow State.longDue longTest x = y := (positionRow_of_due hdue).trans hlong
    refine exec_at hpin rfl hmem hrow fun he => ?_
    obtain ⟨hover, hex, hcl⟩ := hother he
    have htouch : Retouched (fun r => if a.tag = some r.tag then { r with size := .long } else r) x y := by
      rw [← hy]
      refine { strips := ?_, tag := fun r => ?_, state := fun r => ?_, head := fun r => ?_, lm := fun r => ?_,
               run := fun r => ?_ }
      · rw [hstrips]
        cases a.tag with
        | none => simp
        | some tag => simp [eq_comm]
      all_goals split <;> rfl
    have hstamp : ∀ r : Strip, (if a.tag = some r.tag then { r with size := .long } else r).stamp = r.stamp := fun r => by
      split <;> rfl
    have htail : y.tailDue = false := by
      rw [← hy]
      simp [State.tailDue, Passage.endsAt, hphase]
    refine positionEvents_eq hlong (takeTail_of_not_due htail) (takeExits_of_not_due ?_) ?_ ?_
    · rw [htouch.exitsDue hstamp, hex]
    · rw [htouch.clearDue, hcl]
      rfl
    · rw [htouch.overdue?, hover]
      rfl
  case exit =>
    obtain ⟨-, hstrips, -, -, -⟩ := same_at hmem
    have hfilter : x.strips.filter (x.exitDue none) = [r] := by rw [hstrips, hone]
    have hdue : x.exitsDue = true := by
      have hr : r ∈ x.strips.filter (x.exitDue none) := by rw [hfilter]; exact List.mem_singleton_self r
      exact List.any_eq_true.mpr ⟨r, (List.mem_filter.mp hr).1, (List.mem_filter.mp hr).2⟩
    have hy := takeExits_of_one hfilter hlm
    refine exec_at hpin rfl hmem ((positionRow_of_due hdue).trans hy) fun he => ?_
    obtain ⟨hover, htail, hlong, hcl⟩ := hother he
    obtain ⟨stamp, htouch⟩ := exited_retouched x r.tag lm
    refine positionEvents_eq (longTest_of_not_due hlong) (takeTail_of_not_due htail) hy ?_ ?_
    · rw [htouch.clearDue, hcl]
      rfl
    · rw [htouch.overdue?, hover]
      rfl
  case clear =>
    obtain ⟨-, hstrips, -, -, hmoulder⟩ := same_at hmem
    have hy := drainTest_of_clear (s := x) (q := n) (by rw [hmoulder]; exact hm) (by rw [hmoulder]; exact hn)
      (fun r hr => hold r (hstrips ▸ hr))
    have hinstalled : installed x n = installed s n := by simp only [installed, hmoulder]
    rw [hmoulder, hinstalled] at hy
    refine exec_at hpin rfl hmem ((positionRow_of_due hdue).trans hy) fun he => ?_
    obtain ⟨hover, htail, hlong, hex⟩ := hother he
    refine positionEvents_eq (longTest_of_not_due hlong) (takeTail_of_not_due htail) (takeExits_of_not_due hex) ?_ ?_
    · rw [hdue, if_pos rfl, hy]
    · exact hover
  case lost =>
    have hcleared : c.isCleared r.tag = false := by
      rw [State.isCleared, show c.chain.load = [] from hload]
      rfl
    have hwatched : c.watched? = some r := watched?_of_front (s := c) hq hr hst hcleared
    have hover : c.overdue? = some r := by
      rw [overdue?_of_watched hwatched]
      exact if_pos hpast
    have hlost := loseOverdue_of_one (s := c) hq hr hst hcleared hs hpast hm
    have hcount : encoderCount q = loseOverdue c := by
      have hlong : c.longDue = false := by simp [State.longDue, show c.lineal.passage = none from hp]
      have htail : c.tailDue = false := by simp [State.tailDue, show c.lineal.passage = none from hp]
      have hex : c.exitsDue = false := by
        refine List.any_eq_false.mpr fun y hy hdue => ?_
        simp [State.exitDue, hstamps y hy] at hdue
      have hm' : c.moulder.state ≠ .draining := hm
      show positionEvents c = _
      unfold positionEvents
      rw [longTest_of_not_due hlong, takeTail_of_not_due htail]
      dsimp only
      rw [takeExits_of_not_due hex, clear_of_not_draining hm']
    have hexec : exec .encoderCount s = .next (loseOverdue c) :=
      (takeEvent_entered hpin encoderCount).trans (congrArg _ hcount)
    have hrow : exec .lostAtTransfer s = exec .encoderCount s := by
      refine (takeEvent_entered hpin lostAtTransfer).trans ?_
      rw [hexec, ← hcount]
      refine congrArg _ (if_pos ?_)
      rw [show (advanceP (entered s)).overdue? = some r from hover]
      rfl
    have hboth : exec e s = .next (loseOverdue c) := by
      rcases List.mem_cons.mp he with rfl | he
      · exact hexec
      · obtain rfl := List.mem_singleton.mp he
        exact hrow.trans hexec
    rw [hboth, hlost]
    rfl

end Sys2Proof.Claims
end

section
set_option Elab.async false
/-! PROOF. The transfer eye, and the purge of a strip of the lineal section (O29, O20). -/

namespace Sys2Proof.Machine

open Sys2Proof Claims

/-! ## A strip that becomes the watched one past its deadline (R27) -/

/-- The newly watched strip is lost, and no strip behind it. -/
theorem loseOverdue_of_first {s t : State} {r : Strip} (h : s.overdue? = some r) (hq : s.lineal.queue ≠ [])
    (ht : loseStrip s r.tag .lostTransfer = t) (hnext : t.overdue? = none) : loseOverdue s = t := by
  obtain ⟨n, hn⟩ := Nat.exists_eq_succ_of_ne_zero (mt List.length_eq_zero_iff.mp hq)
  rw [loseOverdue, hn, loseOverdueLoop, h]
  dsimp only
  rw [ht]
  cases n with
  | zero => rfl
  | succ n => rw [loseOverdueLoop, hnext]

theorem loseNewlyWatched_of_same {s : State} {old : Option Nat} (h : s.watchedTag? = old) : loseNewlyWatched old s = s :=
  if_pos h

theorem loseNewlyWatched_of_ne {s : State} {old : Option Nat} (h : s.watchedTag? ≠ old) :
    loseNewlyWatched old s = loseOverdue s := if_neg h

theorem watchedTag?_of_watched {s : State} {r : Strip} (h : s.watched? = some r) : s.watchedTag? = some r.tag := by
  rw [State.watchedTag?, h]
  rfl

/-- The test of the watched strip, at one place of the queue. -/
theorem watched?_eq (s : State) : s.watched? = s.lineal.queue.findSome? fun tag =>
    (s.strip? tag).filter fun r => r.state = .lineal && !s.isCleared tag := by
  unfold State.watched?
  congr 1
  funext tag
  cases s.strip? tag with
  | none => rfl
  | some r => simp [Option.filter]

/-- The watched strip depends on the queue, the records and on what the load list clears. -/
theorem watched?_congr {s t : State} (hq : t.lineal.queue = s.lineal.queue) (hs : t.strips = s.strips)
    (hc : ∀ tag, t.isCleared tag = s.isCleared tag) : t.watched? = s.watched? := by
  simp only [watched?_eq, hq, State.strip?, hs, hc]

theorem strip?_tag {s : State} {tag : Nat} {r : Strip} (h : s.strip? tag = some r) : r.tag = tag := by
  simpa using List.find?_some h

theorem strip?_of_watched {s : State} {r : Strip} (h : s.watched? = some r) : s.strip? r.tag = some r := by
  rw [watched?_eq] at h
  obtain ⟨tag, -, htag⟩ := List.exists_of_findSome?_eq_some h
  obtain ⟨hr, -⟩ := Option.filter_eq_some_iff.mp htag
  rwa [strip?_tag hr]

theorem overdue?_of_all_cleared {s : State} (h : ∀ tag ∈ s.lineal.queue, s.isCleared tag = true) : s.overdue? = none := by
  have hw : s.watched? = none := by
    rw [watched?_eq, List.findSome?_eq_none_iff]
    intro tag htag
    simp [h tag htag]
  rw [State.overdue?, hw]

/-- The watched strip stays the watched one when another strip leaves the queue, the table and the list. -/
theorem watched?_of_left {s t : State} {tag : Nat} {w : Strip} (hq : t.lineal.queue = s.lineal.queue.filter (· ≠ tag))
    (hs : ∀ x, x ≠ tag → t.strip? x = s.strip? x ∧ t.isCleared x = s.isCleared x) (hw : s.watched? = some w)
    (hne : w.tag ≠ tag) : t.watched? = some w := by
  rw [watched?_eq] at hw ⊢
  rw [hq]
  generalize s.lineal.queue = l at hw
  induction l with
  | nil => exact hw
  | cons x l ih =>
    rw [List.findSome?_cons] at hw
    by_cases hx : x = tag
    · rw [List.filter_cons_of_neg (by simpa using hx)]
      split at hw
      next r hr =>
        obtain ⟨hr, -⟩ := Option.filter_eq_some_iff.mp (hr.trans hw)
        exact absurd ((strip?_tag hr).trans hx) hne
      next => exact ih hw
    · rw [List.filter_cons_of_pos (by simpa using hx), List.findSome?_cons, (hs x hx).1, (hs x hx).2]
      split at hw
      next r hr => exact hw
      next hr => exact ih hw

/-- The front of the queue is passed over when it is cleared or not LINEAL. -/
theorem watched?_of_second {s : State} {a b : Nat} {r : Strip} (hq : s.lineal.queue = [a, b]) (ha : s.isCleared a = true)
    (hr : s.strip? b = some r) (hst : r.state = .lineal) (hb : s.isCleared b = false) : s.watched? = some r := by
  rw [watched?_eq, hq]
  cases hx : s.strip? a <;> simp [hx, ha, hr, hst, hb]

theorem isCleared_of_load {s : State} {l : List LoadEntry} (h : s.chain.load = l) (tag : Nat) :
    s.isCleared tag = l.contains (.strip tag) := by rw [State.isCleared, h]

/-! ## Transfer clears (R59 to R62) -/

theorem isFlicker_of_never {s : State} (h : ∀ p0, s.chain.lastClear = some p0 → 20 ≤ (s.lineal.p - p0).toNat) :
    s.isFlicker = false := by
  unfold State.isFlicker
  split
  next p0 hp => exact decide_eq_false (not_lt.mpr (h p0 hp))
  · rfl

theorem isFlicker_of_near {s : State} {p0 : Position} (h : s.chain.lastClear = some p0) (hp : (s.lineal.p - p0).toNat < 20) :
    s.isFlicker = true := by
  simp only [State.isFlicker, h]
  exact decide_eq_true hp

theorem matchedStrip?_of_near {s : State} {r : Strip} (hw : s.watched? = some r)
    (h : (s.lineal.p - s.transferTarget r).toInt.natAbs ≤ s.limits.tt) : s.matchedStrip? = some r := by
  rw [State.matchedStrip?, hw]
  exact if_pos (decide_eq_true h)

theorem matchedStrip?_of_far {s : State}
    (h : ∀ r, s.watched? = some r → ¬ (s.lineal.p - s.transferTarget r).toInt.natAbs ≤ s.limits.tt) : s.matchedStrip? = none := by
  unfold State.matchedStrip?
  split
  next r hr => exact if_neg fun hc => h r hr (of_decide_eq_true hc)
  · rfl

/-! ## The purge of a strip of the lineal section (R14, R15) -/

/-- The record with this tag is forgotten by the queue, the passage and the load list, and counted PURGED. -/
def purgedLineal (s : State) (tag : Nat) : State :=
  { s with
    strips := s.strips.filter fun q => q.tag ≠ tag
    lineal := { s.lineal with
      queue := s.lineal.queue.filter (· ≠ tag)
      passage := s.lineal.passage.map fun a => if a.tag = some tag then { a with tag := none } else a }
    chain := { s.chain with load := s.chain.load.map fun e => if e = .strip tag then .unknown else e }
    counters := s.counters.set Counter.purged.idx (min 65535 (s.count .purged + 1)) }

theorem purge_of_not_loaded {s : State} {tag : Nat} {r : Strip} (h : s.strip? tag = some r) (hs : r.serial = none) :
    purge s r = loseNewlyWatched s.watchedTag? (drainTest (purgedLineal s tag)) := by
  obtain rfl := strip?_tag h
  unfold purge
  rw [hs]
  dsimp only
  rw [purgeLineal, retirePurged, State.retire, remove_of_not_loaded (r := r) (by exact h) hs]
  rfl

theorem isCleared_purgedLineal (s : State) {tag x : Nat} (h : x ≠ tag) : (purgedLineal s tag).isCleared x = s.isCleared x := by
  rw [Bool.eq_iff_iff]
  simp only [State.isCleared, purgedLineal, List.contains_iff_mem, List.mem_map]
  refine ⟨fun ⟨e, he, hx⟩ => ?_, fun hx => ⟨_, hx, by simp [h]⟩⟩
  split at hx
  · cases hx
  · rwa [← hx]

theorem strip?_purgedLineal (s : State) {tag x : Nat} (h : x ≠ tag) : (purgedLineal s tag).strip? x = s.strip? x := by
  unfold State.strip? purgedLineal
  rw [List.find?_filter]
  congr 1
  funext r
  by_cases hr : r.tag = x <;> simp [hr, h]

theorem nonePast_purgedLineal {s : State} (tag : Nat) (h : s.NonePast) : (purgedLineal s tag).NonePast :=
  fun r hr hst => h r (List.mem_of_mem_filter hr) hst

/-- The watched strip is another strip than the purged one, or no strip is past its deadline: none is lost. -/
theorem loseNewlyWatched_purgedLineal {s : State} {tag : Nat} (m : Moulder)
    (h : (∃ w, s.watched? = some w ∧ w.tag ≠ tag) ∨ s.NonePast) :
    loseNewlyWatched s.watchedTag? { purgedLineal s tag with moulder := m } = { purgedLineal s tag with moulder := m } := by
  rcases h with ⟨w, hwatched, hne⟩ | hnone
  · refine loseNewlyWatched_of_same ?_
    have hleft := watched?_of_left (s := s) (t := purgedLineal s tag) rfl
      (fun x hx => ⟨strip?_purgedLineal s hx, isCleared_purgedLineal s hx⟩) hwatched hne
    exact (watchedTag?_of_watched hleft).trans (watchedTag?_of_watched hwatched).symm
  · exact loseNewlyWatched_none _ _ (overdue?_of_nonePast (nonePast_purgedLineal tag hnone))

end Sys2Proof.Machine

namespace Sys2Proof.Claims

open Sys2Proof Sys2Proof.Machine

/-- Settles O29: a clear matches the watched strip or nothing, and finds room in the list or an overload. -/
theorem transferClears : Obligations.TransferClears := by
  intro s hpin q clear near
  have hevent : ∀ f, takeEvent f s = .next (f q) := takeEvent_entered hpin
  refine ⟨fun p0 hp hlt => ?_, fun hnever => ?_, hevent verifyBlock⟩
  · exact (hevent transferUnblock).trans (congrArg _ (if_pos (isFlicker_of_near (s := q) hp hlt)))
  let c : State := clear s.chain.load
  have hwatched : c.watched? = s.watched? := rfl
  have hclear : exec .transferClear s = .next (loseNewlyWatched s.watchedTag?
      (if s.chain.load.length < 2 then matchClear c else overload c)) :=
    (hevent transferUnblock).trans (congrArg _ (if_neg (by rw [isFlicker_of_never (s := q) hnever]; decide)))
  refine ⟨fun hroom => ?room, fun hfull => ?full⟩
  case room =>
    rw [if_pos hroom] at hclear
    have hmatch : ∀ r, s.watched? = some r → near r → matchClear c = clear (s.chain.load ++ [.strip r.tag]) := fun r hw hr => by
      rw [matchClear, matchedStrip?_of_near (s := c) hw hr]
      rfl
    refine ⟨fun r hquiet hw hr => ?_, fun hfar => ?_, fun r x hw hr hq hne hx hst hser hload hpast hm => ?_⟩
    · rw [hclear, hmatch r hw hr, loseNewlyWatched_none (clear _) _ (overdue?_of_nonePast hquiet.2)]
    · have hun : matchClear c = (clear (s.chain.load ++ [.unknown])).bump .transferUnknown := by
        rw [matchClear, matchedStrip?_of_far (s := c) hfar]
        rfl
      rw [hclear, hun, loseNewlyWatched_of_same]
      refine congrArg (Option.map Strip.tag) (watched?_congr rfl rfl fun tag => ?_)
      simp [State.isCleared, clear, q]
    · have hnow : (clear [.strip r.tag]).watched? = some x := by
        refine watched?_of_second (a := r.tag) hq ?_ hx hst ?_
        · rw [isCleared_of_load (l := [.strip r.tag]) rfl]; simp
        · rw [isCleared_of_load (l := [.strip r.tag]) rfl]; simpa using hne
      have hover : (clear [.strip r.tag]).overdue? = some x := by
        rw [overdue?_of_watched hnow]
        exact if_pos hpast
      rw [hclear, hmatch r hw hr, hload, List.nil_append, loseNewlyWatched_of_ne,
        loseOverdue_of_first (r := x) hover (by rw [show (clear [.strip r.tag]).lineal.queue = [r.tag, x.tag] from hq]; simp)
          (loseStrip_of_not_loaded (s := clear [.strip r.tag]) (r := x) hx hser hm _)]
      · have hkeep : [r.tag, x.tag].filter (· ≠ x.tag) = [r.tag] := by simp [hne.symm]
        show Host.Outcome.next _ = _
        rw [show (clear [.strip r.tag]).lineal.queue = [r.tag, x.tag] from hq, hkeep]
        rfl
      · refine overdue?_of_all_cleared fun a ha => ?_
        rw [isCleared_of_load (l := [.strip r.tag]) rfl]
        have ha : a ∈ s.lineal.queue.filter (· ≠ x.tag) := ha
        rw [hq] at ha
        simpa [hne.symm] using ha
      · rw [watchedTag?_of_watched hnow, watchedTag?_of_watched hw]
        exact fun h => hne (Option.some.inj h)
  case full =>
    rw [if_neg (by omega)] at hclear
    refine ⟨fun r hquiet hw hs hr => ?_, fun hfar => ?_⟩
    · have hover : overload c = (State.bump { State.bump c .transferOverload with
          strips := s.strips.filter fun x => x.tag ≠ r.tag
          lineal := { s.lineal with queue := s.lineal.queue.filter (· ≠ r.tag) } } .lostOverload).raise .stripLost := by
        rw [overload, matchedStrip?_of_near (s := c) hw hr]
        exact loseStrip_of_not_loaded (r := r) (s := State.bump c .transferOverload) (strip?_of_watched hw) hs hquiet.1 _
      rw [hclear, hover, loseNewlyWatched_none]
      · rfl
      · exact overdue?_of_nonePast fun x hx hst => hquiet.2 x (List.mem_of_mem_filter hx) hst
    · have hun : overload c = (clear s.chain.load).bump .transferOverload := by
        rw [overload, matchedStrip?_of_far (s := c) hfar]
      rw [hclear, hun]
      exact congrArg _ (loseNewlyWatched_of_same rfl)

/-- Settles O20, by the strip that is watched after the purge. -/
theorem purgeStripOnLinealSection : Obligations.PurgeStripOnLinealSection := by
  intro s tag r hr htag hle hstrip hser h h'
  have hstrip' : h.strip? tag = some r := (found_strip? s tag).trans hstrip
  have hexec : ∀ t, purge h r = t → exec (.purgeStrip (toBytes 2 tag)) s = .next (okOf 0x23#8 [] t) := fun t ht => by
    refine exec_taken (f := purgeStrip) rfl hr (by simp) ?_
    rw [purgeStrip, fieldAt_id hle, if_neg (by omega), hstrip', ← ht]
  have hh : h' = purgedLineal h tag := by
    simp only [h', h, purgedLineal, found_strips, found_lineal, found_chain, found_counters, found_count]
  have hnonePast : s.NonePast → h.NonePast := fun hn q hq hst => by
    have := hn q (by simpa [h] using hq) hst
    simpa [h, State.transferLast, State.transferTarget] using this
  have hwatched : h.watched? = s.watched? := watched?_congr (by simp [h]) (by simp [h]) fun tag => by simp [h, State.isCleared]
  have hpurge := purge_of_not_loaded hstrip' hser
  refine ⟨fun hw => ⟨fun hm => ?_, fun q hm hq hc hold => ?_⟩, fun x hw hq hne hx hst hxser hload hpast hm => ?_⟩
  · have hnone := drainTest_of_not_draining (s := purgedLineal h tag) (by simpa [h, purgedLineal] using hm)
    refine hexec h' (hpurge.trans ?_)
    rw [hnone, hh]
    exact loseNewlyWatched_purgedLineal h.moulder (by rw [hwatched]; exact hw.imp_right hnonePast)
  · have hclear := drainTest_of_clear (s := purgedLineal h tag) (q := q) (by simpa [h, purgedLineal] using hm)
      (by simpa [h, purgedLineal] using hq) (fun x hx => ?_)
    · refine hexec _ (hpurge.trans ?_)
      rw [hclear, if_neg hc]
      refine (loseNewlyWatched_purgedLineal _ (by rw [hwatched]; exact hw.imp_right hnonePast)).trans ?_
      rw [hh]
      simp [h, purgedLineal]
    · obtain ⟨hx, hne⟩ := List.mem_filter.mp hx
      have := hold x (by simpa [h] using hx) (by simpa using hne)
      simpa [State.isOldRun, State.clearTarget, State.exitTarget, h, purgedLineal] using this
  · have hnone := drainTest_of_not_draining (s := purgedLineal h tag) (by simpa [h, purgedLineal] using hm)
    have hqueue : (purgedLineal h tag).lineal.queue = [x.tag] := by
      simp [purgedLineal, h, hq, hne]
    have hload' : (purgedLineal h tag).chain.load = [] := by simp [purgedLineal, h, hload]
    have hfound : (purgedLineal h tag).strip? x.tag = some x := by
      rw [strip?_purgedLineal h hne]
      exact (found_strip? s x.tag).trans hx
    have hclear : (purgedLineal h tag).isCleared x.tag = false := by
      rw [isCleared_of_load hload']
      rfl
    have hpast' : passed (purgedLineal h tag).lineal.p ((purgedLineal h tag).transferLast x) = true := by
      simpa [State.transferLast, State.transferTarget, purgedLineal, h] using hpast
    have hm' : (purgedLineal h tag).moulder.state ≠ .draining := by simpa [h, purgedLineal] using hm
    refine hexec _ (hpurge.trans ?_)
    rw [hnone, loseNewlyWatched_of_ne, loseOverdue_of_one hqueue hfound hst hclear hxser hpast' hm', hh]
    · have hstrips : (purgedLineal h tag).strips.filter (fun q => q.tag ≠ x.tag) =
          s.strips.filter fun q => q.tag ≠ tag ∧ q.tag ≠ x.tag := by
        simp [purgedLineal, h, List.filter_filter, Bool.and_comm]
      rw [← hstrips]
    · rw [watchedTag?_of_watched (watched?_of_front hqueue hfound hst hclear),
        watchedTag?_of_watched (hwatched.trans hw), strip?_tag hstrip]
      exact fun h => hne (Option.some.inj h)

end Sys2Proof.Claims
end

section
set_option Elab.async false
/-! PROOF. The reservation law of the actuation calendar (O40). -/

namespace Sys2Proof.Machine

open Sys2Proof Claims

/-! ## The starts of a window after a reservation (R114, R115) -/

/-- Two ticks the ring holds have places of their own. -/
theorem ringIdx_inj {s : State} {t u : Serial} (ht : s.ringHolds t = true) (hu : s.ringHolds u = true)
    (h : ringIdx u = ringIdx t) : u = t := by
  have ht := of_decide_eq_true ht
  have hu := of_decide_eq_true hu
  have h : u.toNat % 64 = t.toNat % 64 := congrArg Fin.val h
  generalize s.serialAt Config.calendarPast = base at ht hu
  have ht : (t - base).toNat < 64 := ht
  have hu : (u - base).toNat < 64 := hu
  bv_omega

theorem startsAt_planStarts {s : State} {t : Serial} (ht : s.ringHolds t = true) (c : Nat) (u : Serial) :
    (s.planStarts t c).startsAt u = s.startsAt u + if u = t then c else 0 := by
  have hring : (s.planStarts t c).ringHolds u = s.ringHolds u := rfl
  rw [State.startsAt, State.startsAt, hring]
  by_cases hu : s.ringHolds u = true
  · rw [if_pos hu, if_pos hu]
    by_cases he : u = t
    · subst he
      simp [State.planStarts, State.updCal, State.calEntry]
      omega
    · have hne : ringIdx u ≠ ringIdx t := fun h => he (ringIdx_inj ht hu h)
      have hval : (ringIdx t).val ≠ (ringIdx u).val := fun h => hne (Fin.ext h.symm)
      simp [State.planStarts, State.updCal, State.calEntry, he, Vector.getElem_set_ne, hval]
  · have he : u ≠ t := fun he => hu (he ▸ ht)
    simp [hu, he]

/-- The starts of a window after c more at tick t: c more when the window contains t. -/
theorem windowStarts_planStarts {s : State} {t : Serial} (ht : s.ringHolds t = true) (c n : Nat) (hn : n < 2 ^ 32) (u : Serial) :
    (s.planStarts t c).windowStarts u n = s.windowStarts u n + if (t - u).toNat < n then c else 0 := by
  induction n generalizing u with
  | zero => rfl
  | succ n ih =>
    rw [State.windowStarts, State.windowStarts, startsAt_planStarts ht, ih (by omega)]
    by_cases he : u = t
    · have hself : (t - u).toNat = 0 := by rw [he, BitVec.sub_self]; rfl
      have hnext : (t - (u + 1)).toNat = 2 ^ 32 - 1 := by rw [he]; bv_omega
      rw [if_pos he, hself, hnext, if_neg (by omega), if_pos (by omega)]
      omega
    · have hstep : (t - u).toNat = (t - (u + 1)).toNat + 1 := by bv_omega
      rw [if_neg he, hstep]
      by_cases hlt : (t - (u + 1)).toNat < n
      · rw [if_pos hlt, if_pos (by omega)]
        omega
      · rw [if_neg hlt, if_neg (by omega)]
        omega

/-- The air test is that of every window of W ticks that contains t (R115). -/
theorem airFits_iff {s : State} (hw : s.limits.window ≤ 16) (t : Serial) (c : Nat) : s.airFits t c = true ↔
    ∀ u : Serial, (t - u).toNat < s.limits.window → s.windowStarts u s.limits.window + c ≤ s.limits.air := by
  simp only [State.airFits, List.all_eq_true, List.mem_range, decide_eq_true_eq]
  refine ⟨fun h u hu => ?_, fun h i hi => h _ ?_⟩
  · have hback : t - BitVec.ofNat 32 (t - u).toNat = u := by
      rw [BitVec.ofNat_toNat, BitVec.setWidth_eq]
      bv_omega
    have := h _ hu
    rwa [hback] at this
  · have hback : (t - (t - BitVec.ofNat 32 i)).toNat = i := by bv_omega
    rw [hback]
    exact hi

end Sys2Proof.Machine

namespace Sys2Proof.Claims

open Sys2Proof Sys2Proof.Machine

/-- Settles O40: a reservation is the air test of the windows that contain the tick. -/
theorem reservationKeepsAirLaw : Obligations.ReservationKeepsAirLaw := by
  intro s s' t c granted _ hw ht hres w
  by_cases hfit : s.airFits t c = true
  · rw [State.reserve, if_pos hfit] at hres
    obtain ⟨rfl, rfl⟩ := Prod.mk.inj hres
    have hfits := (airFits_iff hw t c).mp hfit
    refine ⟨fun _ => ⟨rfl, fun u hu => ?_, fun u hu => ?_⟩, fun h => Bool.noConfusion h⟩
    · rw [windowStarts_planStarts ht c w (by omega), if_pos hu]
      exact ⟨rfl, hfits u hu⟩
    · rw [windowStarts_planStarts ht c w (by omega), if_neg (by omega)]
      rfl
  · rw [State.reserve, if_neg hfit] at hres
    obtain ⟨rfl, rfl⟩ := Prod.mk.inj hres
    refine ⟨fun h => Bool.noConfusion h, fun _ => ⟨rfl, ?_⟩⟩
    rw [airFits_iff hw] at hfit
    push Not at hfit
    exact hfit

end Sys2Proof.Claims
end

section
set_option Elab.async false
/-! PROOF. The label builder and the strapper (O47, O45). -/

namespace Sys2Proof.Claims

open Sys2Proof Machine

/-! ## What an order report leaves unchanged -/

namespace KeptBut

variable {l : List Counter} {s t u : State}

theorem refl (l : List Counter) (s : State) : KeptBut l s s := ⟨rfl, fun _ h => h, fun _ _ _ => rfl, fun _ _ => rfl⟩

theorem trans (h1 : KeptBut l s t) (h2 : KeptBut l t u) : KeptBut l s u where
  frame := by rw [h2.frame, h1.frame]
  noneLost n h := h2.noneLost n (h1.noneLost n h)
  noneElse n hn1 hn2 := (h2.noneElse n hn1 hn2).trans (h1.noneElse n hn1 hn2)
  counts c hc := (h2.counts c hc).trans (h1.counts c hc)

theorem mono {l' : List Counter} (h : KeptBut l s t) (hl : l ⊆ l') : KeptBut l' s t :=
  { h with counts := fun c hc => h.counts c fun hm => hc (hl hm) }

/-- Only bays, the bundle serial counter, the order table, the recipe queue or the interpreter are written. -/
theorem write (s : State) (bays : Vector Bay 8) (serial : Nat) (table : List Order) (queue : List QueueEntry)
    (interp : Interpreter) : KeptBut l s { s with
      bays := bays, bundleSerial := serial
      orders := { s.orders with table := table, queue := queue, interp := interp } } :=
  ⟨rfl, fun _ hn => hn, fun _ _ _ => rfl, fun _ _ => rfl⟩

/-- An order record is written. -/
theorem updOrder (s : State) (id : Nat) (f : Order → Order) : KeptBut l s (s.updOrder id f) :=
  .write s s.bays s.bundleSerial _ s.orders.queue s.orders.interp

/-- A bay record is written. -/
theorem updBay (s : State) (k : BayId) (f : Bay → Bay) : KeptBut l s (s.updBay k f) :=
  .write s _ s.bundleSerial s.orders.table s.orders.queue s.orders.interp

theorem raise (s : State) {n : Notice} (hn : n = .recipeStarved ∨ n = .orderComplete) : KeptBut l s (s.raise n) where
  frame := rfl
  noneLost m hm := by rw [State.isPending_raise, hm]; rfl
  noneElse m h1 h2 := by
    have hne : ¬ n = m := by rintro rfl; exact hn.elim h1 h2
    rw [State.isPending_raise, decide_eq_false hne, Bool.or_false]
  counts _ _ := rfl

theorem bump (s : State) {c : Counter} (hc : c ∈ l) : KeptBut l s (s.bump c) where
  frame := rfl
  noneLost _ hn := hn
  noneElse _ _ _ := rfl
  counts _ hd := State.count_bump_ne s fun e => hd (e ▸ hc)

end KeptBut


end Sys2Proof.Claims

namespace Sys2Proof.Machine

open Sys2Proof Claims

theorem orderTest_keptBut (s : State) (id : Nat) : KeptBut [.ordersCompleted] s (orderTest s id) := by
  obtain h | ⟨_, -, -, -, -, h⟩ | ⟨_, -, -, -, -, h⟩ := orderTest_cases s id
  all_goals rw [h]
  · exact .refl _ s
  · exact ((KeptBut.updOrder s id _).trans (.raise _ (.inr rfl))).trans (.bump _ List.mem_cons_self)
  · exact (KeptBut.updOrder s id _).trans (.raise _ (.inr rfl))

theorem orderReport_keptBut (s : State) (id : Nat) (f : Order → Order) : KeptBut [.ordersCompleted] s (orderReport s id f) :=
  (KeptBut.updOrder s id f).trans (orderTest_keptBut _ id)

/-- The completion test of an order changes the order table, the notices and the counters alone. -/
theorem orderTest_frame (s : State) (id : Nat) : orderTest s id = { s with
    orders := { s.orders with table := (orderTest s id).orders.table }
    link := { s.link with notices := (orderTest s id).link.notices }
    counters := (orderTest s id).counters } := by
  obtain h | ⟨_, -, -, -, -, h⟩ | ⟨_, -, -, -, -, h⟩ := orderTest_cases s id <;> rw [h] <;> rfl

theorem orderReport_frame (s : State) (id : Nat) (f : Order → Order) : orderReport s id f = { s with
    orders := { s.orders with table := (orderReport s id f).orders.table }
    link := { s.link with notices := (orderReport s id f).link.notices }
    counters := (orderReport s id f).counters } := orderTest_frame _ id

@[simp] theorem orderTest_bays (s : State) (id : Nat) : (orderTest s id).bays = s.bays := by
  obtain h | ⟨_, -, -, -, -, h⟩ | ⟨_, -, -, -, -, h⟩ := orderTest_cases s id <;> rw [h] <;> rfl

@[simp] theorem orderReport_bays (s : State) (id : Nat) (f : Order → Order) : (orderReport s id f).bays = s.bays :=
  orderTest_bays _ id

theorem order?_written {s : State} {id : Nat} {f : Order → Order} {o : Order} (hf : ∀ o, (f o).id = o.id)
    (h : s.order? id = some o) : (s.updOrder id f).order? id = some (f o) := by
  rw [State.order?_updOrder_self s id f hf, h]
  rfl

/-- The completion test of an order changes its state and its settled mark alone. -/
theorem orderTest_order? {s : State} {id : Nat} {o : Order} (h : s.order? id = some o) :
    ∃ v m, (orderTest s id).order? id = some { o with state := v, settled := m } := by
  obtain ht | ⟨_, -, -, -, -, ht⟩ | ⟨_, -, -, -, -, ht⟩ := orderTest_cases s id
  all_goals rw [ht]
  · exact ⟨o.state, o.settled, h⟩
  · exact ⟨.complete, o.settled, order?_written (s := s) (f := fun o => { o with state := .complete }) (fun _ => rfl) h⟩
  · exact ⟨o.state, true, order?_written (s := s) (f := fun o => { o with settled := true }) (fun _ => rfl) h⟩

/-- The order of a report has what the report writes, but for its state and its settled mark. -/
theorem orderReport_order? {s : State} {id : Nat} {f : Order → Order} {o : Order} (hf : ∀ o, (f o).id = o.id)
    (h : s.order? id = some o) : ∃ v m, (orderReport s id f).order? id = some { f o with state := v, settled := m } :=
  orderTest_order? (order?_written hf h)

/-! ## Formation (R141, R142, R182 to R185) -/

/-- The label record the formation for bay k writes. -/
def State.formed (s : State) (k : BayId) (b : Bundle) : Label := labelOf k b s.labels.millId (s.templateOf b)

/-- t is s after the label of bay k's bundle b is formed and the bay has gone to DISCHARGING. -/
structure Formed (s : State) (k : BayId) (b : Bundle) (t : State) : Prop where
  labels : t.labels = { s.labels with table := s.labels.table ++ [s.formed k b] }
  bays : t.bays = s.bays.set k { s.bay k with state := .discharging }
  ready : t.isPending .labelReady = true
  formedCount : t.count .labelsFormed = min 65535 (s.count .labelsFormed + 1)
  truncatedCount : t.count .labelsTruncated = if (s.formed k b).truncated then min 65535 (s.count .labelsTruncated + 1)
    else s.count .labelsTruncated
  otherCount : ∀ c ∉ [Counter.ordersCompleted, .labelsFormed, .labelsTruncated], t.count c = s.count c
  order : ∀ o, s.order? b.order = some o → ∃ o', t.order? b.order = some o' ∧ o'.labelled = o.labelled + 1
  response : t.link.response = s.link.response
  frame : t = { s with labels := t.labels, bays := t.bays, link := t.link, counters := t.counters, orders := t.orders }

theorem formLabel_eq {s : State} {k : BayId} {b : Bundle} (h : (s.bay k).bundle = some b) :
    formLabel s k = let u := (State.bump ((orderReport
        { s with labels := { s.labels with table := s.labels.table ++ [s.formed k b] } }
        b.order fun o => { o with labelled := o.labelled + 1 }).raise .labelReady) .labelsFormed)
      if (s.formed k b).truncated then u.bump .labelsTruncated else u := by
  unfold formLabel
  rw [h]
  rfl

theorem labelAndDischarge_formed {s : State} {k : BayId} {b : Bundle} (h : (s.bay k).bundle = some b) :
    Formed s k b (labelAndDischarge s k) := by
  have hkept := orderReport_keptBut { s with labels := { s.labels with table := s.labels.table ++ [s.formed k b] } }
    b.order fun o => { o with labelled := o.labelled + 1 }
  have horder := fun o => orderReport_order? (f := fun o => { o with labelled := o.labelled + 1 })
    (s := { s with labels := { s.labels with table := s.labels.table ++ [s.formed k b] } }) (id := b.order) (o := o) fun _ => rfl
  have hbays := orderReport_bays { s with labels := { s.labels with table := s.labels.table ++ [s.formed k b] } }
    b.order fun o => { o with labelled := o.labelled + 1 }
  have hframe := orderReport_frame { s with labels := { s.labels with table := s.labels.table ++ [s.formed k b] } }
    b.order fun o => { o with labelled := o.labelled + 1 }
  rw [labelAndDischarge, formLabel_eq h]
  generalize orderReport _ _ _ = u at hkept horder hbays hframe ⊢
  have hcounts : ∀ c, c ≠ .ordersCompleted → u.count c = s.count c := fun c hc => hkept.counts c (by simpa using hc)
  have hlabels : u.labels = { s.labels with table := s.labels.table ++ [s.formed k b] } := by rw [hframe]
  have hresponse : u.link.response = s.link.response := by rw [hframe]
  have hdone : ∀ v : State, v = { u with link := v.link, counters := v.counters } →
      v.link = (u.raise .labelReady).link →
      v.count .labelsFormed = min 65535 (s.count .labelsFormed + 1) →
      (v.count .labelsTruncated = if (s.formed k b).truncated then min 65535 (s.count .labelsTruncated + 1)
        else s.count .labelsTruncated) →
      (∀ c ∉ [Counter.ordersCompleted, .labelsFormed, .labelsTruncated], v.count c = s.count c) →
      Formed s k b (v.updBay k fun x => { x with state := .discharging }) := by
    intro v hv hlink hformed htruncated hother
    refine ⟨?labels, ?bays, ?ready, hformed, htruncated, hother, ?order, ?response, ?frame⟩
    case labels => exact (congrArg State.labels hv).trans hlabels
    case bays =>
      have hvbays : v.bays = s.bays := (congrArg State.bays hv).trans hbays
      show v.bays.set k { v.bays[k] with state := .discharging } = _
      rw [hvbays]
      rfl
    case ready =>
      rw [State.isPending, State.updBay_link, hlink]
      exact (State.isPending_raise u _ _).trans (by simp)
    case order =>
      intro o ho
      obtain ⟨x, m, hx⟩ := horder o ho
      exact ⟨_, (by rw [hv]; exact hx), rfl⟩
    case response => rw [State.updBay_link, hlink]; exact hresponse
    case frame =>
      have hlike := fun (x y : State) (e : x = y) => congrArg (fun x : State => { x with
        labels := v.labels, bays := (v.updBay k fun x => { x with state := .discharging }).bays
        link := v.link, counters := v.counters, orders := v.orders }) e
      have hvu := hlike v _ hv
      have hus := hlike u _ hframe
      exact hvu.trans hus
  dsimp only
  split
  next htrunc =>
    refine hdone _ rfl rfl ?_ ?_ fun c hc => ?_
    · rw [State.count_bump_ne _ (by decide), State.count_bump_self, State.count_raise, hcounts _ (by decide)]
      rfl
    · rw [State.count_bump_self, State.count_bump_ne _ (by decide), State.count_raise, hcounts _ (by decide), if_pos htrunc]
      rfl
    · simp only [List.mem_cons, List.not_mem_nil, or_false, not_or] at hc
      obtain ⟨h1, h2, h3⟩ := hc
      rw [State.count_bump_ne _ h3, State.count_bump_ne _ h2, State.count_raise, hcounts c h1]
  next htrunc =>
    refine hdone _ rfl rfl ?_ ?_ fun c hc => ?_
    · rw [State.count_bump_self, State.count_raise, hcounts _ (by decide)]
      rfl
    · rw [State.count_bump_ne _ (by decide), State.count_raise, hcounts _ (by decide), if_neg htrunc]
    · simp only [List.mem_cons, List.not_mem_nil, or_false, not_or] at hc
      obtain ⟨h1, h2, -⟩ := hc
      rw [State.count_bump_ne _ h2, State.count_raise, hcounts c h1]

/-- The label-wait FIFO is served when it has a bay and the table a place (R142, R184). -/
theorem serveLabelWait_of_room {s : State} {k : BayId} {rest : List BayId} (hw : s.labelWait = k :: rest)
    (hroom : s.labels.table.length < 16) : serveLabelWait s = labelAndDischarge { s with labelWait := rest } k := by
  unfold serveLabelWait
  rw [hw]
  exact if_pos (decide_eq_true hroom)

theorem serveLabelWait_of_none {s : State} (h : s.labelWait = [] ∨ s.labels.table.length = 16) : serveLabelWait s = s := by
  unfold serveLabelWait
  split
  · rfl
  next k rest hw =>
    rcases h with h | h
    · simp [h] at hw
    · refine if_neg fun hroom => ?_
      have := of_decide_eq_true hroom
      simp [h, Config.labelCapacity] at this

/-- RETIRE LABEL of a label the table holds (R188). -/
theorem retireLabel_of_found {s : State} {n : Nat} {r : Label} (h1 : 1 ≤ n) (hn : n ≤ 999999)
    (h : s.labels.table.find? (fun x => x.bundle = n) = some r) : retireLabel (toBytes 4 n) (found s) =
      if r.fetched = true then taken (removeLabel (found s) n) else .error .notFetched := by
  have hfield : fieldAt (toBytes 4 n) 0 4 = n := fieldAt_toBytes (by omega)
  have hlimit : ¬ Config.bundleSerialLimit < n := not_lt.mpr hn
  have hzero : ¬ n = 0 := by omega
  rw [retireLabel]
  simp only [hfield, hlimit, hzero, decide_false, Bool.or_false, Bool.false_eq_true, if_false, found_labels, h]

/-! ## The strapper (R136 to R141) -/

/-- The strapper has taken bay k, with this FIFO left. -/
def strapping (t : State) (k : BayId) (rest : List BayId) : State :=
  { t with
    bays := t.bays.set k { t.bay k with state := .strapping }
    strapper := { state := .busy, current := some k, fifo := rest, timer := some t.limits.strapTimeout } }

theorem arbitrate_of_front {s : State} {k : BayId} {rest : List BayId} (hi : s.strapper.state = .idle)
    (hf : s.strapper.fifo = k :: rest) : arbitrate s = strapping s k rest := by
  have hdue : strapDue s = true := by simp [strapDue, hi, hf]
  rw [arbitrate, if_pos hdue, strapFront, hf]
  rfl

theorem strapComplete_of_current {s : State} {k : BayId} (hb : s.strapper.state = .busy) (hc : s.strapper.current = some k) :
    strapComplete (bayNum k) s = strapDone s k := by
  unfold strapComplete
  rw [hb, hc]
  exact if_pos rfl

theorem bayNum_inj {j k : BayId} (h : bayNum j = bayNum k) : j = k := Fin.ext (Nat.succ_inj.mp h)

theorem strapComplete_of_other {s : State} {k : BayId} {n : Nat} (h : s.strapper.state ≠ .busy ∨ s.strapper.current ≠ some k)
    (hn : bayNum k = n) : strapComplete n s = s.bump .strayStrap := by
  subst hn
  unfold strapComplete
  split
  next j hb hc =>
    refine if_neg fun hj => ?_
    rw [hb, hc, bayNum_inj hj] at h
    exact h.elim (· rfl) (· rfl)
  · rfl

theorem resetStrapper_of_fault {s : State} (h : s.strapper.state = .fault) : resetStrapper [] s =
    taken (arbitrate { s with strapper := { s.strapper with state := .idle } }) := by
  unfold resetStrapper
  rw [h]

theorem arbitrate_of_none {s : State} (h : s.strapper.state ≠ .idle ∨ s.strapper.fifo = []) : arbitrate s = s := by
  rw [arbitrate, if_neg]
  rintro hdue
  simp only [strapDue, Bool.and_eq_true, decide_eq_true_eq, Bool.not_eq_true', List.isEmpty_eq_false_iff] at hdue
  exact h.elim (· hdue.1) hdue.2

end Sys2Proof.Machine

namespace Sys2Proof.Claims

open Sys2Proof Sys2Proof.Machine

/-- Settles O47, request by request; the formation is that of the FIFO's front bay. -/
theorem labelRequestsAndFormation : Obligations.LabelRequestsAndFormation := by
  intro s r fetched
  refine ⟨fun n hr hn hfind => ?_, fun n hr h1 hn hfind => ⟨fun hf hw => ?_, fun k rest b hf hw hb hlen => ?_, fun hf => ?_⟩,
    fun k rest b hpin hw hb hroom => ?_, fun hpin hnone => ?_⟩
  · have hlabel : (found s).labelFor n = some r := by
      rw [State.labelFor, found_labels, ← hfind]
    refine exec_replied (f := fetchLabel) rfl hr (by simp) ?_
    rw [fetchLabel, fieldAt_toBytes (by omega), if_neg (by simp [Config.bundleSerialLimit]; omega), hlabel]
    simp only [markFetched, found_labels, fetched]
  · refine exec_taken (f := retireLabel) rfl hr (by simp) ?_
    rw [retireLabel_of_found h1 hn hfind, if_pos hf]
    rw [removeLabel, serveLabelWait_of_none (.inl (by simpa using hw))]
    simp only [found_labels]
  · intro formed
    let u : State := State.bump { found s with labels := { s.labels with
      table := s.labels.table.filter fun x => x.bundle ≠ n } } .labelsRetired
    have hformed := labelAndDischarge_formed (s := { u with labelWait := rest }) (k := k) (b := b)
      (by simpa [u, State.bay] using hb)
    have hremove : removeLabel (found s) n = labelAndDischarge { u with labelWait := rest } k := by
      rw [removeLabel, ← serveLabelWait_of_room (s := u) (by simpa [u] using hw)]
      · simp only [found_labels, u]
      · refine lt_of_lt_of_le ?_ hlen
        refine List.length_filter_lt_length_iff_exists.mpr ⟨r, List.mem_of_find?_eq_some hfind, ?_⟩
        simpa using List.find?_some hfind
    have htaken : retireLabel (toBytes 4 n) (found s) = taken (labelAndDischarge { u with labelWait := rest } k) := by
      rw [retireLabel_of_found h1 hn hfind, if_pos hf, hremove]
    have hrest : (labelAndDischarge { u with labelWait := rest } k).labelWait = rest := by rw [hformed.frame]
    refine ⟨_, exec_taken (f := retireLabel) rfl hr (by simp) htaken, rfl, hformed.labels, hrest, hformed.bays.trans ?_,
      hformed.ready, ?_, ?_, hformed.order, ?_⟩
    · simp [u, State.bay]
    · rw [okOf_count_ne (by decide), hformed.otherCount _ (by decide)]
      exact (State.count_bump_self _ _).trans (by simp only [State.count, found_counters]; rfl)
    · rw [okOf_count_ne (by decide), hformed.formedCount]
      exact congrArg (fun c => min 65535 (c + 1)) ((State.count_bump_ne _ (by decide)).trans (by simp only [State.count, found_counters]))
    · have hrest' : (okOf 0x62#8 [] (labelAndDischarge { u with labelWait := rest } k)).labelWait = rest := hrest
      rw [hrest']
      exact congrArg (okOf 0x62#8 []) hformed.frame
  · refine exec_refused (f := retireLabel) rfl hr (by simp) (by decide) ?_
    rw [retireLabel_of_found h1 hn hfind, if_neg (by simp [hf])]
  · intro formed
    have hformed := labelAndDischarge_formed (s := { entered s with labelWait := rest }) (k := k) (b := b) hb
    refine ⟨_, (takeEvent_entered hpin serveLabelWait).trans (congrArg _ (serveLabelWait_of_room (s := entered s) hw hroom)),
      hformed.labels, ?_, hformed.bays, hformed.ready, hformed.formedCount, hformed.truncatedCount, hformed.order, ?_⟩
    all_goals have hrest : (labelAndDischarge { entered s with labelWait := rest } k).labelWait = rest := by rw [hformed.frame]
    · exact hrest
    · exact hformed.frame.trans (by rw [hrest])
  · exact (takeEvent_entered hpin serveLabelWait).trans (congrArg _ (serveLabelWait_of_none (s := entered s) hnone))

/-- Settles O45, row by row, with the arbiter after each. -/
theorem strapperServesBays : Obligations.StrapperServesBays := by
  intro s k serve
  refine ⟨fun hpin => ⟨fun hst => ?_, fun hst => ?_, fun rest hi hf => ?_, fun h => ?_, fun hb hc => ?_, fun n h hn => ?_,
    fun hb hc hf => ?_⟩, fun hr => ⟨fun hst hf => ?_, fun rest hst hf => ?_, fun hst => ?_⟩⟩
  · intro waiting
    let joined : State := { waiting with strapper := { s.strapper with fifo := s.strapper.fifo ++ [k] } }
    have hexec : exec (.settleExpiry k) s = .next (arbitrate joined) :=
      (takeEvent_entered hpin fun s => settleExpire s k).trans (congrArg _ (if_pos hst))
    refine ⟨fun hi => ?_, fun hi hf => ?_⟩
    · exact hexec.trans (congrArg _ (arbitrate_of_none (s := joined) (.inl hi)))
    · have hfront : joined.strapper.fifo = [k] := by
        show s.strapper.fifo ++ [k] = [k]
        rw [hf]
        rfl
      exact hexec.trans (congrArg _ (arbitrate_of_front (s := joined) hi hfront))
  · exact (takeEvent_entered hpin fun s => settleExpire s k).trans (congrArg _ (if_neg hst))
  · exact (takeEvent_entered hpin arbitrate).trans (congrArg _ (arbitrate_of_front (s := entered s) hi hf))
  · exact (takeEvent_entered hpin arbitrate).trans (congrArg _ (arbitrate_of_none (s := entered s) h))
  · refine (takeEvent_entered hpin strapExpire).trans (congrArg _ ?_)
    unfold strapExpire
    rw [show (entered s).strapper.state = .busy from hb, show (entered s).strapper.current = some k from hc]
    rfl
  · exact (takeEvent_entered hpin (strapComplete n)).trans (congrArg _ (strapComplete_of_other (s := entered s) h hn))
  · intro idle
    have hexec : exec (.strapComplete (bayNum k)) s = .next (arbitrate (labelOrWait (idle.bump .straps) k)) :=
      (takeEvent_entered hpin (strapComplete (bayNum k))).trans (congrArg _ (strapComplete_of_current (s := entered s) hb hc))
    refine ⟨fun hwait => ?_, fun b hnone hroom hbundle => ?_⟩
    · have hno : ¬ (s.labelWait = [] ∧ idle.labelRoom = true) := by
        rintro ⟨hw, hroom⟩
        have hroom : s.labels.table.length < 16 := of_decide_eq_true hroom
        rcases hwait with hwait | hwait
        · exact hwait hw
        · omega
      have hlabel : labelOrWait (idle.bump .straps) k = State.raise (State.bump { idle with
          bays := s.bays.set k { s.bay k with state := .labelWait }, labelWait := s.labelWait ++ [k] } .straps) .labelWait :=
        if_neg hno
      rw [hexec, hlabel]
      exact congrArg _ (arbitrate_of_none (.inr hf))
    · have hyes : s.labelWait = [] ∧ idle.labelRoom = true := ⟨hnone, decide_eq_true hroom⟩
      have hformed := labelAndDischarge_formed (s := idle.bump .straps) (k := k) (b := b) hbundle
      have hlabel : labelOrWait (idle.bump .straps) k = labelAndDischarge (idle.bump .straps) k := if_pos hyes
      have hstrapper : (labelAndDischarge (idle.bump .straps) k).strapper = idle.strapper := by rw [hformed.frame]; rfl
      rw [hexec, hlabel, arbitrate_of_none (.inr (by rw [hstrapper]; exact hf))]
      refine ⟨_, rfl, ?_, hformed.labels, hstrapper, hformed.ready, ?_⟩
      · rw [State.bay, hformed.bays]
        simp
      · rw [hformed.otherCount _ (by decide)]
        exact State.count_bump_self _ _
  · refine exec_taken (f := resetStrapper) rfl hr (by simp) ?_
    rw [resetStrapper_of_fault (by simpa using hst), arbitrate_of_none (.inr (by simpa using hf))]
    simp only [found_strapper]
  · refine exec_taken (f := resetStrapper) rfl hr (by simp) ?_
    rw [resetStrapper_of_fault (by simpa using hst), arbitrate_of_front rfl (k := k) (rest := rest) (by simpa using hf)]
    simp only [strapping, serve, found_limits]
    rfl
  · refine exec_refused (f := resetStrapper) rfl hr (by simp) (by decide) ?_
    unfold resetStrapper
    rw [found_strapper]
    split
    next h => exact absurd h hst
    · rfl

end Sys2Proof.Claims
end

section
set_option Elab.async false
/-! PROOF. The texts of labels (O48) and the frames of the two links (O56). -/

namespace Sys2Proof.Machine

open Sys2Proof Claims

/-! ## Decimals -/

theorem toNat_digit (n : Nat) : (digit n).toNat = 48 + n % 10 := by
  rw [digit, BitVec.toNat_ofNat]
  exact Nat.mod_eq_of_lt (by omega)

/-- The value that decimal characters spell. -/
def spelled (l : List Byte) : Nat := l.foldl (fun v x => 10 * v + (x.toNat - 0x30)) 0

theorem spelled_append_digit (l : List Byte) (n : Nat) : spelled (l ++ [digit n]) = 10 * spelled l + n % 10 := by
  rw [spelled, List.foldl_append, List.foldl_cons, List.foldl_nil, toNat_digit, spelled]
  omega

theorem length_decimal (w n : Nat) : (decimal w n).length = w := by
  induction w generalizing n with
  | zero => rfl
  | succ w ih => rw [decimal, List.length_append, ih, List.length_singleton]

theorem digit_range (n : Nat) : 0x30 ≤ (digit n).toNat ∧ (digit n).toNat ≤ 0x39 := by
  rw [toNat_digit]
  omega

theorem decimal_range (w n : Nat) : ∀ x ∈ decimal w n, 0x30 ≤ x.toNat ∧ x.toNat ≤ 0x39 := by
  induction w generalizing n with
  | zero => exact fun x hx => absurd hx List.not_mem_nil
  | succ w ih =>
    intro x hx
    rcases List.mem_append.mp hx with hx | hx
    · exact ih (n / 10) x hx
    · rw [List.mem_singleton.mp hx]
      exact digit_range n

theorem spelled_decimal (w n : Nat) : spelled (decimal w n) = n % 10 ^ w := by
  induction w generalizing n with
  | zero => rw [pow_zero, Nat.mod_one]; rfl
  | succ w ih => rw [decimal, spelled_append_digit, ih, pow_succ', Nat.mod_mul, add_comm]

theorem decimalPlain_of_lt {n : Nat} (h : n < 10) : decimalPlain n = [digit n] := by
  rw [decimalPlain, Nat.toDigits_of_lt_base h, List.map_singleton, Nat.toNat_digitChar_of_lt_ten h, digit, Nat.mod_eq_of_lt h]

theorem decimalPlain_of_ge {n : Nat} (h : 10 ≤ n) : decimalPlain n = decimalPlain (n / 10) ++ [digit n] := by
  have hlt : n % 10 < 10 := Nat.mod_lt n (by omega)
  rw [decimalPlain, Nat.toDigits_of_base_le (by omega) h, List.map_append, List.map_singleton,
    Nat.toNat_digitChar_of_lt_ten hlt]
  rfl

theorem decimalPlain_ne_nil (n : Nat) : decimalPlain n ≠ [] := by
  simp [decimalPlain]

theorem decimalPlain_range (n : Nat) : ∀ x ∈ decimalPlain n, 0x30 ≤ x.toNat ∧ x.toNat ≤ 0x39 := by
  induction n using Nat.strong_induction_on with
  | _ n ih =>
    intro x hx
    by_cases h : n < 10
    · rw [decimalPlain_of_lt h] at hx
      rw [List.mem_singleton.mp hx]
      exact digit_range n
    · rw [decimalPlain_of_ge (by omega)] at hx
      rcases List.mem_append.mp hx with hx | hx
      · exact ih (n / 10) (by omega) x hx
      · rw [List.mem_singleton.mp hx]
        exact digit_range n

/-- A number above 0 has no leading zero. -/
theorem decimalPlain_head (n : Nat) (h : 0 < n) : (decimalPlain n).head? ≠ some 0x30#8 := by
  induction n using Nat.strong_induction_on with
  | _ n ih =>
    by_cases hlt : n < 10
    · rw [decimalPlain_of_lt hlt]
      intro hd
      have := congrArg BitVec.toNat (Option.some.inj hd)
      rw [toNat_digit] at this
      change 48 + n % 10 = 48 at this
      omega
    · rw [decimalPlain_of_ge (by omega), List.head?_append_of_ne_nil _ (decimalPlain_ne_nil _)]
      exact ih (n / 10) (by omega) (by omega)

theorem spelled_decimalPlain (n : Nat) : spelled (decimalPlain n) = n := by
  induction n using Nat.strong_induction_on with
  | _ n ih =>
    by_cases h : n < 10
    · rw [decimalPlain_of_lt h, ← List.nil_append [digit n], spelled_append_digit]
      show 10 * 0 + n % 10 = n
      omega
    · rw [decimalPlain_of_ge (by omega), spelled_append_digit, ih _ (by omega)]
      omega

/-! ## The length mix and the grade letter (R179, R181) -/

theorem joinSpaced_eq (l : List (List Byte)) : joinSpaced l = List.intercalate [0x20#8] l := by
  induction l with
  | nil => rfl
  | cons t ts ih =>
    cases ts with
    | nil => simp [joinSpaced, List.intercalate]
    | cons u us =>
      show t ++ [0x20#8] ++ joinSpaced (u :: us) = _
      rw [ih, List.intercalate_cons_cons]

theorem allBands_eq : allBands = (List.finRange 12).map fun i => i.val + 2 := by decide

theorem bandIdx_add_two (i : Fin 12) : bandIdx (i.val + 2) = i := by
  apply Fin.ext
  show min (i.val + 2 - 2) 11 = i.val
  omega

theorem mixText_eq (b : Bundle) : mixText b = List.intercalate [0x20#8]
    (((List.finRange 12).filter fun i => 0 < b.bands[i].deposited + b.bands[i].unverified).map fun i =>
      decimalPlain (i.val + 2) ++ [0x3A#8] ++ decimalPlain (b.bands[i].deposited + b.bands[i].unverified)) := by
  have hband : ∀ i : Fin 12, b.bandStrips (i.val + 2) = b.bands[i].deposited + b.bands[i].unverified := fun i => by
    simp only [Bundle.bandStrips, bandIdx_add_two]
  rw [mixText, joinSpaced_eq, allBands_eq, List.filter_map, List.map_map]
  simp only [Function.comp_def, hband]

theorem gradeLetter_of_worst {b : Bundle} {g : Grade} (h : 0 < b.gradeCounts[gradeIdx g])
    (hworse : ∀ k : Grade, g.num < k.num → b.gradeCounts[gradeIdx k] = 0) : gradeLetter b = [match g with
      | .g1 => 0x50#8
      | .g2 => 0x53#8
      | .g3 => 0x4E#8
      | .g4 => 0x52#8] := by
  have hzero : ∀ k : Grade, g.num < k.num → ¬ 0 < b.gradeCounts[gradeIdx k] := fun k hk => by rw [hworse k hk]; omega
  cases g with
  | g4 => exact if_pos h
  | g3 => exact (if_neg (hzero .g4 (by decide))).trans (if_pos h)
  | g2 => exact (if_neg (hzero .g4 (by decide))).trans ((if_neg (hzero .g3 (by decide))).trans (if_pos h))
  | g1 => exact (if_neg (hzero .g4 (by decide))).trans ((if_neg (hzero .g3 (by decide))).trans
      ((if_neg (hzero .g2 (by decide))).trans (if_pos h)))

/-- A byte that is no field code is copied. -/
theorem fieldText_literal (b : Bundle) (mill : List Byte) {x : Byte} (h : x.toNat < 0x80 ∨ 0x8D < x.toNat) :
    fieldText b mill x = [x] := by
  unfold fieldText
  split
  all_goals first | rfl | omega

/-! ## The label text (R182, R183) -/

theorem labelBody_cons (b : Bundle) (mill : List Byte) {x : Byte} (h : x ≠ 0x8B#8) (t : List Byte) :
    labelBody b mill (x :: t) = fieldText b mill x ++ labelBody b mill t := if_neg h

theorem labelBody_of_plain (b : Bundle) (mill : List Byte) {t : List Byte} (h : ∀ x ∈ t, x ≠ 0x8B#8) :
    labelBody b mill t = t.flatMap (fieldText b mill) := by
  induction t with
  | nil => rfl
  | cons x t ih =>
    rw [labelBody_cons b mill (h x List.mem_cons_self), ih fun y hy => h y (List.mem_cons_of_mem _ hy), List.flatMap_cons]

theorem labelBody_append_check (b : Bundle) (mill : List Byte) {t : List Byte} (h : ∀ x ∈ t, x ≠ 0x8B#8) :
    labelBody b mill (t ++ [0x8B#8]) = t.flatMap (fieldText b mill) := by
  induction t with
  | nil => rfl
  | cons x t ih =>
    rw [List.cons_append, labelBody_cons b mill (h x List.mem_cons_self), ih fun y hy => h y (List.mem_cons_of_mem _ hy),
      List.flatMap_cons]

theorem endsWithCheck_of_plain {t : List Byte} (h : ∀ x ∈ t, x ≠ 0x8B#8) : endsWithCheck t = false := by
  rw [endsWithCheck, decide_eq_false_iff_not]
  intro hlast
  exact h _ (List.mem_of_getLast? hlast) rfl

theorem endsWithCheck_append (t : List Byte) : endsWithCheck (t ++ [0x8B#8]) = true := by
  simp [endsWithCheck, checkField]

theorem length_checkDigits (c : CheckValue) : (checkDigits c).length = 4 := rfl

/-! ## Frames (Table 11-1) -/

theorem checkAgrees_append (body v : List Byte) (n : Nat) (hn : body.length = n) :
    checkAgrees n (body ++ v) = (v == toBytes 2 (checkCode body).toNat) := by
  rw [checkAgrees, ← hn, List.drop_left, List.take_left]

/-- A whole request frame whose last two bytes are v (R192). -/
theorem decodeRequest_frame (code : Byte) {p v : List Byte} (hp : p.length ≤ 600) (hv : v.length = 2) :
    decodeRequest (0xA5#8 :: (toBytes 2 p.length ++ code :: p) ++ v) =
      if v = toBytes 2 (checkCode (toBytes 2 p.length ++ code :: p)).toNat then some (requestCommand code p)
      else some .linkFrameDiscarded := by
  have hbody : (toBytes 2 p.length ++ code :: p).length = p.length + 3 := by
    rw [List.length_append, length_toBytes, List.length_cons]
    omega
  have hfield : fieldAt (toBytes 2 p.length ++ code :: p ++ v) 0 2 = p.length := by
    rw [List.append_assoc, fieldAt_front, Nat.mod_eq_of_lt (by omega)]
  have hlength : (toBytes 2 p.length ++ code :: p ++ v).length = p.length + 5 := by
    rw [List.length_append, hbody, hv]
  have hcode : (toBytes 2 p.length ++ code :: p ++ v).getD 2 0#8 = code := rfl
  have hpayload : ((toBytes 2 p.length ++ code :: p ++ v).drop 3).take p.length = p :=
    List.take_left
  rw [List.cons_append, decodeRequest]
  simp only [hfield, hlength, hcode, hpayload, requestStart, Config.payloadLimit, checkAgrees_append _ v _ hbody, ne_eq,
    not_true_eq_false, if_false, beq_iff_eq]
  rw [if_neg (by omega), if_neg (by omega)]

theorem decodeRequest_requestFrame (code : Byte) {p : List Byte} (hp : p.length ≤ 600) :
    decodeRequest (requestFrame code p) = some (requestCommand code p) :=
  (decodeRequest_frame code hp (length_toBytes 2 _)).trans (if_pos rfl)

/-- The command of a request's code and payload is the request. -/
theorem requestCommand_request? {i : Instr} {code : Byte} {p : List Byte} (h : i.request? = some (code, p))
    (hform : i.formOk = true) : requestCommand code p = i := by
  cases i
  all_goals
    first
    | exact absurd h (Option.some_ne_none _).symm
    | obtain ⟨rfl, rfl⟩ := Prod.mk.inj (Option.some.inj h)
  case setTemplate p => exact if_neg (by simpa [Instr.formOk] using hform)
  case setMillId p => exact if_pos hform
  all_goals rfl

theorem requestCommand_of_unknown {code : Byte} (h : isRequestCode code = false) (p : List Byte) :
    requestCommand code p = .unknownRequest code := by
  unfold requestCommand
  split
  case h_44 => rfl
  all_goals
    next hcode =>
      rw [isRequestCode, hcode] at h
      exact absurd h (by decide)

/-- A whole station frame with its check value (R41, R207). -/
theorem decodeStation_stationFrame {p : List Byte} (h : reportWellFormed p = true) :
    decodeStation (stationFrame p) = some (.reportReceived p) := by
  have hwell : fieldAt p 8 1 ≤ 32 ∧ p.length = 9 + 7 * fieldAt p 8 1 := by simpa [reportWellFormed] using h
  obtain ⟨hcount, hlen⟩ := hwell
  let v := toBytes 2 (checkCode (toBytes 2 p.length ++ p)).toNat
  have hbody : (toBytes 2 p.length ++ p).length = p.length + 2 := by
    rw [List.length_append, length_toBytes]
    omega
  have hfield : fieldAt (toBytes 2 p.length ++ p ++ v) 0 2 = p.length := by
    rw [List.append_assoc, fieldAt_front, Nat.mod_eq_of_lt (by omega)]
  have hlength : (toBytes 2 p.length ++ p ++ v).length = p.length + 4 := by
    rw [List.length_append, hbody, length_toBytes]
  have hpayload : ((toBytes 2 p.length ++ p ++ v).drop 2).take p.length = p := List.take_left
  have hok : reportLengthOk p.length = true := by
    simp only [reportLengthOk, hlen, Bool.and_eq_true, decide_eq_true_eq]
    omega
  show decodeStation (stationStart :: (toBytes 2 p.length ++ p ++ v)) = _
  rw [decodeStation]
  simp only [hfield, hlength, hpayload, hok, checkAgrees_append _ v _ hbody, v, ne_eq, not_true_eq_false, if_false, beq_self_eq_true,
    Bool.not_true, Bool.false_eq_true, if_true]
  exact if_neg (by omega)

end Sys2Proof.Machine

namespace Sys2Proof.Claims

open Sys2Proof Sys2Proof.Machine

/-- Settles O48: the decimals by their digits, the field texts code by code, the label text by its cut. -/
theorem labelTextIsCutAndChecked : Obligations.LabelTextIsCutAndChecked := by
  refine ⟨fun w n => ⟨length_decimal w n, decimal_range w n, spelled_decimal w n⟩,
    fun n => ⟨decimalPlain_ne_nil n, decimalPlain_range n, decimalPlain_head n, spelled_decimalPlain n⟩,
    fun b mill => ?_, fun k b mill t ht => ?_⟩
  · intro text cm area strips
    exact ⟨rfl, rfl, rfl, rfl, rfl, rfl, rfl, fun g h hw => gradeLetter_of_worst h hw, rfl, rfl, rfl, rfl, mixText_eq b,
      fun x hx => fieldText_literal b mill hx⟩
  · intro whole plain checked
    have hplain : endsWithCheck t = false := endsWithCheck_of_plain ht
    have hchecked := endsWithCheck_append t
    have hlimit : bodyLimit t = 320 := by simp [bodyLimit, hplain, Config.labelBytes]
    have hlimit4 : bodyLimit (t ++ [0x8B#8]) = 316 := by simp [bodyLimit, hchecked, Config.labelBytes]
    have hcut : cutBody b mill t = whole.take 320 := by rw [cutBody, labelBody_of_plain b mill ht, hlimit]
    have hcut4 : cutBody b mill (t ++ [0x8B#8]) = whole.take 316 := by rw [cutBody, labelBody_append_check b mill ht, hlimit4]
    have htext : plain.text = whole.take 320 := by
      show (if endsWithCheck t = true then _ else cutBody b mill t) = _
      rw [hplain, hcut]
      rfl
    have hcheck : plain.check = checkCode (whole.take 320) := congrArg checkCode hcut
    have hcheck4 : checked.check = checkCode (whole.take 316) := congrArg checkCode hcut4
    have htext4 : checked.text = whole.take 316 ++ checkDigits checked.check := by
      show (if endsWithCheck (t ++ [0x8B#8]) = true then cutBody b mill (t ++ [0x8B#8]) ++ checkDigits checked.check else _) = _
      rw [hchecked, hcut4]
      rfl
    refine ⟨htext, hcheck, ?_, hcheck4, htext4, ?_, ?_, ?_, rfl, rfl, rfl, rfl, rfl, rfl⟩
    · show decide (bodyLimit t < (labelBody b mill t).length) = _
      rw [hlimit, labelBody_of_plain b mill ht]
    · show decide (bodyLimit (t ++ [0x8B#8]) < (labelBody b mill (t ++ [0x8B#8])).length) = _
      rw [hlimit4, labelBody_append_check b mill ht]
    · rw [htext, List.length_take]
      exact Nat.min_le_left _ _
    · rw [htext4, List.length_append, List.length_take, length_checkDigits]
      omega

/-- Settles O56: a whole frame is read back field by field. -/
theorem framesDecodeToTheirCommand : Obligations.FramesDecodeToTheirCommand := by
  refine ⟨fun i hwell f hf => ?_, fun code p hp => ⟨fun hcode => ?_, fun v hv hne => ?_⟩,
    fun p hp => decodeStation_stationFrame hp⟩
  · obtain ⟨⟨code, p⟩, hrequest, rfl⟩ := Option.map_eq_some_iff.mp hf
    have hpform : (decide (p.length ≤ Config.payloadLimit) && i.formOk) = true := by
      simpa only [Instr.wellFormed, hrequest] using hwell
    rw [Bool.and_eq_true, decide_eq_true_eq] at hpform
    obtain ⟨hp, hform⟩ := hpform
    rw [decodeRequest_requestFrame code hp, requestCommand_request? hrequest hform]
  · rw [decodeRequest_requestFrame code hp, requestCommand_of_unknown hcode]
  · rw [decodeRequest_frame code hp hv, if_neg hne]

end Sys2Proof.Claims
end

section
set_option Elab.async false
/-! PROOF. Programs, orders, and the interpreter between words (O49, O50). -/

namespace Sys2Proof.Machine

open Sys2Proof Claims

/-! ## What hearing a request does to the order unit -/

/-- The order records keep their ids and number, and an interpreter that changes is RUNNING, QUEUE_WAIT or PAUSED. -/
structure Rested (s t : State) : Prop where
  table : ∃ g : Order → Order, (∀ o, (g o).id = o.id) ∧ t.orders.table = s.orders.table.map g
  interp : t.orders.interp = s.orders.interp ∨ t.orders.interp.state ≠ .held

namespace Rested

variable {s t : State}

theorem refl (s : State) : Rested s s := ⟨⟨id, fun _ => rfl, (List.map_id _).symm⟩, .inl rfl⟩

theorem length (h : Rested s t) : t.orders.table.length = s.orders.table.length := by
  obtain ⟨g, -, hg⟩ := h.table
  rw [hg, List.length_map]

theorem isSome_order? (h : Rested s t) (id : Nat) : (t.order? id).isSome = (s.order? id).isSome := by
  obtain ⟨g, hid, hg⟩ := h.table
  rw [State.order?, State.order?, hg, List.find?_map, Option.isSome_map]
  congr 2
  funext o
  simp [hid]

theorem order?_none (h : Rested s t) {id : Nat} (ho : s.order? id = none) : t.order? id = none := by
  rw [← Option.isNone_iff_eq_none, ← Option.not_isSome, h.isSome_order? id, ho]
  rfl

end Rested

theorem takeUpFront_rested (s : State) : Rested s (takeUpFront s) := by
  unfold takeUpFront
  split
  · exact .refl s
  next id rest hrun =>
    refine ⟨⟨fun o => if o.id = id then { o with state := .active } else o, fun o => ?_, rfl⟩, .inr InterpreterState.noConfusion⟩
    dsimp only
    split <;> rfl

theorem pauseChanged_rested (s : State) : Rested s (pauseChanged s) := by
  obtain ⟨-, h⟩ | ⟨-, -, h⟩ | ⟨-, -, h⟩ := pauseChanged_cases s
  · rw [h]
    unfold pauseInterp
    split
    · exact ⟨(Rested.refl s).table, .inr InterpreterState.noConfusion⟩
    · exact .refl s
  · rw [h]
    refine ⟨(Rested.refl s).table, .inr ?_⟩
    show (if _ then InterpreterState.queueWait else InterpreterState.running) ≠ InterpreterState.held
    split <;> exact InterpreterState.noConfusion
  · rw [h]
    obtain h' | ⟨-, h'⟩ := takeUp_cases s
    · rw [h']; exact .refl s
    · rw [h']; exact takeUpFront_rested s

theorem found_rested (s : State) : Rested s (found s) := by
  unfold found
  cases h : s.link.hold with
  | false =>
    rw [heard_clear (entered s) h]
    exact ⟨(Rested.refl s).table, .inl rfl⟩
  | true =>
    rw [heard_held (s := entered s) h]
    obtain ⟨htable, hinterp⟩ := pauseChanged_rested ((entered s).updLink fun l =>
      { l with watchdog := (entered s).limits.watchdogStart, hold := false })
    exact ⟨htable, hinterp⟩

/-- A HELD interpreter stays as it is. -/
theorem found_orders_of_held {s : State} (h : s.orders.interp.state = .held) : (found s).orders = s.orders := by
  unfold found
  cases hh : s.link.hold with
  | false =>
    rw [heard_clear (entered s) hh]
    rfl
  | true =>
    rw [heard_held (s := entered s) hh]
    generalize hu : (entered s).updLink _ = u
    have ho : u.orders = s.orders := by rw [← hu]; rfl
    have hi : u.orders.interp.state = .held := by rw [ho]; exact h
    cases hp : u.pauseCondition with
    | true =>
      rw [pauseChanged_orders_of_pause u hp, if_neg (by rw [hi]; decide), ho]
    | false =>
      rw [pauseChanged_of_not_paused u hp (by rw [hi]; decide), takeUp_of_busy_or_empty u (.inl (by rw [hi]; decide)), ho]

/-! ## Program words (R155) -/

@[simp] theorem length_wordBytes (w : ProgramWord) : (wordBytes w).length = 4 := by simp [wordBytes]

theorem length_flatMap_wordBytes (words : List ProgramWord) : (words.flatMap wordBytes).length = 4 * words.length := by
  induction words with
  | nil => rfl
  | cons w words ih =>
    rw [List.flatMap_cons, List.length_append, ih, length_wordBytes, List.length_cons]
    omega

theorem wordOf_wordBytes {w : ProgramWord} (hc : w.code ≤ 255) (ha : w.a ≤ 255) (hb : w.b ≤ 65535) (rest : List Byte) :
    wordOf (wordBytes w ++ rest) = w := by
  have hcode : fieldAt (wordBytes w ++ rest) 0 1 = w.code := by
    rw [wordBytes, List.append_assoc, List.append_assoc, fieldAt_front, Nat.mod_eq_of_lt (by omega)]
  have hfirst : fieldAt (wordBytes w ++ rest) 1 1 = w.a := by
    rw [wordBytes, List.append_assoc, List.append_assoc, fieldAt_skip _ _ (le_refl 1), fieldAt_front, Nat.mod_eq_of_lt (by omega)]
  have hsecond : fieldAt (wordBytes w ++ rest) 2 2 = w.b := by
    rw [wordBytes, List.append_assoc, List.append_assoc, fieldAt_skip _ _ (by omega), fieldAt_skip _ _ (by omega),
      fieldAt_front, Nat.mod_eq_of_lt (by omega)]
  rw [wordOf, hcode, hfirst, hsecond]

theorem wordsOf_flatMap {words : List ProgramWord} (h : ∀ w ∈ words, w.code ≤ 255 ∧ w.a ≤ 255 ∧ w.b ≤ 65535) :
    wordsOf words.length (words.flatMap wordBytes) = words := by
  induction words with
  | nil => rfl
  | cons w words ih =>
    obtain ⟨hc, ha, hb⟩ := h w List.mem_cons_self
    rw [List.length_cons, List.flatMap_cons, wordsOf, wordOf_wordBytes hc ha hb, List.drop_left' (length_wordBytes w),
      ih fun x hx => h x (List.mem_cons_of_mem _ hx)]

theorem writeWords_get (m : Vector ProgramWord 256) (a : Nat) (words : List ProgramWord) (k : Fin 256) :
    (writeWords m a words)[k] = if k.val < a then m[k] else (words[k.val - a]?).getD m[k] := by
  induction words generalizing m a with
  | nil => simp [writeWords]
  | cons w words ih =>
    rw [writeWords, ih]
    have hset : (m.setIfInBounds a w)[k] = if a = k.val then w else m[k] := Vector.getElem_setIfInBounds _
    rw [hset]
    rcases lt_trichotomy k.val a with hlt | heq | hgt
    · rw [if_pos (show k.val < a + 1 by omega), if_pos hlt, if_neg (show ¬ a = k.val by omega)]
    · rw [if_pos (show k.val < a + 1 by omega), if_neg (show ¬ k.val < a by omega), if_pos heq.symm, show k.val - a = 0 by omega]
      rfl
    · rw [if_neg (show ¬ k.val < a + 1 by omega), if_neg (show ¬ k.val < a by omega), if_neg (show ¬ a = k.val by omega), show k.val - a = k.val - (a + 1) + 1 by omega]
      rfl

/-- LOAD PROGRAM of a whole list (R155). -/
theorem loadProgram_words {s : State} {a : Nat} {words : List ProgramWord} (ha : a ≤ 255) (h1 : 1 ≤ words.length)
    (h2 : words.length ≤ 128) (h : ∀ w ∈ words, w.code ≤ 255 ∧ w.a ≤ 255 ∧ w.b ≤ 65535) :
    loadProgram (toBytes 2 a ++ words.flatMap wordBytes) s = if 256 < a + words.length then .error .badArgument else
      taken { s with orders := { s.orders with program := writeWords s.orders.program a words } } := by
  have hstart : fieldAt (toBytes 2 a ++ words.flatMap wordBytes) 0 2 = a := by
    rw [fieldAt_front, Nat.mod_eq_of_lt (by omega)]
  have hread : wordsOf (((toBytes 2 a ++ words.flatMap wordBytes).length - 2) / 4)
      ((toBytes 2 a ++ words.flatMap wordBytes).drop 2) = words := by
    rw [List.length_append, length_toBytes, length_flatMap_wordBytes, List.drop_left' (length_toBytes 2 a),
      show (2 + 4 * words.length - 2) / 4 = words.length by omega, wordsOf_flatMap h]
  have hne : words ≠ [] := List.ne_nil_of_length_pos h1
  unfold loadProgram
  rw [hstart, hread]
  by_cases hpast : 256 < a + words.length
  · simp [hpast]
  · rw [if_neg hpast, if_neg]
    simp only [hne, decide_false, Bool.or_false, Bool.or_eq_true, decide_eq_true_eq]
    omega

/-! ## ADD ORDER (R157) -/

/-- ADD ORDER with an id and a start address in their ranges. -/
theorem addOrder_eq {s : State} {id : Nat} (start : Fin 256) (h1 : 1 ≤ id) (h2 : id ≤ 65535) :
    addOrder (toBytes 2 id ++ toBytes 2 start.val) s = if (s.order? id).isSome then .error .badArgument else
      if 8 ≤ s.orders.table.length then .error .tableFull else taken (createOrder s id start) := by
  have hid : fieldAt (toBytes 2 id ++ toBytes 2 start.val) 0 2 = id := by
    rw [fieldAt_front, Nat.mod_eq_of_lt (by omega)]
  have hstart : fieldAt (toBytes 2 id ++ toBytes 2 start.val) 2 2 = start.val := by
    rw [fieldAt_skip _ _ (le_refl 2), fieldAt_whole, Nat.mod_eq_of_lt (by omega)]
  unfold addOrder
  simp only [hid, hstart, start.isLt, dite_true, if_neg (show ¬ id = 0 by omega), Config.orderCapacity]

/-- The order that joins an IDLE interpreter's empty run list outside a pause is taken up at once (R159). -/
theorem createOrder_of_idle {s : State} {id : Nat} (start : Fin 256) (ho : s.order? id = none)
    (hi : s.orders.interp.state = .idle) (hp : s.pauseCondition = false) (hr : s.orders.runList = []) :
    createOrder s id start = State.bump { s with orders := { s.orders with
      table := s.orders.table ++ [{ newOrder id start with state := .active }]
      interp := tookUp s.orders.interp id start } } .ordersAdded := by
  let u : State := State.bump { s with orders := { s.orders with
    table := s.orders.table ++ [newOrder id start], runList := s.orders.runList ++ [id] } } .ordersAdded
  have hrun : u.orders.runList = [id] := by
    show s.orders.runList ++ [id] = [id]
    rw [hr]
    rfl
  have hself : u.order? id = some (newOrder id start) := by
    show (s.orders.table ++ [newOrder id start]).find? _ = _
    rw [List.find?_append, show s.orders.table.find? _ = none from ho]
    simp [newOrder]
  have hothers : ∀ x ∈ s.orders.table, x.id ≠ id := by simpa [State.order?] using ho
  have htable : u.orders.table.map (fun x => if x.id = id then { x with state := .active } else x) =
      s.orders.table ++ [{ newOrder id start with state := .active }] := by
    show (s.orders.table ++ [newOrder id start]).map _ = _
    rw [List.map_append, List.map_congr_left (g := fun x => x) fun x hx => if_neg (hothers x hx), List.map_id', List.map_singleton,
      if_pos (show (newOrder id start).id = id from rfl)]
  show takeUp u = _
  rw [takeUp_due (s := u) hi hp (by rw [hrun]; exact List.cons_ne_nil _ _), takeUpFront_eq hrun hself, takenUp, htable, ← hr]
  rfl

theorem createOrder_of_stays {s : State} (id : Nat) (start : Fin 256)
    (h : s.orders.interp.state ≠ .idle ∨ s.pauseCondition = true) :
    createOrder s id start = State.bump { s with orders := { s.orders with
      table := s.orders.table ++ [newOrder id start], runList := s.orders.runList ++ [id] } } .ordersAdded := by
  refine if_neg fun hdue => ?_
  obtain ⟨hidle, hp, -⟩ := (takeUpDue_iff _).mp hdue
  rcases h with h | h
  · exact h hidle
  · exact Bool.noConfusion (h.symm.trans hp)

/-! ## RELEASE ORDER (R165) -/

theorem found_pauseCondition {s : State} : (found s).pauseCondition = decide (s.link.line ≠ .running) := by
  simp [State.pauseCondition]

theorem releaseOrder_eq {s : State} {id : Nat} {o : Order} (h1 : 1 ≤ id) (h2 : id ≤ 65535) (ho : s.order? id = some o) :
    releaseOrder (toBytes 2 id) s = if s.orders.interp.state = .held ∧ s.orders.interp.order = some id then
      taken (s.updInterp fun i => { i with state := if s.pauseCondition then .paused else .running })
      else .error .wrongState := by
  rw [releaseOrder, orderRequest_some (fieldAt_id h2) h1 ho, State.order?_id ho]

end Sys2Proof.Machine

namespace Sys2Proof.Claims

open Sys2Proof Sys2Proof.Machine

/-- Settles O49: the words are read back and written in order, and an order joins the table and the run list. -/
theorem programsAndOrders : Obligations.ProgramsAndOrders := by
  intro s h
  refine ⟨fun a words => ?_, fun id start => ?_⟩
  · intro p hr ha h1 h2 hw
    have hlen : (within 2 514 p.length && decide (p.length % 4 = 2)) = true := by
      simp only [p, List.length_append, length_toBytes, length_flatMap_wordBytes, within, Bool.and_eq_true, decide_eq_true_eq]
      omega
    have hload := loadProgram_words (s := h) ha h1 h2 hw
    refine ⟨fun hpast => ?_, fun hfits => ⟨writeWords s.orders.program a words, ?_, writeWords_get _ a words⟩⟩
    · exact exec_refused (f := loadProgram) rfl hr hlen (by decide) (by rw [hload, if_pos hpast])
    · refine exec_taken (f := loadProgram) rfl hr hlen ?_
      rw [hload, if_neg (by omega), found_program]
  · intro p o hr h1 h2
    have hlen : decide (p.length = 4) = true := by simp [p]
    have hrest := found_rested s
    have hadd := addOrder_eq (s := h) start h1 h2
    refine ⟨fun hsome => ?_, fun hnone hfull => ?_, fun hnone hroom => ⟨fun hstays => ?_, fun hidle hline hrun => ?_⟩⟩
    · exact exec_refused (f := addOrder) rfl hr hlen (by decide)
        (by rw [hadd, if_pos ((hrest.isSome_order? id).trans hsome)])
    · exact exec_refused (f := addOrder) rfl hr hlen (by decide) (by
        rw [hadd, hrest.order?_none hnone, if_neg (by decide), if_pos (by rw [hrest.length]; omega)])
    all_goals
      refine exec_taken (f := addOrder) rfl hr hlen ?_
      rw [hadd, hrest.order?_none hnone, if_neg (by decide), if_neg (by rw [hrest.length]; omega)]
      refine congrArg taken ?_
    · refine createOrder_of_stays id start (hstays.imp_right fun hline => ?_)
      rw [found_pauseCondition]
      exact decide_eq_true hline
    · refine createOrder_of_idle start (hrest.order?_none hnone) hidle ?_ hrun
      rw [found_pauseCondition]
      exact decide_eq_false (not_not.mpr hline)

/-- Settles O50, by the interpreter's state. -/
theorem interpreterStartsAndResumes : Obligations.InterpreterStartsAndResumes := by
  intro s i paused
  have hpause : (entered s).pauseCondition = true ↔ paused := by
    rw [State.pauseCondition, Bool.or_eq_true, decide_eq_true_eq]
    rfl
  have hnot : ¬ paused → (entered s).pauseCondition = false := fun hp => Bool.eq_false_iff.mpr (mt hpause.mp hp)
  refine ⟨fun hpin => ⟨fun id rest o hi hp hrun ho => ?_, fun h => ?_, fun hi hp => ?_, fun h => ?_⟩,
    fun id hr h1 h2 => ⟨fun hnone => ?_, fun hsome => ⟨fun hi ho => ?_, fun hne => ?_⟩⟩⟩
  · have hdue := takeUp_due (s := entered s) hi (hnot hp) (by rw [show (entered s).orders.runList = id :: rest from hrun]; simp)
    exact (takeEvent_entered hpin takeUp).trans (congrArg _ (hdue.trans (takeUpFront_eq (s := entered s) hrun ho)))
  · refine (takeEvent_entered hpin takeUp).trans (congrArg _ (if_neg fun hdue => ?_))
    obtain ⟨hidle, hp, hrun⟩ := (takeUpDue_iff _).mp hdue
    rcases h with h | h | h
    · exact h hidle
    · exact Bool.noConfusion ((hpause.mpr h).symm.trans hp)
    · exact hrun h
  · have hdue : resumeDue (entered s) = true := by
      simp [resumeDue, hnot hp, show (entered s).orders.interp.state = .paused from hi]
    exact (takeEvent_entered hpin fun s => if resumeDue s then resumePaused s else s).trans (congrArg _ (if_pos hdue))
  · refine (takeEvent_entered hpin fun s => if resumeDue s then resumePaused s else s).trans (congrArg _ (if_neg fun hdue => ?_))
    simp only [resumeDue, Bool.and_eq_true, decide_eq_true_eq, Bool.not_eq_true'] at hdue
    obtain ⟨hpaused, hp⟩ := hdue
    rcases h with h | h
    · exact h hpaused
    · exact Bool.noConfusion ((hpause.mpr h).symm.trans hp)
  · exact exec_refused (f := releaseOrder) rfl hr (by simp) (by decide)
      (orderRequest_none (fieldAt_id h2) h1 ((found_rested s).order?_none hnone))
  all_goals
    have hsome' := ((found_rested s).isSome_order? id).trans hsome
    obtain ⟨o, ho'⟩ := Option.isSome_iff_exists.mp hsome'
    have hrelease := releaseOrder_eq h1 h2 ho'
  · have horders := found_orders_of_held hi
    refine exec_taken (f := releaseOrder) rfl hr (by simp) ?_
    rw [hrelease, horders, if_pos ⟨hi, ho⟩, State.updInterp, horders, found_pauseCondition]
    by_cases hline : s.link.line = .running <;> simp [hline, i]
  · refine exec_refused (f := releaseOrder) rfl hr (by simp) (by decide) ?_
    rw [hrelease, if_neg]
    rintro ⟨hheld, hid⟩
    obtain hsame | hnot := (found_rested s).interp
    · rw [hsame] at hheld hid
      exact hne.elim (· hheld) (· hid)
    · exact hnot hheld

end Sys2Proof.Claims
end

section
set_option Elab.async false
/-! PROOF. A bay that opens a bundle, enters EMPTY and applies its completion test (R126, R133, Table 7-4). -/

namespace Sys2Proof.Machine

open Sys2Proof Claims

/-! ## The bundle serial (R125) -/

theorem State.freeBundleSerial_mem {s : State} (h : 1 ≤ s.bundleSerial ∧ s.bundleSerial ≤ 999999) :
    1 ≤ s.freeBundleSerial ∧ s.freeBundleSerial ≤ 999999 :=
  firstFree_induction (next := cyclicNext 999999) (P := fun n => 1 ≤ n ∧ n ≤ 999999) (fun _ => cyclicNext_mem) _ h

theorem State.serialTaken_iff (s : State) (n : Nat) : s.serialTaken n = true ↔
    (∃ k b, (s.bay k).bundle = some b ∧ b.serial = n) ∨ ∃ r ∈ s.labels.table, r.bundle = n := by
  simp only [State.serialTaken, Bool.or_eq_true, List.any_eq_true, decide_eq_true_eq, Option.map_eq_some_iff]
  refine or_congr ⟨?_, ?_⟩ Iff.rfl
  · rintro ⟨k, -, b, hb, hn⟩
    exact ⟨k, b, hb, hn⟩
  · rintro ⟨k, b, hb, hn⟩
    exact ⟨k, mem_allBays k, b, hb, hn⟩

theorem State.freeBundleSerial_not_taken {s : State} (h : 1 ≤ s.bundleSerial ∧ s.bundleSerial ≤ 999999)
    (hl : s.labels.table.length ≤ 16) : s.serialTaken s.freeBundleSerial = false := by
  refine firstFree_cyclic (limit := 999999) h (l := allBays.filterMap (fun k => (s.bay k).bundle.map (·.serial)) ++
    s.labels.table.map (·.bundle)) ?_ (fun m hm => ?_) ?_
  · have : allBays.length = 8 := rfl
    omega
  · rcases (s.serialTaken_iff m).mp hm with ⟨k, b, hb, rfl⟩ | ⟨r, hr, rfl⟩
    · exact List.mem_append_left _ (List.mem_filterMap.mpr ⟨k, mem_allBays k, by rw [hb]; rfl⟩)
    · exact List.mem_append_right _ (List.mem_map.mpr ⟨r, hr, rfl⟩)
  · rw [List.length_append, List.length_map]
    exact Nat.add_le_add_right (List.length_filterMap_le _ _) _

/-- The serial of a new bundle is in the counter's range, no bay's and no label's. -/
theorem freeBundleSerial_fresh {s : State} (h1 : 1 ≤ s.bundleSerial) (h2 : s.bundleSerial ≤ 999999)
    (hl : s.labels.table.length ≤ 16) : 1 ≤ s.freeBundleSerial ∧ s.freeBundleSerial ≤ 999999 ∧
      (∀ j b, (s.bay j).bundle = some b → b.serial ≠ s.freeBundleSerial) ∧
      ∀ r ∈ s.labels.table, r.bundle ≠ s.freeBundleSerial := by
  have hmem := State.freeBundleSerial_mem ⟨h1, h2⟩
  have hfree := mt (s.serialTaken_iff s.freeBundleSerial).mpr (by
    rw [State.freeBundleSerial_not_taken ⟨h1, h2⟩ hl]
    decide)
  refine ⟨hmem.1, hmem.2, fun j b hb he => hfree (.inl ⟨j, b, hb, he⟩), fun r hr he => hfree (.inr ⟨r, hr, he⟩)⟩

/-! ## Opening a bundle (R126) -/

/-- The completion test of an order that is neither EMITTED nor CANCELLED, or has a bundle that has not ended (R171). -/
theorem orderTest_of_open {s : State} {id : Nat} {o : Order} (ho : s.order? id = some o)
    (h : (o.state ≠ .emitted ∧ o.state ≠ .cancelled) ∨ o.allEnded = false) : orderTest s id = s := by
  obtain hs | ⟨x, hx, hst, -, hall, -⟩ | ⟨x, hx, hst, hall, -, -⟩ := orderTest_cases s id
  · exact hs
  all_goals
    obtain rfl := Option.some.inj (ho.symm.trans hx)
    rcases h with ⟨h1, h2⟩ | h
    · first | exact absurd hst h1 | exact absurd hst h2
    · exact Bool.noConfusion (h.symm.trans hall)

/-- A bay opens a bundle with the oldest entry, as the claims name it. -/
theorem openBundle_eq {s : State} {k : BayId} {e : QueueEntry} {rest : List QueueEntry} {copy : Recipe} {o : Order}
    (hq : s.orders.queue = e :: rest) (hr : s.orders.recipes[e.recipe] = some copy) (ho : s.order? e.order = some o)
    (h : (o.state ≠ .emitted ∧ o.state ≠ .cancelled) ∨ o.labelled + o.aborted + o.closedEmpty ≤ o.opened) :
    openBundle s k = State.bump { s with
      bays := s.bays.set k { s.bay k with
        state := .filling, starved := false
        bundle := some (newBundle s.freeBundleSerial e.order e.recipe copy (o.opened + 1)) }
      bundleSerial := if s.freeBundleSerial = 999999 then 1 else s.freeBundleSerial + 1
      orders := { s.orders with
        queue := rest
        table := s.orders.table.map fun x => if x.id = e.order then { x with opened := x.opened + 1 } else x
        interp := if s.orders.interp.state = .queueWait then { s.orders.interp with state := .running }
          else s.orders.interp } } .bundlesOpened := by
  have hopened : (s.updOrder e.order fun o => { o with opened := o.opened + 1 }).order? e.order =
      some { o with opened := o.opened + 1 } := order?_written (fun _ => rfl) ho
  have hopen : ∀ t : State, t.order? e.order = some { o with opened := o.opened + 1 } → orderTest t e.order = t := fun t ht => by
    refine orderTest_of_open ht (h.imp_right fun hle => decide_eq_false ?_)
    dsimp only
    omega
  have hplace : ∀ t : State, t.orders.interp = s.orders.interp → placeFreed t = { t with orders := { t.orders with
      interp := if s.orders.interp.state = .queueWait then { s.orders.interp with state := .running }
        else s.orders.interp } } := fun t ht => by
    unfold placeFreed State.updInterp
    rw [ht]
    split
    · rfl
    · rw [← ht]
  simp only [openBundle, hq, hr]
  rw [hopened]
  refine (congrArg (orderTest · e.order) (hplace _ ?_)).trans ((hopen _ ?_).trans ?_)
  · rfl
  · exact hopened
  · rfl

/-! ## A bay record put in place -/

/-- Bay k comes to hold a record. -/
def withBay (u : State) (k : BayId) (r : Bay) : State := { u with bays := u.bays.set k r }

@[simp] theorem bay_withBay (u : State) (k : BayId) (r : Bay) : (withBay u k r).bay k = r := by
  simp [withBay, State.bay]

@[simp] theorem withBay_self (u : State) (k : BayId) : withBay u k (u.bay k) = u := by
  simp [withBay, State.bay]

@[simp] theorem withBay_withBay (u : State) (k : BayId) (q r : Bay) : withBay (withBay u k q) k r = withBay u k r := by
  simp [withBay]

theorem updBay_withBay (u : State) (k : BayId) (r : Bay) (f : Bay → Bay) : (withBay u k r).updBay k f = withBay u k (f r) := by
  show withBay (withBay u k r) k (f ((withBay u k r).bay k)) = _
  rw [bay_withBay, withBay_withBay]

theorem updBay_eq_withBay (u : State) (k : BayId) (f : Bay → Bay) : u.updBay k f = withBay u k (f (u.bay k)) := rfl

/-! ## Entering EMPTY (R126) -/

/-- The record of a bay that enters EMPTY, before it takes an entry or starves. -/
def Bay.emptied (r : Bay) : Bay := { r with state := .empty, origin := none, bundle := none, settleTimer := none }

theorem enterEmpty_entersEmpty {v : State} {k : BayId} {r bay : Bay} (h : r.emptied = bay.emptied) :
    EntersEmpty v k bay (enterEmpty (withBay v k r) k) := by
  have hstarved : r.starved = bay.starved := (congrArg Bay.starved h :)
  have hfirst : (withBay v k r).updBay k Bay.emptied = withBay v k bay.emptied := by rw [updBay_withBay, h]
  have henter : enterEmpty (withBay v k r) k =
      if v.orders.queue ≠ [] then openBundle (withBay v k bay.emptied) k
      else if bay.starved = true then withBay v k bay.emptied
      else ((withBay v k bay.emptied).raise .recipeStarved).updBay k fun b => { b with starved := true } := by
    unfold enterEmpty
    rw [show (withBay v k r).updBay k (fun b => { b with state := .empty, origin := none, bundle := none, settleTimer := none }) =
      withBay v k bay.emptied from hfirst]
    dsimp only
    rw [bay_withBay]
    rfl
  refine ⟨fun hq => ?_, fun e rest copy o hq hcopy ho hle h1 h2 hl => ?_⟩
  · rw [henter, if_neg (not_not.mpr hq)]
    cases hs : bay.starved with
    | true =>
      rw [if_pos rfl, if_pos rfl, Bay.emptied, hs]
      rfl
    | false =>
      rw [if_neg (by decide), if_neg (by decide)]
      show (withBay (v.raise .recipeStarved) k bay.emptied).updBay k _ = _
      rw [updBay_withBay]
      rfl
  · have hfresh := freeBundleSerial_fresh (s := withBay v k bay.emptied) h1 h2 hl
    obtain ⟨hf1, hf2, hf3, hf4⟩ := hfresh
    refine ⟨_, ⟨hf1, hf2, fun j b hj hb => hf3 j b ?_, hf4⟩, ?_⟩
    · rw [← hb, withBay, State.bay]
      simp [State.bay, Vector.getElem_set_ne, show k.val ≠ j.val from fun e => hj (Fin.ext e.symm)]
    · rw [henter, if_pos (by rw [hq]; exact List.cons_ne_nil e rest),
        openBundle_eq (s := withBay v k bay.emptied) hq hcopy ho (.inr hle)]
      rw [bay_withBay, show (withBay v k bay.emptied).bays = v.bays.set k bay.emptied from rfl, Vector.set_set]
      rfl

/-! ## The completion test (R133) -/

theorem bump_comm (s : State) {c d : Counter} (h : c ≠ d) : (s.bump c).bump d = (s.bump d).bump c := by
  have hne : c.idx.val ≠ d.idx.val := fun e => h (Counter.idx_inj (Fin.ext e))
  have hc : (s.bump d).count c = s.count c := State.count_bump_ne s h
  have hd : (s.bump c).count d = s.count d := State.count_bump_ne s h.symm
  show { s with counters := (s.counters.set c.idx _).set d.idx (min Config.counterLimit ((s.bump c).count d + 1)) } =
    { s with counters := (s.counters.set d.idx _).set c.idx (min Config.counterLimit ((s.bump d).count c + 1)) }
  rw [hc, hd, Vector.set_comm _ _ hne]

theorem State.updOrder_updOrder (s : State) (id : Nat) (f g : Order → Order) (hf : ∀ o, (f o).id = o.id) :
    (s.updOrder id f).updOrder id g = s.updOrder id fun o => g (f o) := by
  simp only [State.updOrder, List.map_map]
  congr 2
  refine List.map_congr_left fun o _ => ?_
  by_cases h : o.id = id <;> simp [h, hf]

theorem queuedCount_eq_zero_iff (s : State) (id : Nat) : s.queuedCount id = 0 ↔ ∀ e ∈ s.orders.queue, e.order ≠ id := by
  simp [State.queuedCount]

/-- The order of a bundle that closes empty is told (R133, R171). -/
theorem emptyClosed_eq (u : State) (id : Nat) :
    (orderTest (u.updOrder id fun o => { o with closedEmpty := o.closedEmpty + 1 }) id).bump .bundlesClosedEmpty =
      emptyClosed u id := by
  cases ho : u.order? id with
  | none =>
    have hnone : (u.updOrder id fun o => { o with closedEmpty := o.closedEmpty + 1 }).order? id = none := by
      rw [State.order?_updOrder_self u id (fun o => { o with closedEmpty := o.closedEmpty + 1 }) fun _ => rfl, ho]
      rfl
    simp only [orderTest, hnone, emptyClosed, ho, Option.any_none, Bool.false_eq_true, if_false, Bool.or_false]
    rfl
  | some o =>
    let o' : Order := { o with closedEmpty := o.closedEmpty + 1 }
    have hsome : (u.updOrder id fun o => { o with closedEmpty := o.closedEmpty + 1 }).order? id = some o' :=
      order?_written (fun _ => rfl) ho
    have hqueue : (u.orders.queue.all fun e => decide (e.order ≠ id)) = decide (u.queuedCount id = 0) := by
      rw [Bool.eq_iff_iff, List.all_eq_true, decide_eq_true_eq, queuedCount_eq_zero_iff]
      simp
    unfold emptyClosed
    simp only [ho, Option.any_some, hqueue]
    have hlast : o'.allEnded = decide (o.opened = o.labelled + o.aborted + (o.closedEmpty + 1)) := rfl
    have htwice := fun g => State.updOrder_updOrder u id (fun o => { o with closedEmpty := o.closedEmpty + 1 }) g fun _ => rfl
    rw [← hlast]
    generalize hw : (u.updOrder id fun o => { o with closedEmpty := o.closedEmpty + 1 }) = w at hsome htwice
    have hqw : w.queuedCount id = u.queuedCount id := by rw [← hw]; rfl
    have htest : orderTest w id = if o.state = .emitted ∧ u.queuedCount id = 0 ∧ o'.allEnded = true then
        ((w.updOrder id fun o => { o with state := .complete }).raise .orderComplete).bump .ordersCompleted
      else if o.state = .cancelled ∧ o'.allEnded = true ∧ o.settled = false then
        (w.updOrder id fun o => { o with settled := true }).raise .orderComplete
      else w := by
      rw [orderTest, hsome, ← hqw]
    by_cases hc : o.state = .emitted ∧ u.queuedCount id = 0 ∧ o'.allEnded = true
    · rw [htest, if_pos hc, bump_comm _ (by decide), htwice]
      obtain ⟨hst, hq, hall⟩ := hc
      simp only [hst, hq, hall, decide_true, Bool.and_true, reduceCtorEq, decide_false, Bool.false_and, Bool.or_false, if_true]
      rfl
    · have hcompletes : (decide (o.state = .emitted) && o'.allEnded && decide (u.queuedCount id = 0)) = false := by
        rw [Bool.eq_false_iff, ne_eq, Bool.and_eq_true, Bool.and_eq_true, decide_eq_true_eq, decide_eq_true_eq]
        exact fun ⟨⟨hst, hall⟩, hq⟩ => hc ⟨hst, hq, hall⟩
      simp only [hcompletes, Bool.false_or, Bool.false_eq_true, if_false]
      rw [htest, if_neg hc]
      by_cases hs : o.state = .cancelled ∧ o'.allEnded = true ∧ o.settled = false
      · rw [if_pos hs, htwice]
        obtain ⟨hst, hall, hset⟩ := hs
        simp only [hst, hall, hset, decide_true, Bool.and_true, Bool.not_false, Bool.or_true, if_true]
        rfl
      · have hsettles : (decide (o.state = .cancelled) && o'.allEnded && !o.settled) = false := by
          rw [Bool.eq_false_iff, ne_eq, Bool.and_eq_true, Bool.and_eq_true, decide_eq_true_eq, Bool.not_eq_true']
          exact fun ⟨⟨hst, hall⟩, hset⟩ => hs ⟨hst, hall, hset⟩
        simp only [hsettles, Bool.or_false, Bool.false_eq_true, if_false]
        rw [if_neg hs, ← hw]
        rfl

theorem emptyClosed_withBay (u : State) (k : BayId) (r : Bay) (id : Nat) :
    emptyClosed (withBay u k r) id = withBay (emptyClosed u id) k r := by
  unfold emptyClosed
  dsimp only
  rw [show (withBay u k r).order? id = u.order? id from rfl, show (withBay u k r).orders = u.orders from rfl]
  split <;> split <;> rfl

/-- The completion test of a bay that comes to hold a record with a bundle, as the claims name its outcomes. -/
theorem completionTest_afterTest (u : State) (k : BayId) (bay : Bay) (b : Bundle) :
    AfterTest u k bay b (completionTest (withBay u k { bay with bundle := some b }) k true) := by
  let r : Bay := { bay with bundle := some b }
  have hself : (withBay u k r).bay k = r := bay_withBay u k r
  have hb : ((withBay u k r).bay k).bundle = some b := by rw [hself]
  refine ⟨fun hopen => ?_, fun ⟨hst, hc, hd, hu, hcl, ht⟩ => ?_⟩
  · unfold tested
    dsimp only
    by_cases hst : bay.state = .filling
    swap
    · rw [if_pos (.inl hst)]
      exact completionTest_of_not_filling _ (by rw [hself]; exact hst) true
    have hf : ((withBay u k r).bay k).state = .filling := by rw [hself]; exact hst
    by_cases hc : 0 < b.committed
    · rw [if_pos (.inr (.inl hc))]
      exact completionTest_of_committed hf hb true hc
    have hc : b.committed = 0 := Nat.eq_zero_of_not_pos hc
    have htotal : b.total = b.deposited + b.unverified := by rw [Bundle.total, hc, Nat.zero_add]
    have hsettle : ∀ (v : State) (x : Bay), startSettle (withBay v k x) k =
        withBay v k { x with state := .settling, origin := none, settleTimer := some x.settleTime } :=
      fun v x => updBay_withBay v k x _
    by_cases ht : b.deposited + b.unverified = b.copy.target
    · rw [if_neg (by simp [hst, hc, ht]), if_pos ht]
      exact (completionTest_of_complete hf hb true hc (htotal.trans ht)).trans (hsettle u r)
    · by_cases hcl : b.closing = false
      · rw [if_pos (.inr (.inr ⟨ht, hcl⟩))]
        simp [completionTest, hst, hc, htotal, ht, hcl]
        rfl
      · have hcl : b.closing = true := Bool.of_not_eq_false hcl
        rw [if_neg (by simp [hst, hc, hcl]), if_neg ht]
        have h0 : 0 < b.total := by
          by_contra h0
          refine hopen ⟨hst, hc, by omega, by omega, hcl, ?_⟩
          omega
        rw [completionTest_of_short hf hb true hc hcl (by rw [htotal]; exact ht) h0]
        show startSettle (((withBay (u.bump .bundlesShort) k r).updBundle k fun b => { b with short := true })) k = _
        rw [State.updBundle, updBay_withBay, hsettle]
        rfl
  · have hf : ((withBay u k r).bay k).state = .filling := by rw [hself]; exact hst
    have h0 : b.total = 0 := by rw [Bundle.total]; omega
    rw [completionTest_of_empty hf hb true hc hcl h0 ht, closeEmpty]
    rw [if_pos rfl, emptyClosed_eq, emptyClosed_withBay]
    exact enterEmpty_entersEmpty rfl

end Sys2Proof.Machine
end

section
set_option Elab.async false
/-! PROOF. The requests of the bays (O43), and bundles that open and discharge (O46). -/

namespace Sys2Proof.Machine

open Sys2Proof Claims

/-! ## Requests that carry a bay number (R145 to R148) -/

theorem bayRequest_bayNum (f : State → BayId → Reply) (k : BayId) (s : State) :
    bayRequest f (toBytes 1 (bayNum k)) s = f s k := by
  have hfield : fieldAt (toBytes 1 (bayNum k)) 0 1 = bayNum k := fieldAt_toBytes (bayNum_lt k)
  rw [bayRequest, hfield, bayOfNum_bayNum]

theorem bayRequest_other (f : State → BayId → Reply) {n : Nat} (h : n = 0 ∨ 9 ≤ n) (hn : n ≤ 255) (s : State) :
    bayRequest f (toBytes 1 n) s = .error .badArgument := by
  have hfield : fieldAt (toBytes 1 n) 0 1 = n := fieldAt_toBytes (by omega)
  have hnone : bayOfNum n = none := dif_neg (by omega)
  rw [bayRequest, hfield, hnone]

theorem rejoinStrapper_of_busy {s : State} (k : BayId) (h : s.strapper.state ≠ .idle) : rejoinStrapper s k =
    { withBay s k { s.bay k with state := .waitStrap, origin := none } with
      strapper := { s.strapper with fifo := k :: s.strapper.fifo } } := arbitrate_of_none (.inl h)

theorem rejoinStrapper_of_idle {s : State} (k : BayId) (h : s.strapper.state = .idle) : rejoinStrapper s k =
    { withBay s k { s.bay k with state := .strapping, origin := none } with
      strapper := { s.strapper with state := .busy, current := some k, timer := some s.limits.strapTimeout } } := by
  let u : State := { withBay s k { s.bay k with state := .waitStrap, origin := none } with
    strapper := { s.strapper with fifo := k :: s.strapper.fifo } }
  have hfront : arbitrate u = strapping u k s.strapper.fifo := arbitrate_of_front h rfl
  have hbay : u.bay k = { s.bay k with state := .waitStrap, origin := none } := bay_withBay s k _
  refine hfront.trans ?_
  unfold strapping
  rw [hbay]
  show { s with bays := (s.bays.set k _).set k _, strapper := _ } = _
  rw [Vector.set_set]
  rfl

/-! ## The bay that takes an entry, and the discharge -/

theorem firstEmptyBay_eq {s : State} {k : BayId} (hk : (s.bay k).state = .empty) (h : ∀ j, j < k → (s.bay j).state ≠ .empty) :
    s.firstEmptyBay = some k := by
  have hsplit : ∀ k : BayId, allBays = allBays.take k.val ++ k :: allBays.drop (k.val + 1) := by decide
  have hbefore : ∀ k : BayId, ∀ j ∈ allBays.take k.val, j < k := by decide
  rw [State.firstEmptyBay, List.find?_eq_some_iff_append]
  exact ⟨decide_eq_true hk, _, _, hsplit k, fun j hj => by simpa using h j (hbefore k j hj)⟩

theorem firstEmptyBay_none {s : State} (h : ∀ j, (s.bay j).state ≠ .empty) : s.firstEmptyBay = none := by
  rw [State.firstEmptyBay, List.find?_eq_none]
  exact fun k _ => by simpa using h k

theorem offerEntry_of_none {s : State} (h : s.orders.queue = [] ∨ ∀ j, (s.bay j).state ≠ .empty) : offerEntry s = s := by
  unfold offerEntry
  split
  · rfl
  next k hk =>
    rcases h with h | h
    · rw [openBundle, h]
    · rw [firstEmptyBay_none h] at hk
      cases hk

end Sys2Proof.Machine

namespace Sys2Proof.Claims

open Sys2Proof Sys2Proof.Machine

/-- Settles O43: the reply of each request to a bay in its state. -/
theorem bayRequests : Obligations.BayRequests := by
  intro s k p put bay hr
  have hbay : (found s).bay k = bay := found_bay s k
  have hput : ∀ b, put b = withBay (found s) k b := fun b => by simp only [put, withBay, found_bays]
  have hself : withBay (found s) k bay = found s := by rw [← hbay, withBay_self]
  refine ⟨fun n hn h255 => ?_, fun b hst hb => ?_, fun hst => ?_, fun hst hin => ⟨fun b ho hb => ?_, fun ho => ?_,
    fun ho hstr => ?_, fun ho hstr => ?_⟩, fun h => ?_, fun hst => ?_, fun hst => ?_, fun hst => ?_, fun hst => ?_⟩
  · have hr' : Receives s (toBytes 1 n) := ⟨hr.1, hr.2.1, by simp⟩
    exact ⟨exec_refused (f := closeBundle) rfl hr' (by simp) (by decide) (bayRequest_other _ hn h255 _),
      exec_refused (f := abortBundleRequest) rfl hr' (by simp) (by decide) (bayRequest_other _ hn h255 _),
      exec_refused (f := clearBay) rfl hr' (by simp) (by decide) (bayRequest_other _ hn h255 _),
      exec_refused (f := enableBay) rfl hr' (by simp) (by decide) (bayRequest_other _ hn h255 _),
      exec_refused (f := disableBay) rfl hr' (by simp) (by decide) (bayRequest_other _ hn h255 _)⟩
  · refine ⟨_, exec_taken (f := closeBundle) rfl hr (by simp [p]) ?_, completionTest_afterTest (found s) k bay _⟩
    rw [closeBundle, bayRequest_bayNum, hbay, if_pos hst, State.updBundle, updBay_eq_withBay, hbay, hb]
    rfl
  · refine exec_refused (f := closeBundle) rfl hr (by simp [p]) (by decide) ?_
    rw [closeBundle, bayRequest_bayNum, hbay, if_neg hst]
  · refine ⟨_, exec_taken (f := clearBay) rfl hr (by simp [p]) ?_,
      completionTest_afterTest (found s) k { bay with state := .filling, origin := none } b⟩
    rw [clearBay, bayRequest_bayNum, hbay, found_inputs, if_pos ⟨hst, hin⟩, clearBayFault, hbay, ho]
    dsimp only
    rw [updBay_eq_withBay, hbay, hb]
  · refine exec_taken (f := clearBay) rfl hr (by simp [p]) ?_
    rw [clearBay, bayRequest_bayNum, hbay, found_inputs, if_pos ⟨hst, hin⟩, clearBayFault, hbay, ho]
    dsimp only
    rw [startSettle, updBay_eq_withBay, hbay, hput]
  · refine exec_taken (f := clearBay) rfl hr (by simp [p]) ?_
    rw [clearBay, bayRequest_bayNum, hbay, found_inputs, if_pos ⟨hst, hin⟩, clearBayFault, hbay, ho]
    dsimp only
    rw [rejoinStrapper_of_busy k (by rwa [found_strapper]), hbay, found_strapper, hput]
  · refine exec_taken (f := clearBay) rfl hr (by simp [p]) ?_
    rw [clearBay, bayRequest_bayNum, hbay, found_inputs, if_pos ⟨hst, hin⟩, clearBayFault, hbay, ho]
    dsimp only
    rw [rejoinStrapper_of_idle k (by rwa [found_strapper]), hbay]
    simp only [found_strapper, found_limits, hput]
  · refine exec_refused (f := clearBay) rfl hr (by simp [p]) (by decide) ?_
    rw [clearBay, bayRequest_bayNum, hbay, found_inputs, if_neg]
    rintro ⟨h1, h2⟩
    rcases h with h | h
    · exact h h1
    · exact Bool.noConfusion (h.symm.trans h2)
  · refine ⟨_, exec_taken (f := enableBay) rfl hr (by simp [p]) ?_, enterEmpty_entersEmpty (v := found s) (r := bay) rfl⟩
    rw [enableBay, bayRequest_bayNum, hbay, if_pos hst, hself]
  · refine exec_refused (f := enableBay) rfl hr (by simp [p]) (by decide) ?_
    rw [enableBay, bayRequest_bayNum, hbay, if_neg hst]
  · refine exec_taken (f := disableBay) rfl hr (by simp [p]) ?_
    rw [disableBay, bayRequest_bayNum, hbay, if_pos hst, updBay_eq_withBay, hbay, hput]
  · refine exec_refused (f := disableBay) rfl hr (by simp [p]) (by decide) ?_
    rw [disableBay, bayRequest_bayNum, hbay, if_neg hst]

/-- Settles O46, by the bay that takes the oldest entry. -/
theorem bundlesOpenAndDischarge : Obligations.BundlesOpenAndDischarge := by
  intro s k hpin level
  have hedge : ∀ (v : Bool) (f : State → State), takeEdge (Inputs.setDischarge k v) f s = .next (f (level v)) :=
    fun v f => takeEdge_run s _ f hpin
  refine ⟨fun e rest copy o hq hcopy ho hle h1 h2 hl => ?_, fun h => ?_, ?_, fun hst => ?_, fun hst hq hs => ?_⟩
  · intro fresh opened
    refine ⟨fun hst hfirst => ?_, fun hst => ?_⟩
    · have hfresh := freeBundleSerial_fresh (s := entered s) h1 h2 hl
      obtain ⟨hf1, hf2, hf3, hf4⟩ := hfresh
      refine ⟨_, ⟨hf1, hf2, fun j b _ => hf3 j b, hf4⟩, (takeEvent_entered hpin offerEntry).trans (congrArg _ ?_)⟩
      rw [offerEntry, firstEmptyBay_eq (s := entered s) hst hfirst]
      exact openBundle_eq (s := entered s) hq hcopy ho (.inr hle)
    · have henter := (enterEmpty_entersEmpty (v := (level true).bump .bundlesDischarged) (k := k) (r := s.bay k) (bay := s.bay k) rfl)
      obtain ⟨serial, ⟨hf1, hf2, hf3, hf4⟩, heq⟩ := henter.2 e rest copy o hq hcopy ho hle h1 h2 hl
      refine ⟨serial, ⟨hf1, hf2, fun j b => hf3 j b, hf4⟩, (hedge true _).trans (congrArg _ ?_)⟩
      refine (if_pos rfl).trans ((if_pos hst).trans ?_)
      refine Eq.trans ?_ (heq.trans rfl)
      exact congrArg (enterEmpty · k) (withBay_self _ k).symm
  · exact (takeEvent_entered hpin offerEntry).trans (congrArg _ (offerEntry_of_none (s := entered s) h))
  · exact hedge false fun s => if false then dischargeDone s k else s
  · exact (hedge true fun s => if true then dischargeDone s k else s).trans (congrArg _ (if_neg hst))
  · refine (hedge true fun s => if true then dischargeDone s k else s).trans (congrArg _ ((if_pos hst).trans ?_))
    have henter := (enterEmpty_entersEmpty (v := (level true).bump .bundlesDischarged) (k := k) (r := s.bay k) (bay := s.bay k) rfl)
    refine (congrArg (enterEmpty · k) (withBay_self _ k).symm).trans ((henter.1 hq).trans ?_)
    rw [hs]
    rfl

end Sys2Proof.Claims
end

section
set_option Elab.async false
/-! PROOF. The words that move the interpreter (O51), and what those do that fault the order. -/

namespace Sys2Proof.Machine

open Sys2Proof Claims

/-! ## A word row on an interpreter that executes (R160) -/

theorem executes_word {s : State} {id : Nat} (h : Executes s id) {codes : Nat → Bool}
    (effect : ProgramWord → State → State) (hc : codes (s.orders.program[s.orders.interp.pc]).code = true) :
    takeEvent (wordRow codes effect) s = .next (effect (s.orders.program[s.orders.interp.pc]) (entered s)) := by
  obtain ⟨hpin, hst, hid, hrem⟩ := h
  have hexec : (entered s).executes = true := by
    simp [State.executes, entered, hst, hid, hrem]
  refine (takeEvent_entered hpin _).trans (congrArg _ (if_pos ?_))
  rw [hexec]
  exact hc

/-- The fault of the held order, as the claims name it (R167). -/
theorem faultOrder_eq {u : State} {id : Nat} (h : u.orders.interp.order = some id) (code : FaultCode) :
    faultOrder (entered u) code = orderFaulted u id code := by
  obtain ⟨hnone, -⟩ | ⟨x, hx, hf⟩ := faultOrder_cases (entered u) code
  · exact absurd (h.symm.trans hnone) (by simp)
  · obtain rfl := Option.some.inj (h.symm.trans hx)
    exact hf

theorem moveTo_lt {n : Nat} (a : Fin 256) (hn : a.val = n) (f : State → State) (s : State) :
    moveTo n f s = f (s.updInterp fun i => { i with pc := a }) := by
  subst hn
  exact dif_pos a.isLt

theorem moveTo_past (f : State → State) (s : State) : moveTo 256 f s = faultOrder s .badAddress := dif_neg (by decide)

theorem spinStep_lt {s : State} (h : s.orders.interp.spin < 63) :
    spinStep s = s.updInterp fun i => { i with spin := i.spin + 1 } :=
  if_neg (show ¬ s.orders.interp.spin + 1 = 64 by omega)

theorem spinStep_last {s : State} (h : s.orders.interp.spin = 63) :
    spinStep s = faultOrder (s.updInterp fun i => { i with spin := 64 }) .spin := by
  have hupd : (s.updInterp fun i => { i with spin := i.spin + 1 }) = s.updInterp fun i => { i with spin := 64 } := by
    simp only [State.updInterp, h]
  unfold spinStep
  rw [hupd]
  exact if_pos rfl

/-! ## A word that moves the interpreter to an address (R160) -/

/-- The row c puts the interpreter's record j in place, and then moves it to address n and adds one to the spin count. -/
def Moves (s : State) (c : Instr) (n : Nat) (j : Interpreter) : Prop :=
  exec c s = .next (moveTo n spinStep (interpreter s j))

namespace Moves

variable {s : State} {c : Instr} {n : Nat} {j : Interpreter} (h : Moves s c n j)
include h

/-- Below 63 the interpreter goes to the address. -/
theorem goesTo (a : Fin 256) (ha : a.val = n) (hs : j.spin < 63) :
    exec c s = .next (interpreter s { j with pc := a, spin := j.spin + 1 }) := by
  have hlt : ((interpreter s j).updInterp fun i => { i with pc := a }).orders.interp.spin < 63 := hs
  rw [h, moveTo_lt a ha, spinStep_lt hlt]
  rfl

/-- At 63 the order faults with SPIN. -/
theorem spins (a : Fin 256) (ha : a.val = n) (hs : j.spin = 63) {id : Nat} (hid : j.order = some id) :
    exec c s = .next (orderFaulted (interpreter s { j with pc := a, spin := 64 }) id .spin) := by
  have hlast : ((interpreter s j).updInterp fun i => { i with pc := a }).orders.interp.spin = 63 := hs
  rw [h, moveTo_lt a ha, spinStep_last hlast]
  exact congrArg _ (faultOrder_eq (u := interpreter s { j with pc := a, spin := 64 }) hid .spin)

/-- At address 256 the order faults with BAD_ADDRESS. -/
theorem leaves (hn : n = 256) {id : Nat} (hid : j.order = some id) :
    exec c s = .next (orderFaulted (interpreter s j) id .badAddress) := by
  rw [h, hn, moveTo_past]
  exact congrArg _ (faultOrder_eq (u := interpreter s j) hid .badAddress)

end Moves

/-- A frame is pushed when the repeat stack has room (R163). -/
theorem pushRepeat_moves {s : State} {i : Interpreter} {c : Instr} {left : Option Nat}
    (hc : exec c s = .next (pushRepeat left (interpreter s i))) (hroom : i.repeats.length < 4) :
    Moves s c (i.pc.val + 1) { i with repeats := i.repeats ++ [{ body := i.pc.val + 1, left := left }] } :=
  hc.trans (congrArg _ (if_pos hroom))

/-! ## The words, on an interpreter that executes -/

section Words

variable {s : State} {id : Nat} {i : Interpreter} {w : ProgramWord} (h : Executes s id) (hi : s.orders.interp = i)
  (hw : s.orders.program[s.orders.interp.pc] = w)
include h hi hw

theorem exec_word {c : Instr} {codes : Nat → Bool} {effect : ProgramWord → State → State}
    (hc : exec c s = takeEvent (wordRow codes effect) s) (hcode : codes w.code = true) :
    exec c s = .next (effect w (interpreter s i)) := by
  subst hi hw
  exact hc.trans (executes_word h effect hcode)

theorem repeat_moves (hcode : w.code = 2) (h1 : 1 ≤ w.b) (h2 : w.b ≤ 255) (hroom : i.repeats.length < 4) :
    Moves s .repeatWord (i.pc.val + 1) { i with repeats := i.repeats ++ [{ body := i.pc.val + 1, left := some w.b }] } := by
  have hcount : countOk w.b = true := by simp [countOk, h1, h2]
  exact pushRepeat_moves ((exec_word h hi hw rfl (decide_eq_true hcode)).trans (congrArg _ (if_pos hcount))) hroom

theorem repeatAlways_moves (hcode : w.code = 4) (hroom : i.repeats.length < 4) : Moves s .repeatAlwaysWord (i.pc.val + 1)
    { i with repeats := i.repeats ++ [{ body := i.pc.val + 1, left := none }] } :=
  pushRepeat_moves (exec_word h hi hw (effect := repeatAlwaysEffect) rfl (decide_eq_true hcode)) hroom

/-- ENDREPEAT goes back to the body of a frame that has no count (R163). -/
theorem endRepeat_moves_forever {f : RepeatFrame} (hcode : w.code = 3) (hf : i.repeats.getLast? = some f) (hl : f.left = none) :
    Moves s .endRepeatWord f.body i := by
  refine (exec_word h hi hw rfl (decide_eq_true hcode)).trans (congrArg _ ?_)
  simp only [endRepeatEffect, show (interpreter s i).orders.interp.repeats.getLast? = some f from hf, hl]

/-- ENDREPEAT goes back to the body of a frame with passes left (R163). -/
theorem endRepeat_moves_again {f : RepeatFrame} {n : Nat} (hcode : w.code = 3) (hf : i.repeats.getLast? = some f)
    (hl : f.left = some n) (hn : 1 < n) : Moves s .endRepeatWord f.body
      { i with repeats := i.repeats.dropLast ++ [{ f with left := some (n - 1) }] } := by
  refine (exec_word h hi hw rfl (decide_eq_true hcode)).trans (congrArg _ ?_)
  simp only [endRepeatEffect, show (interpreter s i).orders.interp.repeats.getLast? = some f from hf, hl]
  exact if_pos hn

/-- ENDREPEAT drops a frame whose last pass has ended (R163). -/
theorem endRepeat_moves_last {f : RepeatFrame} {n : Nat} (hcode : w.code = 3) (hf : i.repeats.getLast? = some f)
    (hl : f.left = some n) (hn : n ≤ 1) : Moves s .endRepeatWord (i.pc.val + 1) { i with repeats := i.repeats.dropLast } := by
  refine (exec_word h hi hw rfl (decide_eq_true hcode)).trans (congrArg _ ?_)
  simp only [endRepeatEffect, show (interpreter s i).orders.interp.repeats.getLast? = some f from hf, hl]
  exact if_neg (not_lt.mpr hn)

theorem call_moves (hcode : w.code = 5) (hb : w.b ≤ 255) (hroom : i.calls.length < 4) :
    Moves s .callWord w.b { i with calls := i.calls ++ [i.pc.val + 1] } :=
  (exec_word h hi hw rfl (decide_eq_true hcode)).trans (congrArg _ ((if_neg (not_lt.mpr hb)).trans (if_pos hroom)))

theorem return_moves {a : Nat} (hcode : w.code = 6) (ha : i.calls.getLast? = some a) :
    Moves s .returnWord a { i with calls := i.calls.dropLast } := by
  refine (exec_word h hi hw rfl (decide_eq_true hcode)).trans (congrArg _ ?_)
  unfold returnEffect
  rw [show (interpreter s i).orders.interp.calls.getLast? = some a from ha]
  rfl

/-- The row faults the order and keeps everything else. -/
theorem exec_faults {c : Instr} {codes : Nat → Bool} {effect : ProgramWord → State → State} {code : FaultCode}
    (hc : exec c s = takeEvent (wordRow codes effect) s) (hcode : codes w.code = true)
    (he : effect w (interpreter s i) = faultOrder (interpreter s i) code) : exec c s = .next (orderFaulted s id code) := by
  rw [exec_word h hi hw hc hcode, he]
  subst hi
  obtain ⟨-, -, hid, -⟩ := h
  exact congrArg _ (faultOrder_eq hid code)

end Words

/-! ## The end of an order (R161, R171) -/

theorem allEnded_iff (o : Order) : o.allEnded = true ↔ o.labelled + o.aborted + o.closedEmpty = o.opened := by
  rw [Order.allEnded, decide_eq_true_eq, eq_comm]

theorem endOrder_eq {u : State} {id : Nat} {o : Order} (hid : u.orders.interp.order = some id) (ho : u.order? id = some o) :
    endOrder u = takeUp (ended u id o) := by
  have htwice := State.updOrder_updOrder u id (fun o => { o with state := .emitted }) (fun o => { o with state := .complete })
    fun _ => rfl
  have hemitted : (giveUp (u.updOrder id fun o => { o with state := .emitted })).order? id =
      some { o with state := .emitted } := order?_written (s := u) (f := fun o => { o with state := .emitted }) (fun _ => rfl) ho
  have htest : orderTest (giveUp (u.updOrder id fun o => { o with state := .emitted })) id = ended u id o := by
    have hqueue := queuedCount_eq_zero_iff u id
    unfold ended
    dsimp only
    by_cases hc : o.labelled + o.aborted + o.closedEmpty = o.opened ∧ ∀ e ∈ u.orders.queue, e.order ≠ id
    · rw [if_pos hc, if_pos hc]
      obtain ⟨hall, hq⟩ := hc
      rw [orderTest, hemitted]
      refine (if_pos ⟨rfl, hqueue.mpr hq, (allEnded_iff _).mpr hall⟩).trans ?_
      show State.bump (State.raise (giveUp ((u.updOrder id _).updOrder id _)) _) _ = _
      rw [htwice]
      rfl
    · rw [if_neg hc, if_neg hc]
      have hno : ¬ (OrderState.emitted = .emitted ∧ u.queuedCount id = 0 ∧ ({ o with state := .emitted } : Order).allEnded = true) := by
        rw [hqueue, allEnded_iff]
        exact fun ⟨_, hq, hall⟩ => hc ⟨hall, hq⟩
      rw [orderTest, hemitted]
      exact (if_neg hno).trans (if_neg fun h => OrderState.noConfusion h.1)
  rw [endOrder, hid]
  exact congrArg takeUp htest

/-- What a take-up makes of a state with an IDLE interpreter, outside a pause (R159). -/
theorem frontTaken_takeUp {t : State} (hi : t.orders.interp.state = .idle) : FrontTaken t fun u => takeUp t = u := by
  refine ⟨fun hrun => takeUp_of_busy_or_empty t (.inr hrun), fun id rest o hrun hl hh ho => ?_⟩
  rw [takeUp_due hi ((pauseCondition_eq_false_iff t).mpr ⟨hl, hh⟩) (by rw [hrun]; exact List.cons_ne_nil id rest)]
  exact takeUpFront_eq hrun ho

theorem ended_idle (u : State) (id : Nat) (o : Order) : (ended u id o).orders.interp.state = .idle := by
  unfold ended
  dsimp only
  split <;> rfl

end Sys2Proof.Machine

namespace Sys2Proof.Claims

open Sys2Proof Sys2Proof.Machine

/-- Settles O51, word by word. -/
theorem wordsMoveTheInterpreter : Obligations.WordsMoveTheInterpreter := by
  intro s id h i w goesTo
  refine ⟨fun o hc ho => ?_, fun hs => ⟨fun a ha hroom => ⟨fun hc h1 h2 => ?_, fun hc => ?_⟩,
    fun a f hc hf hbody => ⟨fun hl => ?_, fun n hl hn => ?_⟩, fun a f n hc hf ha hl hn => ?_, fun a hc hb hroom => ?_,
    fun a hc hcall => ?_⟩, fun a hc ha => ?_⟩
  · have hexec : exec .endWord s = .next (takeUp (ended (entered s) id o)) :=
      (exec_word h rfl rfl rfl (decide_eq_true hc)).trans (congrArg _ (endOrder_eq (u := entered s) h.2.2.1 ho))
    rw [hexec]
    simpa only [Host.Outcome.next.injEq] using frontTaken_takeUp (ended_idle (entered s) id o)
  · rw [ha]
    exact (repeat_moves h rfl rfl hc h1 h2 hroom).goesTo a ha hs
  · rw [ha]
    exact (repeatAlways_moves h rfl rfl hc hroom).goesTo a ha hs
  · exact (endRepeat_moves_forever h rfl rfl hc hf hl).goesTo a hbody.symm hs
  · exact (endRepeat_moves_again h rfl rfl hc hf hl hn).goesTo a hbody.symm hs
  · exact (endRepeat_moves_last h rfl rfl hc hf hl hn).goesTo a ha hs
  · have hle : w.b ≤ 255 := by omega
    exact (call_moves h rfl rfl hc hle hroom).goesTo a hb.symm hs
  · exact (return_moves h rfl rfl hc hcall).goesTo a rfl hs
  · refine (exec_word h rfl rfl rfl (decide_eq_true hc)).trans (congrArg _ ?_)
    exact (moveTo_lt a ha _ _).trans rfl

end Sys2Proof.Claims
end

section
set_option Elab.async false
/-! PROOF. Emissions (O53), and the words that fault the order (O52). -/

namespace Sys2Proof.Machine

open Sys2Proof Claims

/-! ## Entries that join a queue that no bay empties (R162) -/

/-- n entries of order id are emitted. -/
def emittedBy (u : State) (id n : Nat) : State :=
  { u with orders := { u.orders with
    table := u.orders.table.map fun x => if x.id = id then { x with emitted := x.emitted + n } else x
    queue := u.orders.queue ++ List.replicate n { order := id, recipe := u.orders.interp.recipe }
    interp := { u.orders.interp with
      remainder := u.orders.interp.remainder - n, spin := if n = 0 then u.orders.interp.spin else 0 } } }

theorem emittedBy_zero (u : State) (id : Nat) : emittedBy u id 0 = u := by
  have htable : u.orders.table.map (fun x => if x.id = id then { x with emitted := x.emitted + 0 } else x) = u.orders.table := by
    rw [List.map_congr_left (g := fun x => x) fun x _ => by simp, List.map_id']
  unfold emittedBy
  rw [htable, List.replicate_zero, List.append_nil]
  rfl

theorem order?_emittedBy {u : State} {id : Nat} {o : Order} (n : Nat) (h : u.order? id = some o) :
    (emittedBy u id n).order? id = some { o with emitted := o.emitted + n } :=
  order?_written (s := u) (f := fun o => { o with emitted := o.emitted + n }) (fun _ => rfl) h

theorem emittedCount_emittedBy {u : State} {id : Nat} {o : Order} (n : Nat) (h : u.order? id = some o) :
    (emittedBy u id n).emittedCount id = o.emitted + n := by
  rw [State.emittedCount, order?_emittedBy n h]
  rfl

theorem emitOne_emittedBy {u : State} (id n : Nat) (hbays : ∀ k, (u.bay k).state ≠ .empty) :
    emitOne id (emittedBy u id n) = emittedBy u id (n + 1) := by
  have htable : (u.orders.table.map fun x => if x.id = id then { x with emitted := x.emitted + n } else x).map
      (fun x => if x.id = id then { x with emitted := x.emitted + 1 } else x) =
      u.orders.table.map fun x => if x.id = id then { x with emitted := x.emitted + (n + 1) } else x := by
    rw [List.map_map]
    refine List.map_congr_left fun x _ => ?_
    by_cases hx : x.id = id <;> simp [hx, Nat.add_assoc]
  have hqueue : u.orders.queue ++ List.replicate n { order := id, recipe := u.orders.interp.recipe } ++
      [{ order := id, recipe := u.orders.interp.recipe }] =
      u.orders.queue ++ List.replicate (n + 1) { order := id, recipe := u.orders.interp.recipe } := by
    rw [List.append_assoc, List.replicate_succ']
  have hjoin : emitOne id (emittedBy u id n) = offerEntry (emittedBy u id (n + 1)) := by
    simp only [emitOne, emittedBy, State.updOrder, State.updInterp, htable, hqueue, Nat.sub_sub, Nat.succ_ne_zero, if_false]
  rw [hjoin]
  exact offerEntry_of_none (.inr hbays)

/-- Below an emitted count of 65535 each of k emissions is made. -/
theorem emittedCount_ne {u : State} {id k : Nat} (h : ∀ o, u.order? id = some o → o.emitted + k ≤ 65535) :
    ∀ i < k, (emittedBy u id i).emittedCount id ≠ 65535 := by
  intro i hi
  cases ho : u.order? id with
  | some o =>
    rw [emittedCount_emittedBy i ho]
    have := h o ho
    omega
  | none =>
    have hnone : (emittedBy u id i).order? id = none := by
      refine (State.order?_updOrder_self u id (fun o => { o with emitted := o.emitted + i }) fun _ => rfl).trans ?_
      rw [ho]
      rfl
    rw [State.emittedCount, hnone]
    decide

/-- The emission makes k entries while entries are left, the queue has room and the emitted count is below 65535. -/
theorem emitLoop_steps {u : State} {id : Nat} (hbays : ∀ k, (u.bay k).state ≠ .empty) (k : Nat) :
    ∀ fuel, k ≤ u.orders.interp.remainder → u.orders.queue.length + k ≤ 16 →
      (∀ i < k, (emittedBy u id i).emittedCount id ≠ 65535) →
      emitLoop id (k + fuel) u = emitLoop id fuel (emittedBy u id k) := by
  induction k with
  | zero => intro fuel _ _ _; rw [emittedBy_zero, Nat.zero_add]
  | succ k ih =>
    intro fuel hr hq he
    rw [show k + 1 + fuel = k + (fuel + 1) by omega,
      ih (fuel + 1) (by omega) (by omega) fun i hi => he i (Nat.lt_succ_of_lt hi), emitLoop]
    have hleft : ¬ (emittedBy u id k).orders.interp.remainder = 0 := by
      show ¬ u.orders.interp.remainder - k = 0
      omega
    have hroom : ¬ Config.queueCapacity ≤ (emittedBy u id k).orders.queue.length := by
      show ¬ 16 ≤ (u.orders.queue ++ List.replicate k _).length
      rw [List.length_append, List.length_replicate]
      omega
    rw [if_neg hleft, if_neg hroom, if_neg (show ¬ _ = Config.emittedLimit from he k (Nat.lt_succ_self k)),
      emitOne_emittedBy id k hbays]

theorem emit_of_order {u : State} {id : Nat} (h : u.orders.interp.order = some id) :
    emit u = emitLoop id (u.orders.interp.remainder + 1) u := by
  rw [emit, h]

/-- A whole emission with no bay EMPTY: to its end, or to a full queue (R162). -/
theorem emit_eq {u : State} {id n : Nat} {o : Order} {after : Fin 256} (hid : u.orders.interp.order = some id)
    (ho : u.order? id = some o) (hafter : after.val = u.orders.interp.pc.val + 1) (hbays : ∀ k, (u.bay k).state ≠ .empty)
    (hrun : u.orders.interp.state = .running) (hq : u.orders.queue.length ≤ 16) (hn : u.orders.interp.remainder = n)
    (he : o.emitted + min n (16 - u.orders.queue.length) ≤ 65535) :
    let m := min n (16 - u.orders.queue.length)
    emit u = { emittedBy u id m with orders := { (emittedBy u id m).orders with interp := {
      (emittedBy u id m).orders.interp with
        state := if m = n then .running else .queueWait
        pc := if m = n then after else u.orders.interp.pc } } } := by
  intro m
  have hm : m ≤ n := Nat.min_le_left _ _
  have hroom : u.orders.queue.length + m ≤ 16 := by omega
  have hloop : emit u = emitLoop id (m + (n - m + 1)) u := by
    rw [emit, hid, hn, show m + (n - m + 1) = n + 1 by omega]
  rw [hloop, emitLoop_steps hbays m _ (by omega) hroom (emittedCount_ne fun x hx => by rwa [← Option.some.inj (ho.symm.trans hx)]),
    emitLoop]
  by_cases hend : m = n
  · have hzero : (emittedBy u id m).orders.interp.remainder = 0 := by
      show u.orders.interp.remainder - m = 0
      omega
    rw [if_pos hzero, if_pos hend, if_pos hend]
    refine (moveTo_lt after hafter _ _).trans ?_
    rw [← hrun]
    rfl
  · have hleft : ¬ (emittedBy u id m).orders.interp.remainder = 0 := by
      show ¬ u.orders.interp.remainder - m = 0
      omega
    have hfull : Config.queueCapacity ≤ (emittedBy u id m).orders.queue.length := by
      show 16 ≤ (u.orders.queue ++ List.replicate m _).length
      rw [List.length_append, List.length_replicate]
      omega
    rw [if_neg hleft, if_pos hfull, if_neg hend, if_neg hend]
    rfl

/-- An emission that finds the emitted count at 65535 ends the order (R162). -/
theorem emit_cut {u : State} {id n : Nat} {o : Order} (hid : u.orders.interp.order = some id) (ho : u.order? id = some o)
    (hbays : ∀ k, (u.bay k).state ≠ .empty) (hn : u.orders.interp.remainder = n) (he : o.emitted ≤ 65535)
    (hmore : 65535 - o.emitted < n) (hq : u.orders.queue.length + (65535 - o.emitted) < 16) :
    emit u = (takeUp (ended (emittedBy u id (65535 - o.emitted)) id { o with emitted := 65535 })).raise .orderFault := by
  have ho' := order?_emittedBy (65535 - o.emitted) ho
  rw [show o.emitted + (65535 - o.emitted) = 65535 by omega] at ho'
  generalize hk : 65535 - o.emitted = k at *
  have hloop : emit u = emitLoop id (k + (n - k + 1)) u := by
    rw [emit, hid, hn, show k + (n - k + 1) = n + 1 by omega]
  rw [hloop, emitLoop_steps hbays k _ (by omega) (by omega)
    (emittedCount_ne fun x hx => by rw [← Option.some.inj (ho.symm.trans hx)]; omega), emitLoop, emittedCount_emittedBy k ho]
  have hleft : ¬ (emittedBy u id k).orders.interp.remainder = 0 := by
    show ¬ u.orders.interp.remainder - k = 0
    omega
  have hroom : ¬ Config.queueCapacity ≤ (emittedBy u id k).orders.queue.length := by
    show ¬ 16 ≤ (u.orders.queue ++ List.replicate k _).length
    rw [List.length_append, List.length_replicate]
    omega
  have hcount : o.emitted + k = Config.emittedLimit := by
    show o.emitted + k = 65535
    omega
  rw [if_neg hleft, if_neg hroom, if_pos hcount, endShort, endOrder_eq (u := emittedBy u id k) hid ho']

/-! ## BUNDLE and EMISSION_RESUME (R160, R162) -/

theorem recipeAt_of_defined {u : State} {n : Nat} {r : Fin 32} (hn : n = r.val) (h : (u.orders.recipes[r]).isSome = true) :
    u.recipeAt n = some r := by
  subst hn
  rw [State.recipeAt, dif_pos r.isLt]
  exact if_pos h

theorem recipeAt_of_undefined {u : State} {n : Nat} (h : ∀ r : Fin 32, r.val = n → u.orders.recipes[r] = none) :
    u.recipeAt n = none := by
  unfold State.recipeAt
  split
  next hn =>
    have hnone : u.orders.recipes[n] = none := h ⟨n, hn⟩ rfl
    rw [hnone]
    rfl
  · rfl

theorem bundleEffect_eq {u : State} {w : ProgramWord} {r : Fin 32} (h1 : 1 ≤ w.b) (h2 : w.b ≤ 255) (ha : w.a = r.val)
    (h : (u.orders.recipes[r]).isSome = true) :
    bundleEffect w u = emit (u.updInterp fun i => { i with remainder := w.b, recipe := r }) := by
  have hok : ¬ countOk w.b = false := by simp [countOk, h1, h2]
  rw [bundleEffect, if_neg hok, recipeAt_of_defined ha h]

theorem emissionResume_of_due {u : State} (hst : u.orders.interp.state = .running ∨ u.orders.interp.state = .queueWait)
    (hr : 0 < u.orders.interp.remainder) (hq : u.orders.queue.length < 16) :
    emissionResume u = emit (u.updInterp fun i => { i with state := .running }) := by
  have hdue : emissionDue u = true := by
    have hq : u.orders.queue.length < Config.queueCapacity := hq
    simp [emissionDue, hst, hr, hq]
  exact if_pos hdue

end Sys2Proof.Machine

namespace Sys2Proof.Claims

open Sys2Proof Sys2Proof.Machine

theorem FrontTaken.imp {t : State} {p q : State → Prop} (h : FrontTaken t p) (hpq : ∀ u, p u → q u) : FrontTaken t q :=
  ⟨fun hr => hpq _ (h.1 hr), fun id rest o hr hl hh ho => hpq _ (h.2 id rest o hr hl hh ho)⟩

/-- Settles O52, word by word; a word that moves faults at the spin limit and at address 256. -/
theorem wordsFaultTheOrder : Obligations.WordsFaultTheOrder := by
  intro s id h i w faults spins leaves
  have hid : i.order = some id := h.2.2.1
  have hnext : s.orders.interp.pc = 255 → s.orders.interp.pc.val + 1 = 256 := fun hpc => by rw [hpc]; rfl
  have hfaults : ∀ {c : Instr} {codes : Nat → Bool} {effect : ProgramWord → State → State} {code : FaultCode},
      exec c s = takeEvent (wordRow codes effect) s → codes w.code = true →
      effect w (interpreter s i) = faultOrder (interpreter s i) code → faults c code := fun hc hcode he =>
    exec_faults h rfl rfl hc hcode he
  refine ⟨fun hc => ?_, fun hc hb => ?_, fun hc h1 h2 hr => ?_, fun r hpc hc h1 ha hsome hbays hq ho => ?_, fun hc hb => ?_,
    fun hc h1 h2 hfull => ?_, fun hc hfull => ?_, fun hc hnil => ?_, fun hc hb => ?_, fun hc hb hfull => ?_, fun hc hnil => ?_,
    fun hs => ⟨fun a ha hroom => ⟨fun hc h1 h2 => ?_, fun hc => ?_⟩, fun a f hc hf hbody => ⟨fun hl => ?_, fun n hl hn => ?_⟩,
      fun a f n hc hf ha hl hn => ?_, fun a hc hb hroom => ?_, fun a hc hcall => ?_⟩,
    fun hpc => ⟨fun hroom => ⟨fun hc h1 h2 => ?_, fun hc => ?_⟩, fun f n hc hf hl hn => ?_, fun hc => ?_⟩,
    fun f hc hf hbody => ⟨fun hl => ?_, fun n hl hn => ?_⟩, fun hc hcall => ?_⟩
  · exact hfaults (effect := unknownCodeEffect) rfl (decide_eq_true hc) rfl
  · have hbad : countOk w.b = false := by
      simp only [countOk, Bool.and_eq_false_iff, decide_eq_false_iff_not]
      omega
    exact hfaults (effect := bundleEffect) rfl (decide_eq_true hc) (if_pos hbad)
  · have hok : ¬ countOk w.b = false := by simp [countOk, h1, h2]
    refine hfaults (effect := bundleEffect) rfl (decide_eq_true hc) ((if_neg hok).trans ?_)
    rw [recipeAt_of_undefined (u := interpreter s i) hr]
  · refine (exec_word h rfl rfl rfl (decide_eq_true hc)).trans (congrArg _ ?_)
    have hle : w.b ≤ 255 := by omega
    let u : State := interpreter s { i with remainder := w.b, recipe := r }
    refine (bundleEffect_eq (u := interpreter s i) (w := w) h1 hle ha hsome).trans ?_
    have hemit : emit u = emitLoop id (w.b + 1) u := emit_of_order hid
    show emit u = _
    rw [hemit, emitLoop_steps (u := u) hbays w.b 1 le_rfl hq (emittedCount_ne ho), emitLoop]
    have hzero : (emittedBy u id w.b).orders.interp.remainder = 0 := Nat.sub_self w.b
    rw [if_pos hzero, State.nextAddress, show (emittedBy u id w.b).orders.interp.pc.val + 1 = 256 from hnext hpc, moveTo_past]
    refine (faultOrder_eq (u := emittedBy u id w.b) hid .badAddress).trans ?_
    have hinterp : (emittedBy u id w.b).orders.interp = { i with recipe := r, remainder := 0, spin := 0 } := by
      show { i with remainder := w.b - w.b, recipe := r, spin := if w.b = 0 then i.spin else 0 } = _
      rw [Nat.sub_self, if_neg (show ¬ w.b = 0 by omega)]
    unfold orderFaulted
    rw [hinterp]
    rfl
  · have hbad : ¬ countOk w.b = true := by
      simp only [countOk, Bool.and_eq_true, decide_eq_true_eq]
      omega
    exact hfaults (effect := repeatEffect) rfl (decide_eq_true hc) (if_neg hbad)
  · have hok : countOk w.b = true := by simp [countOk, h1, h2]
    exact hfaults (effect := repeatEffect) rfl (decide_eq_true hc) ((if_pos hok).trans
      (if_neg (show ¬ i.repeats.length < 4 by omega)))
  · exact hfaults (effect := repeatAlwaysEffect) rfl (decide_eq_true hc) (if_neg (show ¬ i.repeats.length < 4 by omega))
  · refine hfaults (effect := endRepeatEffect) rfl (decide_eq_true hc) ?_
    unfold endRepeatEffect
    rw [show (interpreter s i).orders.interp.repeats = [] from hnil]
    rfl
  · exact hfaults (effect := callEffect) rfl (decide_eq_true hc) (if_pos hb)
  · exact hfaults (effect := callEffect) rfl (decide_eq_true hc) ((if_neg (not_lt.mpr hb)).trans
      (if_neg (show ¬ i.calls.length < 4 by omega)))
  · refine hfaults (effect := returnEffect) rfl (decide_eq_true hc) ?_
    unfold returnEffect
    rw [show (interpreter s i).orders.interp.calls = [] from hnil]
    rfl
  · rw [ha]
    exact (repeat_moves h rfl rfl hc h1 h2 hroom).spins a ha hs hid
  · rw [ha]
    exact (repeatAlways_moves h rfl rfl hc hroom).spins a ha hs hid
  · exact (endRepeat_moves_forever h rfl rfl hc hf hl).spins a hbody.symm hs hid
  · exact (endRepeat_moves_again h rfl rfl hc hf hl hn).spins a hbody.symm hs hid
  · exact (endRepeat_moves_last h rfl rfl hc hf hl hn).spins a ha hs hid
  · have hle : w.b ≤ 255 := by omega
    exact (call_moves h rfl rfl hc hle hroom).spins a hb.symm hs hid
  · exact (return_moves h rfl rfl hc hcall).spins a rfl hs hid
  · have hmoves := repeat_moves h rfl rfl hc h1 h2 hroom
    rw [hnext hpc] at hmoves
    exact hmoves.leaves rfl hid
  · have hmoves := repeatAlways_moves h rfl rfl hc hroom
    rw [hnext hpc] at hmoves
    exact hmoves.leaves rfl hid
  · exact (endRepeat_moves_last h rfl rfl hc hf hl hn).leaves (hnext hpc) hid
  · refine (exec_word h rfl rfl rfl (decide_eq_true hc)).trans (congrArg _ ?_)
    have heffect : holdEffect w (interpreter s i) = moveTo (s.orders.interp.pc.val + 1) (fun s => s)
        ((interpreter s { i with state := .held, spin := 0 }).raise .orderHeld) := rfl
    rw [heffect, hnext hpc, moveTo_past]
    exact faultOrder_eq (u := (interpreter s { i with state := .held, spin := 0 }).raise .orderHeld) hid .badAddress
  · exact (endRepeat_moves_forever h rfl rfl hc hf hl).leaves hbody hid
  · exact (endRepeat_moves_again h rfl rfl hc hf hl hn).leaves hbody hid
  · exact (return_moves h rfl rfl hc hcall).leaves rfl hid

/-- Settles O53: the emission of a BUNDLE word or of EMISSION_RESUME, by what stops it. -/
theorem emissionFillsTheQueue : Obligations.EmissionFillsTheQueue := by
  intro s id o after n hpin hid ho hafter hq i w m word t
  have hword : ∀ r, word r → (s.orders.recipes[r]).isSome = true →
      exec .bundleWord s = .next (emit (interpreter s { i with remainder := n, recipe := r })) := by
    rintro r ⟨hst, hrem, hc, ha, hb, h1, h2⟩ hsome
    refine (exec_word (w := w) ⟨hpin, hst, hid, hrem⟩ rfl rfl rfl (decide_eq_true hc)).trans (congrArg _ ?_)
    rw [← hb] at h1 h2 ⊢
    exact bundleEffect_eq (u := interpreter s i) h1 h2 ha hsome
  have hresume : i.remainder = n → 0 < n → s.orders.queue.length < 16 → i.state = .running ∨ i.state = .queueWait →
      exec .emissionResume s = .next (emit (interpreter s { i with state := .running })) := fun hr hn hq hst =>
    (takeEvent_entered hpin emissionResume).trans (congrArg _ (emissionResume_of_due (u := entered s) hst (by rw [← hr] at hn; exact hn) hq))
  refine ⟨fun hbays he => ⟨fun r hw hsome => ?_, fun hr hn hlt hst => ?_⟩,
    fun k r copy hw hcopy hk hothers hnil hst h1 h2 hl he => ?_, ?_, fun h => ?_⟩
  · rw [hword r hw hsome]
    obtain ⟨hst, hrem, hc, ha, hb, h1, h2⟩ := hw
    exact congrArg _ (emit_eq (u := interpreter s { i with remainder := n, recipe := r }) hid ho hafter hbays hst hq rfl he)
  · rw [hresume hr hn hlt hst]
    subst hr
    exact congrArg _ (emit_eq (u := interpreter s { i with state := .running }) hid ho hafter hbays rfl hq rfl he)
  · have hw' := hw
    obtain ⟨hst', hrem, hc, ha, hb, hn1, hn2⟩ := hw'
    let u : State := interpreter s { i with remainder := n, recipe := r }
    have hexec : exec .bundleWord s = .next (emit u) := hword r hw (by rw [hcopy]; rfl)
    -- the entry that joins, which the EMPTY bay takes
    let e : QueueEntry := { order := id, recipe := r }
    let x : State := { u with orders := { u.orders with
      table := u.orders.table.map fun x => if x.id = id then { x with emitted := x.emitted + 1 } else x
      queue := [e]
      interp := { u.orders.interp with remainder := n - 1, spin := 0 } } }
    have hxo : x.order? id = some { o with emitted := o.emitted + 1 } :=
      order?_written (s := u) (f := fun o => { o with emitted := o.emitted + 1 }) (fun _ => rfl) ho
    have hfresh := freeBundleSerial_fresh (s := x) h1 h2 hl
    obtain ⟨hf1, hf2, hf3, hf4⟩ := hfresh
    have hopen := openBundle_eq (s := x) (k := k) (e := e) (rest := []) (copy := copy) rfl hcopy hxo (.inl (by simp [hst]))
    generalize x.freeBundleSerial = serial at hf1 hf2 hf3 hf4 hopen
    refine ⟨serial, ?_, hf1, hf2, hf3, hf4⟩
    have hone : emitOne id u = openBundle x k := by
      have hoffer : emitOne id u = offerEntry x := by
        show offerEntry { u with orders := { u.orders with
          table := _, queue := s.orders.queue ++ [e], interp := _ } } = _
        rw [hnil]
        rfl
      rw [hoffer, offerEntry, firstEmptyBay_eq (s := x) hk fun j hj => hothers j hj.ne]
    rw [if_neg (show ¬ x.orders.interp.state = .queueWait by rw [show x.orders.interp.state = .running from hst']; decide)] at hopen
    generalize hv : openBundle x k = v at hone hopen
    have hfirst : emit u = emit v := by
      have hcount : u.emittedCount id = o.emitted := by rw [State.emittedCount, show u.order? id = some o from ho]; rfl
      have hremv : v.orders.interp.remainder + 1 = n := by
        rw [hopen]
        show n - 1 + 1 = n
        omega
      have hidv : v.orders.interp.order = some id := by rw [hopen]; exact hid
      rw [emit_of_order (u := u) hid, emit_of_order hidv, hremv, emitLoop, hcount, hone,
        if_neg (show ¬ u.orders.interp.remainder = 0 from by show ¬ n = 0; omega),
        if_neg (show ¬ Config.queueCapacity ≤ u.orders.queue.length by
          rw [show u.orders.queue = [] from hnil]; decide),
        if_neg (show ¬ o.emitted = Config.emittedLimit by show ¬ o.emitted = 65535; omega)]
      rfl
    have hvo : v.order? id = some { o with emitted := o.emitted + 1, opened := o.opened + 1 } := by
      rw [hopen]
      exact order?_written (s := x) (f := fun o => { o with opened := o.opened + 1 }) (fun _ => rfl) hxo
    have hvb : ∀ j, (v.bay j).state ≠ .empty := fun j => by
      rw [hopen]
      by_cases hj : j = k
      · rw [hj]
        simp [State.bay]
      · have hne : k.val ≠ j.val := fun e => hj (Fin.ext e.symm)
        show ¬ (s.bays.set k.val _)[j.val].state = _
        rw [Vector.getElem_set_ne _ _ hne]
        exact hothers j hj
    have hvq : v.orders.queue = [] := by rw [hopen]; rfl
    have hvi : v.orders.interp = { i with remainder := n - 1, recipe := r, spin := 0 } := by rw [hopen]; rfl
    have hm : min (n - 1) (16 - v.orders.queue.length) = min n 17 - 1 := by
      rw [hvq, List.length_nil]
      omega
    have hres := emit_eq (u := v) (n := n - 1) (after := after) (by rw [hvi]; exact hid) hvo (by rw [hvi]; exact hafter) hvb
      (by rw [hvi]; exact hst') (by rw [hvq]; decide) (by rw [hvi]) (by
        rw [hm]
        show o.emitted + 1 + _ ≤ 65535
        omega)
    have hend : (min n 17 - 1 = n - 1) = (n ≤ 17) := propext ⟨fun h => by omega, fun h => by omega⟩
    rw [hm] at hres
    simp only [hend] at hres
    have htable : v.orders.table.map (fun x => if x.id = id then { x with emitted := x.emitted + (min n 17 - 1) } else x) =
        s.orders.table.map fun x => if x.id = id then
          { x with emitted := x.emitted + min n 17, opened := x.opened + 1 } else x := by
      have hsum : ∀ e : Nat, e + 1 + (min n 17 - 1) = e + min n 17 := fun e => by omega
      rw [hopen]
      refine (List.map_map ..).trans ((List.map_map ..).trans (List.map_congr_left fun y _ => ?_))
      by_cases hy : y.id = id <;> simp [hy, hsum, e]
    have hrest : n - 1 - (min n 17 - 1) = n - 17 := by omega
    have hqueue : v.orders.queue ++ List.replicate (min n 17 - 1) { order := id, recipe := v.orders.interp.recipe } =
        List.replicate (min n 17 - 1) { order := id, recipe := r } := by rw [hvq, hvi, List.nil_append]
    rw [hexec, hfirst, hres]
    refine congrArg _ ?_
    unfold emittedBy
    rw [htable, hqueue, hvi]
    simp only [hrest, ite_self]
    rw [hopen]
    rfl
  · intro more cut hbays hle hmore hroom
    refine ⟨fun r hw hsome => ?_, fun hr hst => ?_⟩
    · rw [hword r hw hsome, emit_cut (u := interpreter s { i with remainder := n, recipe := r }) hid ho hbays rfl hle hmore hroom]
      have hend : ended (emittedBy (interpreter s { i with remainder := n, recipe := r }) id more) id
          { o with emitted := 65535 } = cut r := rfl
      rw [hend]
      exact (frontTaken_takeUp (ended_idle _ id o)).imp fun u hu => by rw [← hu]
    · have hlt : s.orders.queue.length < 16 := by omega
      rw [hresume hr (by omega) hlt hst, emit_cut (u := interpreter s { i with state := .running }) hid ho hbays hr hle hmore hroom]
      have hend : ended (emittedBy (interpreter s { i with state := .running }) id more) id
          { o with emitted := 65535 } = cut i.recipe := rfl
      rw [hend]
      exact (frontTaken_takeUp (ended_idle _ id o)).imp fun u hu => by rw [← hu]
  · refine (takeEvent_entered hpin emissionResume).trans (congrArg _ (if_neg fun hdue => ?_))
    simp only [emissionDue, Bool.and_eq_true, decide_eq_true_eq] at hdue
    obtain ⟨⟨-, hleft⟩, hroom⟩ := hdue
    have hleft : 0 < i.remainder := hleft
    have hroom : s.orders.queue.length < 16 := hroom
    omega

end Sys2Proof.Claims
end

section
set_option Elab.async false
/-! PROOF. Drops: the resolution of a pending drop (O39). -/

namespace Sys2Proof.Machine

open Sys2Proof Claims

/-! ## The removal of a strip that a lug names (R9) -/

/-- The record of a strip that lug n names is gone. -/
def removedFromLug (u : State) (tag : Nat) (n : Serial) : State :=
  { u with
    strips := u.strips.filter fun x => x.tag ≠ tag
    lineal := { u.lineal with queue := u.lineal.queue.filter (· ≠ tag) }
    chain := { u.chain with
      slots := u.chain.slots.set (ringIdx n) { u.slot n with named := (u.slot n).named.filter (· ≠ tag) } } }

theorem remove_of_loaded {u : State} {tag : Nat} {r : Strip} {n : Serial} (h : u.strip? tag = some r)
    (hs : r.serial = some n) : u.remove tag = removedFromLug u tag n := by
  have hserial : (u.strip? tag).bind (·.serial) = some n := by rw [h]; exact hs
  unfold State.remove
  rw [hserial]
  rfl

/-! ## The resolution (R130) -/

theorem resolve_eq_resolved (b : Bundle) (c : Choice) (confirmed : Bool) : b.resolve confirmed c = resolved b c confirmed := by
  cases confirmed <;> rfl

/-- A bundle that counts a strip does not close empty. -/
theorem not_closesEmpty_resolved (bay : Bay) (b : Bundle) (c : Choice) (confirmed : Bool) :
    ¬ ClosesEmpty bay (resolved b c confirmed) := by
  rintro ⟨-, -, hd, hu, -⟩
  cases confirmed
  · exact absurd hu (Nat.succ_ne_zero _)
  · exact absurd hd (Nat.succ_ne_zero _)

theorem resolveDrop_of_none {u : State} {k : BayId} (h : (u.bay k).pendingDrop = none) (confirmed : Bool) :
    resolveDrop u k confirmed = u := by
  rw [resolveDrop, h]

/-- The counter of a drop's resolution. -/
def resolution (confirmed : Bool) : Counter := if confirmed then .deposited else .dropUnverified

/-- A detached drop changes no bundle. -/
theorem resolveDrop_of_detached {u : State} {k : BayId} {d : PendingDrop} {r : Strip}
    (hd : (u.bay k).pendingDrop = some d) (hr : u.strip? d.tag = some r) (hn : r.serial = some d.serial)
    (ha : d.attached = false) (confirmed : Bool) : resolveDrop u k confirmed =
      withBay ((removedFromLug u d.tag d.serial).bump (resolution confirmed)) k { u.bay k with pendingDrop := none } := by
  simp only [resolveDrop, hd, ha]
  rw [State.retire, remove_of_loaded hr hn]
  rfl

/-- An attached drop goes into the bundle's counts, and the bay applies its completion test. -/
theorem resolveDrop_of_attached {u : State} {k : BayId} {d : PendingDrop} {r : Strip} {g : Decision} {c : Choice} {b : Bundle}
    (hd : (u.bay k).pendingDrop = some d) (hr : u.strip? d.tag = some r) (hn : r.serial = some d.serial)
    (ha : d.attached = true) (hg : r.decision = some g) (hc : g.choice = some c) (hb : (u.bay k).bundle = some b)
    (confirmed : Bool) : resolveDrop u k confirmed =
      tested ((removedFromLug u d.tag d.serial).bump (resolution confirmed)) k { u.bay k with pendingDrop := none }
        (resolved b c confirmed) := by
  have hchoice : ((u.strip? d.tag).bind (·.decision)).bind (·.choice) = some c := by
    rw [hr, Option.bind_some, hg, Option.bind_some, hc]
  simp only [resolveDrop, hd, ha, hchoice]
  rw [State.retire, remove_of_loaded hr hn, State.updBundle,
    updBay_eq_withBay _ k fun b => { b with pendingDrop := none }, updBay_withBay]
  have hbay : (State.bump (removedFromLug u d.tag d.serial) (resolution confirmed)).bay k = u.bay k := rfl
  refine Eq.trans ?_ ((completionTest_afterTest _ k { u.bay k with pendingDrop := none } (resolved b c confirmed)).1
    (not_closesEmpty_resolved _ b c confirmed))
  rw [← resolve_eq_resolved]
  refine congrArg (fun x => completionTest (withBay _ k x) k true) ?_
  have hmap : (u.bay k).bundle.map (fun b => b.resolve confirmed c) = some (b.resolve confirmed c) := by rw [hb]; rfl
  exact congrArg (fun x => { u.bay k with pendingDrop := none, bundle := x }) hmap

end Sys2Proof.Machine

namespace Sys2Proof.Claims

open Sys2Proof Sys2Proof.Machine

/-- Settles O39: with and without a pending drop, attached and detached. -/
theorem dropResolution : Obligations.DropResolution := by
  intro s k hpin level
  refine ⟨fun hnone => ⟨?_, ?_⟩, ?_, fun d r confirmed hd hr hn => ?_⟩
  · refine (takeEdge_run s (Inputs.setConfirm k true) (fun s => if true then confirm k s else s) hpin).trans (congrArg _ ?_)
    have hstray : (({ entered s with inputs := level } : State).bay k).pendingDrop = none := hnone
    show confirm k { entered s with inputs := level } = _
    rw [confirm, hstray]
  · exact (takeEvent_entered hpin (dropUnverified k)).trans (congrArg _ (resolveDrop_of_none (u := entered s) hnone false))
  · exact takeEdge_run s (Inputs.setConfirm k false) (fun s => if false then confirm k s else s) hpin
  · intro event bay t
    let u : State := { entered s with inputs := if confirmed then level else s.inputs }
    have hexec : exec event s = .next (resolveDrop u k confirmed) := by
      cases confirmed with
      | true =>
        refine (takeEdge_run s (Inputs.setConfirm k true) (fun s => if true then confirm k s else s) hpin).trans (congrArg _ ?_)
        have hpending : (u.bay k).pendingDrop = some d := hd
        show confirm k u = _
        rw [confirm, hpending]
      | false => exact takeEvent_entered hpin (dropUnverified k)
    refine ⟨fun ha => ?_, fun g c b ha hg hc hb => ?_⟩
    · rw [hexec]
      exact congrArg _ (resolveDrop_of_detached (u := u) hd hr hn ha confirmed)
    · rw [hexec]
      exact congrArg _ (resolveDrop_of_attached (u := u) hd hr hn ha hg hc hb confirmed)

end Sys2Proof.Claims
end

section
set_option Elab.async false
/-! PROOF. Bays that lose their bundle's strips (O44). -/

namespace Sys2Proof.Machine

open Sys2Proof Claims

/-! ## Planned drops cancelled in list order (R132) -/

/-- A strip whose drop is cancelled: OVERFLOW, its destination lost and its chosen option kept. -/
def Strip.lostBay (r : Strip) (cause : Cause) : Strip :=
  { r with decision := r.decision.map fun g => { g with disposition := .overflow, cause := some cause, dest := none } }

theorem Strip.lostBay_lostBay (r : Strip) (cause : Cause) : (r.lostBay cause).lostBay cause = r.lostBay cause := by
  simp only [Strip.lostBay, Option.map_map]
  rfl

theorem Strip.band_lostBay (r : Strip) (cause : Cause) : (r.lostBay cause).band = r.band := by
  unfold Strip.band Strip.lostBay
  cases r.decision <;> rfl

/-- The place of the band of the strip of a planned drop. -/
def State.dropBand (u : State) (d : PlannedDrop) : Fin 12 := bandIdx (((u.strip? d.tag).map (·.band)).getD 0)

/-- A bundle whose commitments of l are released, each in its band. -/
def Bundle.released {α : Type} (b : Bundle) (band : α → Fin 12) (l : List α) : Bundle :=
  { b with
    committed := b.committed - l.length
    bands := Vector.ofFn fun i => { b.bands[i] with
      committed := b.bands[i].committed - (l.filter fun d => band d = i).length } }

/-- t is u after the drops of l are cancelled at bay k: for each its start is freed, its commitment released, its strip
without the bay, counted; the tags of l are gone from the bay's planned drops. -/
structure DropsCancelled (u : State) (k : BayId) (cause : Cause) (l : List PlannedDrop) (t : State) : Prop where
  frame : t = { u with strips := t.strips, calendar := t.calendar, bays := t.bays, counters := t.counters }
  strips : t.strips = u.strips.map fun r => if r.tag ∈ l.map (·.tag) then r.lostBay cause else r
  calendar : ∀ q, t.calEntry q = { u.calEntry q with planned := (u.calEntry q).planned -
    (l.filter fun d => ringIdx (d.serial + BitVec.ofNat 32 (u.bayOffset k)) = ringIdx q).length }
  bay : t.bay k = { u.bay k with
    planned := (u.bay k).planned.filter fun e => e.tag ∉ l.map (·.tag)
    bundle := (u.bay k).bundle.map fun b => b.released u.dropBand l }
  others : ∀ j, j ≠ k → t.bay j = u.bay j
  counts : ∀ c, c ≠ .bayCancels → t.count c = u.count c
  cancels : t.count .bayCancels = if l = [] then u.count .bayCancels else min 65535 (u.count .bayCancels + l.length)

theorem Bundle.released_nil {α : Type} (b : Bundle) (band : α → Fin 12) : b.released band [] = b := by
  have hbands : (Vector.ofFn fun i : Fin 12 => { b.bands[i] with committed := b.bands[i].committed - 0 }) = b.bands :=
    Vector.ext fun i hi => by simp
  show { b with committed := b.committed - 0, bands := _ } = b
  exact congrArg (fun v => { b with bands := v }) hbands

theorem Bundle.released_append {α : Type} (b : Bundle) (band : α → Fin 12) (l1 l2 : List α) :
    (b.released band l1).released band l2 = b.released band (l1 ++ l2) := by
  simp [Bundle.released, List.filter_append, Nat.sub_sub]

theorem Bundle.released_one {α : Type} (b : Bundle) (band : α → Fin 12) (d : α) : b.released band [d] = { b with
    committed := b.committed - 1
    bands := b.bands.set (band d) { b.bands[band d] with committed := b.bands[band d].committed - 1 } } := by
  have hbands : (Vector.ofFn fun i : Fin 12 => { b.bands[i] with
      committed := b.bands[i].committed - ([d].filter fun e => band e = i).length }) =
      b.bands.set (band d) { b.bands[band d] with committed := b.bands[band d].committed - 1 } := by
    refine Vector.ext fun i hi => ?_
    by_cases h : band d = (⟨i, hi⟩ : Fin 12)
    · simp [h]
    · have hne : (band d).val ≠ i := fun e => h (Fin.ext e)
      simp [h, Vector.getElem_set_ne, hne]
  exact congrArg (fun v => { b with committed := b.committed - 1, bands := v }) hbands

/-- A planned drop cancelled, as one update of the calendar and one of the bay. -/
theorem cancelPlanned_eq (u : State) (k : BayId) (d : PlannedDrop) : cancelPlanned u k d =
    withBay (u.freeStarts (d.serial + BitVec.ofNat 32 (u.bayOffset k)) 1) k { u.bay k with
      planned := (u.bay k).planned.filter fun e => e.tag ≠ d.tag
      bundle := (u.bay k).bundle.map fun b => b.released u.dropBand [d] } := by
  rw [cancelPlanned, releaseCommitment, State.updBundle, updBay_eq_withBay u]
  simp only [Bundle.released_one]
  exact updBay_withBay (u.freeStarts (d.serial + BitVec.ofNat 32 (u.bayOffset k)) 1) k
    { u.bay k with planned := (u.bay k).planned.filter fun e => e.tag ≠ d.tag } _

theorem bay_withBay_ne (u : State) {k j : BayId} (h : j ≠ k) (r : Bay) : (withBay u k r).bay j = u.bay j :=
  State.bay_updBay_ne u h fun _ => r

namespace DropsCancelled

variable {u t v : State} {k : BayId} {cause : Cause} {l l1 l2 : List PlannedDrop}

theorem refl (u : State) (k : BayId) (cause : Cause) : DropsCancelled u k cause [] u where
  frame := rfl
  strips := by simp
  calendar q := rfl
  bay := by
    have hid : (fun b : Bundle => b.released u.dropBand []) = id := funext fun b => b.released_nil _
    rw [hid]
    simp
  others _ _ := rfl
  counts _ _ := rfl
  cancels := (if_pos rfl).symm

theorem strip? (h : DropsCancelled u k cause l t) (tag : Nat) :
    t.strip? tag = (u.strip? tag).map fun r => if r.tag ∈ l.map (·.tag) then r.lostBay cause else r := by
  rw [State.strip?, h.strips, List.find?_map]
  refine congrArg _ (congrArg (List.find? · u.strips) (funext fun r => ?_))
  show ((if r.tag ∈ l.map (·.tag) then r.lostBay cause else r).tag == tag) = _
  split <;> rfl

theorem dropBand (h : DropsCancelled u k cause l t) : t.dropBand = u.dropBand := by
  funext d
  rw [State.dropBand, h.strip?, Option.map_map, State.dropBand]
  refine congrArg (fun f => bandIdx (((u.strip? d.tag).map f).getD 0)) (funext fun r => ?_)
  show (if r.tag ∈ l.map (·.tag) then r.lostBay cause else r).band = r.band
  split
  · exact r.band_lostBay cause
  · rfl

theorem append (h1 : DropsCancelled u k cause l1 t) (h2 : DropsCancelled t k cause l2 v) :
    DropsCancelled u k cause (l1 ++ l2) v where
  frame := by rw [h2.frame, h1.frame]
  strips := by
    rw [h2.strips, h1.strips, List.map_map]
    refine List.map_congr_left fun r _ => ?_
    have hlost : (r.lostBay cause).tag = r.tag := rfl
    by_cases h1 : r.tag ∈ l1.map (·.tag) <;> by_cases h2 : r.tag ∈ l2.map (·.tag) <;>
      simp only [Function.comp, h1, h2, if_true, if_false, hlost, List.map_append, List.mem_append, or_true, true_or, or_self,
        Strip.lostBay_lostBay]
  calendar q := by
    have hoffset : t.bayOffset k = u.bayOffset k := (congrArg (fun x : State => x.bayOffset k) h1.frame :)
    rw [h2.calendar, h1.calendar, hoffset, List.filter_append, List.length_append, ← Nat.sub_sub]
  bay := by
    have hfilter : ((u.bay k).planned.filter fun e => e.tag ∉ l1.map (·.tag)).filter (fun e => e.tag ∉ l2.map (·.tag)) =
        (u.bay k).planned.filter fun e => e.tag ∉ (l1 ++ l2).map (·.tag) := by
      rw [List.filter_filter]
      refine List.filter_congr fun e _ => ?_
      rw [List.map_append, ← Bool.decide_and, decide_eq_decide, List.mem_append]
      tauto
    have hmap : ((u.bay k).bundle.map fun b => b.released u.dropBand l1).map (fun b => b.released u.dropBand l2) =
        (u.bay k).bundle.map fun b => b.released u.dropBand (l1 ++ l2) := by
      rw [Option.map_map]
      exact congrArg (Option.map · _) (funext fun b => b.released_append u.dropBand l1 l2)
    rw [h2.bay, h1.bay, h1.dropBand, ← hfilter, ← hmap]
  others j hj := (h2.others j hj).trans (h1.others j hj)
  counts c hc := (h2.counts c hc).trans (h1.counts c hc)
  cancels := by
    rw [h2.cancels, h1.cancels, List.length_append]
    by_cases hl1 : l1 = [] <;> by_cases hl2 : l2 = [] <;> simp only [hl1, hl2,
      List.append_eq_nil_iff, if_true, if_false, and_true, and_false, List.length_nil] <;> omega

/-- The drop of d cancelled, and its strip without the bay. -/
theorem one (u : State) (k : BayId) (cause : Cause) (d : PlannedDrop) :
    DropsCancelled u k cause [d] (overflowStrip (cancelPlanned u k d) d.tag cause) := by
  rw [overflowStrip, cancelPlanned_eq]
  exact {
    frame := rfl
    strips := by
      show u.strips.map _ = _
      refine List.map_congr_left fun r _ => ?_
      simp only [List.map_cons, List.map_nil, List.mem_singleton]
      rfl
    calendar := fun q => by
      show (u.freeStarts _ 1).calEntry q = _
      by_cases hq : ringIdx (d.serial + BitVec.ofNat 32 (u.bayOffset k)) = ringIdx q
      · simp [State.freeStarts, State.updCal, State.calEntry, hq]
      · rw [State.freeStarts, State.calEntry_updCal_ne u (Ne.symm hq)]
        simp [hq]
    bay := by
      refine (bay_withBay _ k _).trans ?_
      simp only [List.map_cons, List.map_nil, List.mem_singleton, ne_eq]
    others := fun j hj => bay_withBay_ne _ hj _
    counts := fun c hc => State.count_bump_ne _ hc
    cancels := by
      rw [if_neg (List.cons_ne_nil d [])]
      exact State.count_bump_self _ _ }

end DropsCancelled

theorem cancelAllPlanned_cancels (u : State) (k : BayId) (cause : Cause) :
    DropsCancelled u k cause (u.bay k).planned (cancelAllPlanned u k cause) := by
  unfold cancelAllPlanned
  generalize (u.bay k).planned = l
  induction l generalizing u with
  | nil => exact .refl u k cause
  | cons d l ih =>
    rw [List.foldl_cons]
    exact List.singleton_append (x := d) (l := l) ▸ (DropsCancelled.one u k cause d).append (ih _)

/-- The strip of a cancelled drop. -/
theorem DropsCancelled.overflowed {u t : State} {k : BayId} {cause : Cause} {l : List PlannedDrop} {d : PlannedDrop}
    {r : Strip} {g : Decision} (h : DropsCancelled u k cause l t) (hd : d ∈ l) (hr : u.strip? d.tag = some r)
    (hg : r.decision = some g) : t.strip? d.tag = some { r with
      decision := some { g with disposition := .overflow, cause := some cause, dest := none } } := by
  have htag : r.tag = d.tag := strip?_tag hr
  rw [h.strip?, hr, Option.map_some, if_pos (by rw [htag]; exact List.mem_map_of_mem hd), Strip.lostBay, hg]
  rfl

/-- Every drop of the bay is cancelled: none is planned. -/
theorem planned_filter_self (l : List PlannedDrop) : l.filter (fun e => e.tag ∉ l.map (·.tag)) = [] := by
  rw [List.filter_eq_nil_iff]
  intro e he
  simpa using ⟨e, he, rfl⟩

/-! ## The bundle removed (R146) -/

/-- With no entry waiting a bay that enters EMPTY starves, which is noticed once for the stay. -/
theorem enterEmpty_of_no_entry {v : State} {k : BayId} (hq : v.orders.queue = []) : enterEmpty v k =
    if (v.bay k).starved = true then withBay v k { (v.bay k).emptied with starved := true }
    else (withBay v k { (v.bay k).emptied with starved := true }).raise .recipeStarved := by
  have henter := (enterEmpty_entersEmpty (v := v) (k := k) (r := v.bay k) (bay := v.bay k) rfl).1 hq
  rw [withBay_self] at henter
  exact henter

/-- t is what ABORT BUNDLE makes of v, in which the planned drops of bay k are cancelled. -/
structure BundleAborted (v : State) (k : BayId) (t : State) : Prop where
  strips : t.strips = v.strips
  calendar : t.calendar = v.calendar
  bays : t.bays = v.bays.set k { (v.bay k).emptied with
    starved := true, pendingDrop := (v.bay k).pendingDrop.map fun d => { d with attached := false } }
  strapper : t.strapper = { v.strapper with fifo := v.strapper.fifo.filter (· ≠ k) }
  aborted : t.count .bundlesAborted = min 65535 (v.count .bundlesAborted + 1)
  cancels : t.count .bayCancels = v.count .bayCancels
  reported : ∀ b o, (v.bay k).bundle = some b → v.order? b.order = some o →
    ∃ o', t.order? b.order = some o' ∧ o'.aborted = o.aborted + 1

theorem abortBundle_aborted {u : State} {k : BayId} (hq : u.orders.queue = []) :
    BundleAborted (cancelAllPlanned u k .bayAbort) k (abortBundle u k) := by
  have hcancelled := cancelAllPlanned_cancels u k .bayAbort
  unfold abortBundle
  generalize cancelAllPlanned u k .bayAbort = v at *
  have hqv : v.orders.queue = [] := by rw [hcancelled.frame]; exact hq
  dsimp only
  let w : State := { withBay v k { v.bay k with pendingDrop := (v.bay k).pendingDrop.map fun d => { d with attached := false } } with
    strapper := { v.strapper with fifo := v.strapper.fifo.filter (· ≠ k) } }
  have hw : (v.updBay k fun b => { b with pendingDrop := b.pendingDrop.map fun d => { d with attached := false } }) =
    withBay v k { v.bay k with pendingDrop := (v.bay k).pendingDrop.map fun d => { d with attached := false } } := rfl
  rw [hw]
  have hbayw : w.bay k = { v.bay k with pendingDrop := (v.bay k).pendingDrop.map fun d => { d with attached := false } } :=
    bay_withBay v k _
  have hreport : ∀ x : State, x = { w with
        orders := { w.orders with table := x.orders.table }
        link := { w.link with notices := x.link.notices }
        counters := x.counters } → KeptBut [.ordersCompleted] w x →
      (∀ b o, (v.bay k).bundle = some b → v.order? b.order = some o →
        ∃ o', x.order? b.order = some o' ∧ o'.aborted = o.aborted + 1) →
      BundleAborted v k (enterEmpty (x.bump .bundlesAborted) k) := fun x hx hkept horder => by
    have hqx : (x.bump .bundlesAborted).orders.queue = [] := by rw [hx]; exact hqv
    have hbayx : (x.bump .bundlesAborted).bay k = w.bay k := by rw [hx]; rfl
    have hbaysx : (x.bump .bundlesAborted).bays = w.bays := by rw [hx]; rfl
    have hcount : (x.bump .bundlesAborted).count .bundlesAborted = min 65535 (v.count .bundlesAborted + 1) :=
      (State.count_bump_self _ _).trans (congrArg (fun n => min 65535 (n + 1)) (hkept.counts _ (by decide)))
    have hcancels : (x.bump .bundlesAborted).count .bayCancels = v.count .bayCancels :=
      (State.count_bump_ne _ (by decide)).trans (hkept.counts _ (by decide))
    have hbays : (withBay (x.bump .bundlesAborted) k { (w.bay k).emptied with starved := true }).bays =
        v.bays.set k { (v.bay k).emptied with
          starved := true, pendingDrop := (v.bay k).pendingDrop.map fun d => { d with attached := false } } := by
      rw [hbayw]
      show (x.bump .bundlesAborted).bays.set k _ = _
      rw [hbaysx]
      exact Vector.set_set ..
    have hframe : ∀ y : State, y = withBay (x.bump .bundlesAborted) k { (w.bay k).emptied with starved := true } ∨
        y = (withBay (x.bump .bundlesAborted) k { (w.bay k).emptied with starved := true }).raise .recipeStarved →
        BundleAborted v k y := by
      rintro y (rfl | rfl)
      · exact ⟨by rw [hx]; rfl, by rw [hx]; rfl, hbays, by rw [hx]; rfl, hcount, hcancels, horder⟩
      · exact ⟨by rw [hx]; rfl, by rw [hx]; rfl, hbays, by rw [hx]; rfl, hcount, hcancels, horder⟩
    rw [enterEmpty_of_no_entry hqx, hbayx]
    split
    · exact hframe _ (.inl rfl)
    · exact hframe _ (.inr rfl)
  have hbundle : (w.bay k).bundle = (v.bay k).bundle := by rw [hbayw]
  show BundleAborted v k (enterEmpty (State.bump (match (w.bay k).bundle with
    | some b => orderReport w b.order fun o => { o with aborted := o.aborted + 1 }
    | none => w) .bundlesAborted) k)
  rw [hbundle]
  cases hb : (v.bay k).bundle with
  | none => exact hreport w rfl (.refl _ w) fun b o h => by rw [hb] at h; cases h
  | some b =>
    refine hreport _ (orderReport_frame w b.order _) (orderReport_keptBut w b.order _) fun x o hx ho => ?_
    obtain rfl := Option.some.inj (hb.symm.trans hx)
    obtain ⟨st, m, ho'⟩ := orderReport_order? (s := w) (f := fun o => { o with aborted := o.aborted + 1 }) (fun _ => rfl) ho
    exact ⟨_, ho', rfl⟩

end Sys2Proof.Machine

namespace Sys2Proof.Claims

open Sys2Proof Sys2Proof.Machine

/-- Settles O44: a bay fault by the bay's state, and ABORT BUNDLE. -/
theorem bayLossesCancelDrops : Obligations.BayLossesCancelDrops := by
  intro s k level bay p overflowed cancelled bandOfTag released
  have hreleased : bay.bundle.map (fun b => b.released s.dropBand bay.planned) = bay.bundle.map released := rfl
  refine ⟨fun hpin => ?_, fun hr => ⟨fun hst hq => ?_, fun hst => ?_⟩⟩
  · have hedge : exec (.bayFaultInput k true) s = .next (bayFaultActive (level true) k) :=
      takeEdge_run s (Inputs.setBayFault k true) (fun s => if true then bayFaultActive s k else s) hpin
    have hbay : (level true).bay k = bay := rfl
    have hfault : ∀ origin, bayToFault (level true) k origin = State.raise (State.bump (withBay (level true) k
        { bay with state := .fault, origin := some origin, settleTimer := none }) .bayFaults) .bayFault := fun _ => rfl
    refine ⟨takeEdge_run s (Inputs.setBayFault k false) (fun s => if false then bayFaultActive s k else s) hpin,
      fun hst hnil => ?_, fun hst => ?_, fun hst => ?_, fun hst => ?_, fun hst => ?_⟩
    · rw [hedge, bayFaultActive, hbay, hst]
      dsimp only
      rw [hfault, cancelAllPlanned, State.bay_raise, State.bay_bump, bay_withBay, hnil]
      rfl
    · have hcancelled := cancelAllPlanned_cancels (bayToFault (level true) k .filling) k .bayFault
      rw [hfault] at hcancelled
      have hexec : exec (.bayFaultInput k true) s = .next (cancelAllPlanned (bayToFault (level true) k .filling) k .bayFault) := by
        rw [hedge, bayFaultActive, hbay, hst]
      rw [hfault] at hexec
      generalize hu : State.raise (State.bump (withBay (level true) k
        { bay with state := .fault, origin := some .filling, settleTimer := none }) .bayFaults) .bayFault = u at *
      have hbayu : u.bay k = { bay with state := .fault, origin := some .filling, settleTimer := none } := by
        rw [← hu]
        exact bay_withBay _ k _
      rw [hbayu] at hcancelled
      refine ⟨_, hexec, fun d hd r g hr hg => ⟨_, hcancelled.overflowed hd (by rw [← hu]; exact hr) hg, rfl⟩, fun q => ?_, ?_,
        ?_, fun j hj => ?_, ?_, ?_, fun hne => ?_⟩
      · rw [hcancelled.calendar, ← hu]
        rfl
      · rw [hcancelled.bay, hbayu, planned_filter_self, ← hu]
        rfl
      · rw [hcancelled.frame, ← hu]
        exact (State.isPending_raise ..).trans (by simp)
      · rw [hcancelled.others j hj, ← hu]
        exact bay_withBay_ne _ hj _
      · have hframe := hcancelled.frame
        have hlink : (cancelAllPlanned u k .bayFault).link = u.link := (congrArg State.link hframe :)
        refine hframe.trans ?_
        rw [hlink, ← hu]
        rfl
      · rw [hcancelled.counts _ (by decide), ← hu]
        exact State.count_bump_self _ _
      · have hcount : u.count .bayCancels = s.count .bayCancels := by
          rw [← hu]
          exact State.count_bump_ne _ (by decide)
        rw [hcancelled.cancels, if_neg hne, hcount]
    · rw [hedge, bayFaultActive, hbay, hst]
      rfl
    · rw [hedge, bayFaultActive, hbay, hst]
    · rw [hedge, bayFaultActive, hbay]
      cases h : bay.state <;> simp [h] at hst ⊢
  · have habortable : ∀ st ∈ [BayState.filling, .settling, .waitStrap, .fault], st.abortable = true := by decide
    have hok := habortable _ hst
    have habort := abortBundle_aborted (k := k) hq
    have hcancelled := cancelAllPlanned_cancels (found s) k .bayAbort
    rw [found_bay] at hcancelled
    refine ⟨_, exec_taken (t := abortBundle (found s) k) (f := abortBundleRequest) rfl hr (by simp [p]) ?_, rfl, ?_⟩
    · rw [abortBundleRequest, bayRequest_bayNum, found_bay, if_pos hok]
    obtain ⟨hstrips, hcal, hbays, hstrapper, haborted, hcancels, hreported⟩ := habort
    have hbayv := hcancelled.bay
    rw [found_bay, planned_filter_self] at hbayv
    refine ⟨fun d hd r g hr hg => ⟨_, ?_, rfl⟩, fun q => ?_, ?_, fun j hj => ?_, ?_, ?_, fun hne => ?_, fun b o hb ho => ?_⟩
    · have hover := hcancelled.overflowed hd (by rwa [found_strip?]) hg
      rw [← hover, State.strip?, State.strip?]
      exact congrArg (List.find? _) hstrips
    · refine (congrArg (·[ringIdx q]) hcal).trans ((hcancelled.calendar q).trans ?_)
      simp only [found_calEntry, State.bayOffset, found_geometry]
      rfl
    · refine (congrArg (·[k]) hbays).trans ?_
      rw [hbayv]
      simp [Bay.emptied, bay]
    · refine (congrArg (·[j]) hbays).trans ?_
      refine (bay_withBay_ne _ hj _).trans ((hcancelled.others j hj).trans (found_bay s j))
    · refine hstrapper.trans ?_
      rw [hcancelled.frame, found_strapper]
    · refine (okOf_count_ne (by decide) ..).trans ?_
      rw [haborted, hcancelled.counts _ (by decide), found_count]
    · refine (okOf_count_ne (by decide) ..).trans ?_
      rw [hcancels, hcancelled.cancels, if_neg hne, found_count]
    · obtain ⟨o', ho', hab⟩ := hreported (b.released (found s).dropBand bay.planned) o (by rw [hbayv, hb]; rfl) (by rw [hcancelled.frame]; exact ho)
      exact ⟨o', ho', hab⟩
  · refine exec_refused (f := abortBundleRequest) rfl hr (by simp [p]) (by decide) ?_
    have hno : ¬ bay.state.abortable = true := by
      cases h : bay.state <;> simp [h, BayState.abortable] at hst ⊢
    rw [abortBundleRequest, bayRequest_bayNum, found_bay, if_neg hno]

end Sys2Proof.Claims
end

section
set_option Elab.async false
/-! PROOF. The positioner handshake and homing (O41). -/

namespace Sys2Proof.Machine

open Sys2Proof Claims

/-! ## Homings that come together with a lug tick (R76) -/

/-- A head of l that is READY takes its reference at the lug at D. -/
def State.referenced (u : State) (l : List HeadId) (h : HeadId) : Head :=
  if h ∈ l ∧ (u.head h).state = .ready then
    { u.head h with reference := some { step := 0, serial := u.serialAt u.geometry.d } }
  else u.head h

theorem referenceAtTick_eq (u : State) (h : HeadId) : referenceAtTick u h =
    { u with headSide := u.referenced [h] .headSide, tailSide := u.referenced [h] .tailSide } := by
  have hself : u.referenced [h] h =
      if (u.head h).state = .ready then
        { u.head h with reference := some { step := 0, serial := u.serialAt u.geometry.d } }
      else u.head h := by simp [State.referenced]
  have hother : ∀ j, j ≠ h → u.referenced [h] j = u.head j := fun j hj => by simp [State.referenced, hj]
  cases h with
  | headSide =>
    rw [hself, hother .tailSide (by decide)]
    rfl
  | tailSide =>
    rw [hself, hother .headSide (by decide)]
    rfl

theorem foldl_referenceAtTick (l : List HeadId) (u : State) : l.foldl referenceAtTick u =
    { u with headSide := u.referenced l .headSide, tailSide := u.referenced l .tailSide } := by
  induction l generalizing u with
  | nil => rfl
  | cons h l ih =>
    have hstep : ∀ j, (referenceAtTick u h).referenced l j = u.referenced (h :: l) j := fun j => by
      have hj : (referenceAtTick u h).head j = u.referenced [h] j := by
        rw [referenceAtTick_eq]
        cases j <;> rfl
      have hserial : (referenceAtTick u h).serialAt (referenceAtTick u h).geometry.d = u.serialAt u.geometry.d := by
        rw [referenceAtTick_eq]
        rfl
      unfold State.referenced at hj ⊢
      rw [hserial, hj]
      rcases eq_or_ne j h with rfl | hne
      · by_cases hr : (u.head j).state = .ready <;> simp [hr]
      · simp [hne]
    rw [List.foldl_cons, ih, hstep, hstep, referenceAtTick_eq]

/-! ## CLEAR HEAD FAULT (R109) -/

theorem headOfNum_none {n : Nat} (h : n = 0 ∨ 3 ≤ n) : headOfNum n = none := by
  unfold headOfNum
  split
  · omega
  · omega
  · rfl

/-- The code of a head (Table 11-4). -/
def headCode (h : HeadId) : Nat := match h with
  | .headSide => 1
  | .tailSide => 2

theorem clearHeadFault_headCode (h : HeadId) (u : State) : clearHeadFault (toBytes 1 (headCode h)) u =
    if (u.head h).state = .fault ∧ u.inputs.headFaultAt h = false then taken (homeHead u h) else .error .wrongState := by
  have hfield : headOfNum (fieldAt (toBytes 1 (headCode h)) 0 1) = some h := by cases h <;> decide
  unfold clearHeadFault
  rw [hfield]
  dsimp only
  split
  next hs => cases hf : u.inputs.headFaultAt h <;> simp [hs]
  next hs => simp [hs]
  next hs => simp [hs]

end Sys2Proof.Machine

namespace Sys2Proof.Claims

open Sys2Proof Sys2Proof.Machine

/-- Settles O41: the events of a head by its state, the homings before a tick, and CLEAR HEAD FAULT. -/
theorem headHandshake : Obligations.HeadHandshake := by
  intro s h level ready homes code faultInput
  have hlevel : ∀ v, { s with inputs := s.inputs.setInPosition h v, pulses := [], homed := [] } = level v := fun v => by
    cases h <;> rfl
  have hcode : code = toBytes 1 (headCode h) := by cases h <;> rfl
  have hin : faultInput = s.inputs.headFaultAt h := by cases h <;> rfl
  have hhead : ∀ v, (level v).head h = s.head h := fun v => by cases h <;> rfl
  have hhomes : ∀ earlier, homingDone earlier (level true) h =
      { (level true).setHead h ready with homed := earlier ++ [h] } := fun earlier => by
    rw [homingDone, State.updHead, hhead]
    rfl
  have hedge : ∀ v f, s.resetPin = false → takeEdge (·.setInPosition h v) f s = .next (f (level v)) := fun v f hpin =>
    (takeEdge_run s (·.setInPosition h v) f hpin).trans (congrArg (fun x => Host.Outcome.next (f x)) (hlevel v))
  refine ⟨fun hpin => ?_, fun n hr hn hle => ?_, fun hr => ⟨fun hst hf => ?_, fun hno => ?_⟩⟩
  · have hreached : exec (.inPositionActive h) s = .next (positionReached s.homed h (level true)) := hedge true _ hpin
    have hcomplete : exec (.homingComplete h) s = .next (homingComplete s.homed h (level true)) := hedge true _ hpin
    have hinactive : exec (.inPositionInactive h) s = .next (positionLost h (level false)) := hedge false _ hpin
    refine ⟨fun hst => ⟨?_, ?_⟩, fun hst => ⟨?_, ?_⟩, fun hne => ?_, fun hst => ?_, fun hst => ⟨?_, ?_, ?_⟩⟩
    · rw [hreached, positionReached, hhead, hst]
      rfl
    · rw [hcomplete, homingComplete, hhead, hst]
    · rw [hreached, positionReached, hhead, hst]
      exact congrArg _ (hhomes _)
    · rw [hcomplete, homingComplete, hhead, hst]
      exact congrArg _ (hhomes _)
    · refine ⟨Config.homedBefore s.freeCount, ?_⟩
      intro heads
      let s' : State := { s with
        homed := [], freeCount := s.freeCount + 1
        headSide := homedWith s heads .headSide, tailSide := homedWith s heads .tailSide }
      refine (takeEvent_entered hpin (lugTick s.homed)).trans ((congrArg _ ?_).trans
        (takeEvent_entered (s := s') hpin (lugTick s'.homed)).symm)
      have hhomings : homingsAtTick s.homed (advanceSerial (entered s)).calendarAdvance =
          (advanceSerial (entered s')).calendarAdvance := by
        obtain ⟨j, l, hl⟩ := List.exists_cons_of_ne_nil hne
        have hfold : homingsAtTick s.homed (advanceSerial (entered s)).calendarAdvance =
            heads.foldl referenceAtTick
              { (advanceSerial (entered s)).calendarAdvance with freeCount := s.freeCount + 1 } := by
          simp only [heads, hl]
          rfl
        rw [hfold, foldl_referenceAtTick]
        rfl
      exact congrArg (fun x => chainEnd (allBays.foldl bayTick (stationsTick (verifyTick (loadLug x))))) hhomings
    · have hlost : positionLost h (level false) = (level false).updHead h fun r => { r with inPosition := false } := by
        unfold positionLost
        split
        next hf => exact absurd (by rwa [hhead] at hf) hst
        · rfl
      rw [hinactive, hlost, State.updHead, hhead]
    · rw [hreached, positionReached, hhead, hst]
    · rw [hcomplete, homingComplete, hhead, hst]
    · rw [hinactive, positionLost, hhead, hst]
  · have hfield : fieldAt (toBytes 1 n) 0 1 = n := fieldAt_toBytes (by omega)
    refine exec_refused (f := clearHeadFault) rfl hr (by simp) (by decide) ?_
    rw [clearHeadFault, hfield, headOfNum_none hn]
  · refine exec_taken (f := clearHeadFault) rfl hr (by cases h <;> rfl) ?_
    rw [hcode, clearHeadFault_headCode, found_head, found_inputs, if_pos ⟨hst, hin.symm.trans hf⟩]
    have hhome : homeHead (found s) h = { (found s).setHead h { (found s).head h with
        state := .homing, commanded := 0, inPosition := false, plan := [], reference := none } with
          pulses := (found s).pulses ++ [.step h 0] } := by cases h <;> rfl
    rw [hhome, found_head, found_pulses]
    rfl
  · refine exec_refused (f := clearHeadFault) rfl hr (by cases h <;> rfl) (by decide) ?_
    rw [hcode, clearHeadFault_headCode, found_head, found_inputs, if_neg]
    rintro ⟨h1, h2⟩
    rcases hno with hno | hno
    · exact hno h1
    · exact Bool.noConfusion (hno.symm.trans (hin.trans h2))

end Sys2Proof.Claims
end

section
set_option Elab.async false
/-! PROOF. The chosen option carried out: plunge starts, plan entries, the bay (O36). -/

namespace Sys2Proof.Machine

open Sys2Proof Claims

/-! ## The candidates in order (R91) -/

/-- Bay j stands before bay k: the smaller remaining count, and the lower number among equals. -/
def Ahead (rem : BayId → Nat) (j k : BayId) : Prop := rem j < rem k ∨ (rem j = rem k ∧ j < k)

theorem Ahead.asymm {rem : BayId → Nat} {j k : BayId} (h : Ahead rem j k) : ¬ Ahead rem k j := by
  rintro (h' | ⟨h', hkj⟩) <;> rcases h with h | ⟨h, hjk⟩
  · omega
  · omega
  · omega
  · exact absurd hjk hkj.asymm

theorem Ahead.irrefl (rem : BayId → Nat) (k : BayId) : ¬ Ahead rem k k := fun h => h.asymm h

theorem insertBay_perm (rem : BayId → Nat) (k : BayId) (l : List BayId) : (insertBay rem k l).Perm (k :: l) := by
  induction l with
  | nil => exact .refl _
  | cons j l ih =>
    unfold insertBay
    split
    · exact (ih.cons j).trans (.swap k j l)
    · exact .refl _

theorem insertBay_sorted {rem : BayId → Nat} {k : BayId} {l : List BayId} (hl : l.Pairwise (Ahead rem)) (hk : ∀ j ∈ l, j < k) :
    (insertBay rem k l).Pairwise (Ahead rem) := by
  induction l with
  | nil => exact List.pairwise_singleton _ _
  | cons j l ih =>
    obtain ⟨hj, hl'⟩ := List.pairwise_cons.mp hl
    have hjk := hk j List.mem_cons_self
    unfold insertBay
    split
    next hle =>
      refine List.pairwise_cons.mpr ⟨fun x hx => ?_, ih hl' fun i hi => hk i (List.mem_cons_of_mem _ hi)⟩
      rcases List.mem_cons.mp ((insertBay_perm rem k l).mem_iff.mp hx) with rfl | hx
      · exact (Nat.lt_or_eq_of_le hle).imp_right fun e => ⟨e, hjk⟩
      · exact hj x hx
    next hlt =>
      refine List.pairwise_cons.mpr ⟨fun x hx => ?_, hl⟩
      rcases List.mem_cons.mp hx with rfl | hx
      · exact .inl (not_le.mp hlt)
      · refine .inl ((not_le.mp hlt).trans_le ?_)
        exact (hj x hx).elim le_of_lt fun e => e.1.le

theorem foldl_insertBay (rem : BayId → Nat) (l : List BayId) : ∀ acc : List BayId, l.Pairwise (· < ·) →
    acc.Pairwise (Ahead rem) → (∀ a ∈ acc, ∀ b ∈ l, a < b) →
    (l.foldl (fun acc k => insertBay rem k acc) acc).Pairwise (Ahead rem) ∧
      (l.foldl (fun acc k => insertBay rem k acc) acc).Perm (l ++ acc) := by
  induction l with
  | nil => exact fun acc _ hacc _ => ⟨hacc, .refl _⟩
  | cons k l ih =>
    intro acc hl hacc hlt
    obtain ⟨hk, hl⟩ := List.pairwise_cons.mp hl
    have hperm := insertBay_perm rem k acc
    obtain ⟨hs, hp⟩ := ih (insertBay rem k acc) hl (insertBay_sorted hacc fun j hj => hlt j hj k List.mem_cons_self)
      fun a ha b hb => by
        rcases List.mem_cons.mp (hperm.mem_iff.mp ha) with rfl | ha
        · exact hk b hb
        · exact hlt a ha b (List.mem_cons_of_mem _ hb)
    exact ⟨hs, hp.trans ((hperm.append_left l).trans List.perm_middle)⟩

/-- The bays that accept a strip. -/
def State.accepting (s : State) (q : Grading) (g : Grade) (band : Nat) : List BayId :=
  allBays.filter fun k => s.accepts k g band q.species q.profile

/-- The candidates are the bays that accept, the one with the smallest remaining count first. -/
theorem candidates_sorted (s : State) (q : Grading) (g : Grade) (band : Nat) :
    (s.candidates q g band).Pairwise (Ahead s.bayRemaining) ∧ (s.candidates q g band).Perm (s.accepting q g band) := by
  have h := foldl_insertBay s.bayRemaining (s.accepting q g band) []
    (List.Pairwise.filter _ (by decide : allBays.Pairwise (· < ·))) .nil (by simp)
  rw [List.append_nil] at h
  exact h

theorem mem_candidates {s : State} {q : Grading} {g : Grade} {band : Nat} {k : BayId} :
    k ∈ s.candidates q g band ↔ s.accepts k g band q.species q.profile = true := by
  rw [(candidates_sorted s q g band).2.mem_iff, State.accepting, List.mem_filter]
  exact and_iff_right (mem_allBays k)

/-! ## The first candidate whose drop start is granted (R91, R115) -/

/-- n reservations are refused. -/
def refusals (s : State) (n : Nat) : State := if n = 0 then s else s.bumpBy .airRefused n

theorem refusals_bump (s : State) (n : Nat) : refusals (s.bump .airRefused) n = refusals s (n + 1) := by
  by_cases hn : n = 0
  · subst hn
    rfl
  · rw [refusals, refusals, if_neg hn, if_neg (Nat.succ_ne_zero n)]
    have hcount : (s.bump .airRefused).count .airRefused = min Config.counterLimit (s.count .airRefused + 1) :=
      s.count_bump_self .airRefused
    have hsum : min Config.counterLimit ((s.bump .airRefused).count .airRefused + n) =
        min Config.counterLimit (s.count .airRefused + (n + 1)) := by
      rw [hcount]
      omega
    unfold State.bumpBy
    rw [hsum]
    exact congrArg (fun v => { s with counters := v }) (Vector.set_set ..)

theorem windowStarts_congr {s t : State} (hcal : t.calendar = s.calendar) (hchain : t.chain = s.chain) (u : Serial) (n : Nat) :
    t.windowStarts u n = s.windowStarts u n := by
  induction n generalizing u with
  | zero => rfl
  | succ n ih =>
    have hring : t.ringHolds u = s.ringHolds u := by
      unfold State.ringHolds State.serialAt
      rw [hchain]
    have hstarts : t.startsAt u = s.startsAt u := by
      rw [State.startsAt, State.startsAt, hring]
      simp only [State.calEntry, hcal]
    rw [State.windowStarts, State.windowStarts, ih, hstarts]

theorem airFits_congr {s t : State} (hcal : t.calendar = s.calendar) (hchain : t.chain = s.chain) (hl : t.limits = s.limits)
    (u : Serial) (c : Nat) : t.airFits u c = s.airFits u c := by
  simp only [State.airFits, windowStarts_congr hcal hchain, hl]

theorem firstGranted_of_refused {n : Serial} {l : List BayId} : ∀ {s : State},
    (∀ k ∈ l, s.airFits (n + BitVec.ofNat 32 (s.bayOffset k)) 1 = false) → ∀ rest,
    firstGranted n s (l ++ rest) = firstGranted n (refusals s l.length) rest := by
  induction l with
  | nil => exact fun _ rest => rfl
  | cons k l ih =>
    intro s h rest
    have hk : ¬ s.airFits (n + BitVec.ofNat 32 (s.bayOffset k)) 1 = true := by
      rw [h k List.mem_cons_self]
      decide
    rw [List.cons_append, firstGranted, State.reserve, if_neg hk]
    refine (ih (s := s.bump .airRefused) (fun j hj =>
      (airFits_congr (s := s) (t := s.bump .airRefused) rfl rfl rfl _ _).trans (h j (List.mem_cons_of_mem _ hj))) rest).trans ?_
    rw [refusals_bump, List.length_cons]

theorem airFits_refusals (s : State) (m : Nat) (t : Serial) (c : Nat) : (refusals s m).airFits t c = s.airFits t c := by
  unfold refusals
  split
  · rfl
  · exact airFits_congr (s := s) (t := s.bumpBy .airRefused m) rfl rfl rfl t c

theorem firstGranted_of_granted {n : Serial} {k : BayId} {s : State} {rest : List BayId}
    (h : s.airFits (n + BitVec.ofNat 32 (s.bayOffset k)) 1 = true) :
    firstGranted n s (k :: rest) = (s.planStarts (n + BitVec.ofNat 32 (s.bayOffset k)) 1, some k) := by
  rw [firstGranted, State.reserve, if_pos h]
  rfl

/-! ## Carrying out (R89 to R92) -/

theorem carryOut_of_refused {s : State} {n : Serial} {tag : Nat} {q : Grading} {c : Choice}
    (h : s.airFits (n + BitVec.ofNat 32 s.geometry.e) 2 = false) : carryOut s n tag q c =
      (writeDecision (s.bump .airRefused) tag
        { disposition := .uncut, cause := some .air, choice := some c, dest := none }, []) := by
  have hno : ¬ s.airFits (n + BitVec.ofNat 32 s.geometry.e) 2 = true := by
    rw [h]
    decide
  rw [carryOut, State.reserve, if_neg hno]
  rfl

theorem carryOut_of_granted {s : State} {n : Serial} {tag : Nat} {q : Grading} {c : Choice}
    (h : s.airFits (n + BitVec.ofNat 32 s.geometry.e) 2 = true) : carryOut s n tag q c =
      (routeStrip (s.planStarts (n + BitVec.ofNat 32 s.geometry.e) 2) n tag q c, cutEntries n c) := by
  rw [carryOut, State.reserve, if_pos h]
  rfl

/-- No candidate is granted a drop start. -/
theorem routeStrip_of_refused {s : State} {n : Serial} {tag : Nat} {q : Grading} {c : Choice}
    (h : ∀ k, s.accepts k c.grade c.band q.species q.profile = true →
      s.airFits (n + BitVec.ofNat 32 (s.bayOffset k)) 1 = false) : routeStrip s n tag q c =
      writeDecision (refusals s (s.accepting q c.grade c.band).length) tag
        { disposition := .overflow, cause := some (if s.accepting q c.grade c.band = [] then .noBay else .air)
          choice := some c, dest := none } := by
  obtain ⟨-, hperm⟩ := candidates_sorted s q c.grade c.band
  have hfirst := firstGranted_of_refused (n := n) (l := s.candidates q c.grade c.band) (s := s)
    (fun k hk => h k (mem_candidates.mp hk)) []
  rw [List.append_nil, firstGranted, hperm.length_eq] at hfirst
  have hnil : (s.candidates q c.grade c.band = []) = (s.accepting q c.grade c.band = []) :=
    propext ⟨fun e => (e ▸ hperm).nil_eq.symm, fun e => (e ▸ hperm).eq_nil⟩
  simp only [routeStrip, hfirst, hnil]

/-- The first candidate that is granted its drop start takes the strip. -/
theorem routeStrip_of_granted {s : State} {n : Serial} {tag : Nat} {q : Grading} {c : Choice} {k : BayId}
    (hk : s.accepts k c.grade c.band q.species q.profile = true)
    (hair : s.airFits (n + BitVec.ofNat 32 (s.bayOffset k)) 1 = true)
    (h : ∀ j, s.accepts j c.grade c.band q.species q.profile = true → Ahead s.bayRemaining j k →
      s.airFits (n + BitVec.ofNat 32 (s.bayOffset j)) 1 = false) : routeStrip s n tag q c =
      writeDecision (commitStrip ((refusals s ((s.accepting q c.grade c.band).filter fun j =>
          s.bayRemaining j < s.bayRemaining k || (s.bayRemaining j = s.bayRemaining k && j < k)).length).planStarts
            (n + BitVec.ofNat 32 (s.bayOffset k)) 1) k n tag c.band) tag
        { disposition := .sort, cause := none, choice := some c
          dest := some { bay := k, bundle := ((s.bay k).bundle.map (·.serial)).getD 0 } } := by
  obtain ⟨hsorted, hperm⟩ := candidates_sorted s q c.grade c.band
  obtain ⟨l1, l2, hl⟩ := List.append_of_mem (mem_candidates.mpr hk)
  rw [hl] at hsorted
  obtain ⟨-, hsorted2, hbefore⟩ := List.pairwise_append.mp hsorted
  have hafter := (List.pairwise_cons.mp hsorted2).1
  have hl1 : ∀ j ∈ l1, Ahead s.bayRemaining j k := fun j hj => hbefore j hj k List.mem_cons_self
  have hahead : ∀ j, (decide (s.bayRemaining j < s.bayRemaining k) ||
      (decide (s.bayRemaining j = s.bayRemaining k) && decide (j < k))) = true ↔ Ahead s.bayRemaining j k := fun j => by
    simp [Ahead]
  have hlength : ((s.accepting q c.grade c.band).filter fun j =>
      s.bayRemaining j < s.bayRemaining k || (s.bayRemaining j = s.bayRemaining k && j < k)).length = l1.length := by
    rw [← (hperm.filter _).length_eq, hl, List.filter_append, List.filter_cons_of_neg (by rw [hahead]; exact Ahead.irrefl _ k),
      List.filter_eq_self.mpr fun j hj => (hahead j).mpr (hl1 j hj),
      List.filter_eq_nil_iff.mpr fun j hj => by rw [hahead]; exact (hafter j hj).asymm, List.append_nil]
  have hfirst := firstGranted_of_refused (n := n) (l := l1) (s := s)
    (fun j hj => h j (mem_candidates.mp (hl ▸ List.mem_append_left _ hj)) (hl1 j hj)) (k :: l2)
  have hoffset : ∀ m, (refusals s m).bayOffset k = s.bayOffset k := fun m => by unfold refusals; split <;> rfl
  have hbay : ∀ m, (refusals s m).bay k = s.bay k := fun m => by unfold refusals; split <;> rfl
  rw [firstGranted_of_granted (by rw [airFits_refusals, hoffset]; exact hair), hoffset] at hfirst
  simp only [routeStrip, hl, hfirst, hlength]
  rw [show ((refusals s l1.length).planStarts (n + BitVec.ofNat 32 (s.bayOffset k)) 1).bay k = s.bay k from hbay _]

theorem commitStrip_eq {u : State} {k : BayId} {b : Bundle} (hb : (u.bay k).bundle = some b) (n : Serial) (tag band : Nat) :
    commitStrip u k n tag band = withBay u k { u.bay k with
      bundle := some { b with
        committed := b.committed + 1
        bands := b.bands.set (bandIdx band) { b.bands[bandIdx band] with committed := b.bands[bandIdx band].committed + 1 } }
      planned := (u.bay k).planned ++ [{ serial := n, tag := tag }] } := by
  rw [commitStrip, State.updBundle, updBay_eq_withBay u, hb, updBay_withBay]
  rfl

/-- The acceptance test in words (R127). -/
theorem accepts_iff {s : State} {k : BayId} {g : Grade} {band species profile : Nat} :
    s.accepts k g band species profile = true ↔ (s.bay k).state = .filling ∧ ∃ b, (s.bay k).bundle = some b ∧ b.closing = false ∧
      species = b.copy.species ∧ profile = b.copy.profile ∧ b.copy.grades.getLsbD (gradeIdx g) = true ∧
      b.total < b.copy.target ∧ b.bands[bandIdx band].total < b.copy.quotas[bandIdx band] := by
  unfold State.accepts
  split
  next b hs hb => simp [hs, hb, and_assoc]
  next hno =>
    refine ⟨fun h => Bool.noConfusion h, ?_⟩
    rintro ⟨hs, b, hb, -⟩
    exact absurd hb (hno b hs)

end Sys2Proof.Machine

namespace Sys2Proof.Claims

open Sys2Proof Sys2Proof.Machine

/-- Settles O36: by the plunge air, the bays that accept and their drop air. -/
theorem choiceIsCarriedOut : Obligations.ChoiceIsCarriedOut := by
  intro s n tag q c air decided planned entries accepts dropAt ahead
  have haccepting : (allBays.filter fun k => s.accepts k c.grade c.band q.species q.profile) =
    planned.accepting q c.grade c.band := rfl
  refine ⟨fun hair => ?_, fun hair hnone => ?_, fun k b hair hk hb hdrop hahead => ?_, fun hair hsome hno => ?_, fun k => accepts_iff⟩
  · exact carryOut_of_refused hair
  · have hnil : planned.accepting q c.grade c.band = [] := List.filter_eq_nil_iff.mpr fun k _ => hnone k
    rw [carryOut_of_granted hair]
    refine congrArg (Prod.mk · entries) ((routeStrip_of_refused (s := planned) fun k hk => absurd hk (hnone k)).trans ?_)
    rw [hnil, if_pos rfl]
    rfl
  · intro band committed routed refused
    rw [carryOut_of_granted hair]
    refine congrArg (Prod.mk · entries) ((routeStrip_of_granted (s := planned) hk hdrop hahead).trans ?_)
    have hlength : ((planned.accepting q c.grade c.band).filter fun j =>
        planned.bayRemaining j < planned.bayRemaining k || (planned.bayRemaining j = planned.bayRemaining k && j < k)).length =
        refused := by
      rw [← haccepting, List.filter_filter]
      refine congrArg List.length (List.filter_congr fun j _ => Bool.and_comm ..)
    have hserial : ((planned.bay k).bundle.map (·.serial)).getD 0 = b.serial := by
      rw [show (planned.bay k).bundle = some b from hb]
      rfl
    have hbk : ∀ m, (((refusals planned m).planStarts (n + BitVec.ofNat 32 (planned.bayOffset k)) 1).bay k).bundle = some b := fun m => by
      unfold refusals
      split <;> exact hb
    rw [hlength, hserial, commitStrip_eq (hbk refused)]
    unfold refusals
    split <;> rfl
  · intro refusals'
    rw [carryOut_of_granted hair]
    refine congrArg (Prod.mk · entries) ((routeStrip_of_refused (s := planned) hno).trans ?_)
    obtain ⟨k, hk⟩ := hsome
    have hne : planned.accepting q c.grade c.band ≠ [] :=
      List.ne_nil_of_mem (List.mem_filter.mpr ⟨mem_allBays k, hk⟩)
    rw [if_neg hne, refusals, if_neg (mt List.length_eq_zero_iff.mp hne)]
    rfl

end Sys2Proof.Claims
end

section
set_option Elab.async false
/-! PROOF. Strips that lose their cut (O42). -/

namespace Sys2Proof.Machine

open Sys2Proof Claims

/-! ## One strip loses its cut (R105, R108) -/

/-- A strip that has lost its cut: UNCUT, its destination lost and its chosen option kept. -/
def Strip.uncut (r : Strip) (cause : Cause) : Strip :=
  { r with decision := r.decision.map fun d => { d with disposition := .uncut, cause := some cause, dest := none } }

theorem loseCut_of_no_drop {u : State} {tag : Nat} (h : u.plannedDrop? tag = none) (cause : Cause) (c : Counter) :
    loseCut cause c u tag = (u.updStrip tag (·.uncut cause)).bump c := by
  rw [loseCut, cancelDrop, h]
  rfl

theorem loseCut_of_drop {u : State} {tag : Nat} {k : BayId} {q : PlannedDrop} (h : u.plannedDrop? tag = some (k, q))
    (cause : Cause) (c : Counter) :
    loseCut cause c u tag = ((cancelPlanned u k q).updStrip tag (·.uncut cause)).bump c := by
  rw [loseCut, cancelDrop, h]
  rfl

theorem plannedDrop?_of_no_dest {u : State} {tag : Nat} {r : Strip} {d : Decision} (hr : u.strip? tag = some r)
    (hd : r.decision = some d) (h : d.dest = none) : u.plannedDrop? tag = none := by
  simp [State.plannedDrop?, hr, hd, h]

theorem plannedDrop?_of_dest {u : State} {tag : Nat} {r : Strip} {d : Decision} {g : Destination} {q : PlannedDrop}
    (hr : u.strip? tag = some r) (hd : r.decision = some d) (hg : d.dest = some g)
    (hq : (u.bay g.bay).planned.find? (fun e => e.tag = tag) = some q) : u.plannedDrop? tag = some (g.bay, q) := by
  simp [State.plannedDrop?, hr, hd, hg, hq]

/-- Two ticks fewer than 64 apart have places of their own in the ring. -/
theorem ringIdx_add_ne (n : Serial) {a b : Nat} (h : a < b) (hb : b < a + 64) :
    ringIdx (n + BitVec.ofNat 32 b) ≠ ringIdx (n + BitVec.ofNat 32 a) := by
  intro e
  have e := congrArg Fin.val e
  simp only [ringIdx, BitVec.toNat_add, BitVec.toNat_ofNat] at e
  omega

theorem Strip.uncut_uncut (r : Strip) (cause : Cause) : (r.uncut cause).uncut cause = r.uncut cause := by
  simp only [Strip.uncut, Option.map_map]
  rfl

theorem calEntry_freeStarts (u : State) (t q : Serial) (c : Nat) : (u.freeStarts t c).calEntry q =
    { u.calEntry q with planned := (u.calEntry q).planned - if ringIdx t = ringIdx q then c else 0 } := by
  by_cases hq : ringIdx t = ringIdx q
  · simp [State.freeStarts, State.updCal, State.calEntry, hq]
  · rw [State.freeStarts, State.calEntry_updCal_ne u (Ne.symm hq), if_neg hq]
    rfl

/-- One commitment released is the one of the chosen option. -/
theorem Bundle.released_eq_without {α : Type} {b : Bundle} {band : α → Fin 12} {d : α} {c : Choice}
    (h : band d = bandIdx c.band) : b.released band [d] = without b c := by
  rw [Bundle.released_one]
  simp only [h]
  rfl

/-! ## A cut of the emptied queue (R108) -/

/-- The cut of entry e given up at the calendar and at the other head. -/
def cutFreed (h : HeadId) (u : State) (e : PlanEntry) : State :=
  noPlunge (u.freeStarts (e.serial + BitVec.ofNat 32 u.geometry.e) 2) (HeadId.other h) e.serial

theorem cancelCut_of_one {u : State} {h : HeadId} {e : PlanEntry} {tag : Nat} (he : e.plunge = true)
    (ht : u.decidedOn e.serial = [tag]) :
    cancelCut h u e = loseCut .headFault .headFaultCancels (cutFreed h u e) tag := by
  rw [cancelCut, if_pos he, ht]
  rfl

theorem cutFreed_freed (h : HeadId) (u : State) (e : PlanEntry) :
    cutFreed h u e = { u with
      headSide := (cutFreed h u e).headSide, tailSide := (cutFreed h u e).tailSide
      calendar := (cutFreed h u e).calendar } ∧
    (cutFreed h u e).head h = u.head h ∧
    (cutFreed h u e).head (HeadId.other h) = { u.head (HeadId.other h) with
      plan := (u.head (HeadId.other h)).plan.map fun p => if p.serial = e.serial then { p with plunge := false } else p } ∧
    ∀ n, (cutFreed h u e).calEntry n = { u.calEntry n with planned := (u.calEntry n).planned -
      (if ringIdx (e.serial + BitVec.ofNat 32 u.geometry.e) = ringIdx n then 2 else 0) } := by
  have hcal : ∀ n, (cutFreed h u e).calEntry n = (u.freeStarts (e.serial + BitVec.ofNat 32 u.geometry.e) 2).calEntry n :=
    fun n => by cases h <;> rfl
  refine ⟨by cases h <;> rfl, by cases h <;> rfl, by cases h <;> rfl, fun n => ?_⟩
  rw [hcal, calEntry_freeStarts]

/-- The entries without a plunge are no cuts. -/
theorem foldl_cancelCut_filter (h : HeadId) (l : List PlanEntry) (u : State) :
    l.foldl (cancelCut h) u = (l.filter (·.plunge)).foldl (cancelCut h) u := by
  induction l generalizing u with
  | nil => rfl
  | cons e l ih =>
    cases he : e.plunge with
    | true => rw [List.filter_cons_of_pos he, List.foldl_cons, List.foldl_cons, ih]
    | false =>
      have hstep : cancelCut h u e = u := by simp [cancelCut, he]
      rw [List.filter_cons_of_neg (by simp [he]), List.foldl_cons, hstep, ih]

theorem flatMap_allBays_single {α : Type} (g : BayId) (l : List α) :
    (allBays.flatMap fun k => if k = g then l else []) = l := by
  fin_cases g <;> simp [allBays]

/-- A cut with its strip r: the one DECIDED strip of its serial, and where it is SORT its planned drop. -/
structure IsCut (u : State) (e : PlanEntry) (r : Strip) : Prop where
  plunge : e.plunge = true
  decided : u.decidedOn e.serial = [r.tag]
  strip : u.strip? r.tag = some r
  serial : r.serial = some e.serial
  drop : ∃ d, r.decision = some d ∧ ∀ g, d.dest = some g →
    ∃ q, (u.bay g.bay).planned.find? (fun y => y.tag = r.tag) = some q ∧ q.serial = e.serial

/-- The cuts whose strips were sorted to bay k. -/
def sortedTo (cuts : List (PlanEntry × Strip)) (k : BayId) : List (PlanEntry × Strip) :=
  cuts.filter fun x => (x.2.decision.bind (·.dest)).any fun g => g.bay = k

/-- t is u after the cuts are given up at a fault of head h. -/
structure CutsLost (u : State) (h : HeadId) (cuts : List (PlanEntry × Strip)) (t : State) : Prop where
  frame : t = { u with
    headSide := t.headSide, tailSide := t.tailSide, strips := t.strips, calendar := t.calendar, bays := t.bays
    counters := t.counters }
  head : t.head h = u.head h
  other : t.head (HeadId.other h) = { u.head (HeadId.other h) with
    plan := (u.head (HeadId.other h)).plan.map fun p => if p.serial ∈ cuts.map (·.1.serial) then { p with plunge := false } else p }
  strips : t.strips = u.strips.map fun x => if x.tag ∈ cuts.map (·.2.tag) then x.uncut .headFault else x
  calendar : ∀ n, t.calEntry n = { u.calEntry n with planned := (u.calEntry n).planned
    - 2 * (cuts.filter fun x => ringIdx (x.1.serial + BitVec.ofNat 32 u.geometry.e) = ringIdx n).length
    - (allBays.flatMap fun k => (sortedTo cuts k).filter fun x =>
        ringIdx (x.1.serial + BitVec.ofNat 32 (u.bayOffset k)) = ringIdx n).length }
  bays : ∀ k, t.bay k = { u.bay k with
    planned := (u.bay k).planned.filter fun q => q.tag ∉ (sortedTo cuts k).map (·.2.tag)
    bundle := (u.bay k).bundle.map fun b => b.released (fun x => bandIdx x.2.band) (sortedTo cuts k) }
  counts : ∀ c, c ≠ .headFaultCancels → t.count c = u.count c
  cancels : t.count .headFaultCancels = if cuts = [] then u.count .headFaultCancels
    else min 65535 (u.count .headFaultCancels + cuts.length)

namespace CutsLost

variable {u t v : State} {h : HeadId} {l1 l2 : List (PlanEntry × Strip)}

theorem append (h1 : CutsLost u h l1 t) (h2 : CutsLost t h l2 v) : CutsLost u h (l1 ++ l2) v where
  frame := by rw [h2.frame, h1.frame]
  head := h2.head.trans h1.head
  other := by
    rw [h2.other, h1.other]
    refine congrArg (fun p => { u.head (HeadId.other h) with plan := p }) ?_
    rw [List.map_map]
    refine List.map_congr_left fun p _ => ?_
    by_cases hp1 : p.serial ∈ l1.map (·.1.serial) <;> by_cases hp2 : p.serial ∈ l2.map (·.1.serial) <;>
      simp only [Function.comp, hp1, hp2, if_true, if_false, List.map_append, List.mem_append, or_true, true_or, or_self]
  strips := by
    rw [h2.strips, h1.strips, List.map_map]
    refine List.map_congr_left fun r _ => ?_
    have htag : (r.uncut .headFault).tag = r.tag := rfl
    by_cases h1 : r.tag ∈ l1.map (·.2.tag) <;> by_cases h2 : r.tag ∈ l2.map (·.2.tag) <;>
      simp only [Function.comp, h1, h2, if_true, if_false, htag, List.map_append, List.mem_append, or_true, true_or, or_self,
        Strip.uncut_uncut]
  calendar n := by
    have hgeo : t.geometry = u.geometry := (congrArg State.geometry h1.frame :)
    have hsum : ∀ P : BayId → PlanEntry × Strip → Bool,
        (allBays.flatMap fun k => (sortedTo (l1 ++ l2) k).filter (P k)).length =
          (allBays.flatMap fun k => (sortedTo l1 k).filter (P k)).length +
            (allBays.flatMap fun k => (sortedTo l2 k).filter (P k)).length := fun P => by
      simp only [List.length_flatMap, sortedTo, List.filter_append, List.length_append, List.sum_map_add]
    have hoffset : t.bayOffset = u.bayOffset := funext fun k => (congrArg (fun x : State => x.bayOffset k) h1.frame :)
    have hcal := h2.calendar n
    rw [hgeo, hoffset, h1.calendar] at hcal
    rw [hcal, hsum, List.filter_append, List.length_append]
    dsimp only
    congr 1
    omega
  bays k := by
    have hsorted : sortedTo (l1 ++ l2) k = sortedTo l1 k ++ sortedTo l2 k := List.filter_append ..
    have hfilter : ((u.bay k).planned.filter fun e => e.tag ∉ (sortedTo l1 k).map (·.2.tag)).filter
        (fun e => e.tag ∉ (sortedTo l2 k).map (·.2.tag)) =
        (u.bay k).planned.filter fun e => e.tag ∉ (sortedTo (l1 ++ l2) k).map (·.2.tag) := by
      rw [List.filter_filter]
      refine List.filter_congr fun e _ => ?_
      rw [hsorted, List.map_append, ← Bool.decide_and, decide_eq_decide, List.mem_append]
      tauto
    have hmap : ((u.bay k).bundle.map fun b => b.released (fun x => bandIdx x.2.band) (sortedTo l1 k)).map
        (fun b => b.released (fun x => bandIdx x.2.band) (sortedTo l2 k)) =
        (u.bay k).bundle.map fun b => b.released (fun x => bandIdx x.2.band) (sortedTo (l1 ++ l2) k) := by
      rw [Option.map_map, hsorted]
      exact congrArg (Option.map · _) (funext fun b => b.released_append _ _ _)
    rw [h2.bays, h1.bays, ← hfilter, ← hmap]
  counts c hc := (h2.counts c hc).trans (h1.counts c hc)
  cancels := by
    rw [h2.cancels, h1.cancels, List.length_append]
    by_cases hl1 : l1 = [] <;> by_cases hl2 : l2 = [] <;> simp only [hl1, hl2,
      List.append_eq_nil_iff, if_true, if_false, and_true, and_false, List.length_nil] <;> omega

theorem one {e : PlanEntry} {r : Strip} (hcut : IsCut u e r) : CutsLost u h [(e, r)] (cancelCut h u e) := by
  obtain ⟨hplunge, hdecided, hstrip, hserial, d, hd, hdrop⟩ := hcut
  rw [cancelCut_of_one hplunge hdecided]
  obtain ⟨hframe, hhead, hother, hcal⟩ := cutFreed_freed h u e
  generalize cutFreed h u e = w at *
  have hcalendar : ∀ n, w.calEntry n = { u.calEntry n with planned := (u.calEntry n).planned -
      2 * ([(e, r)].filter fun x => ringIdx (x.1.serial + BitVec.ofNat 32 u.geometry.e) = ringIdx n).length } := fun n => by
    rw [hcal]
    by_cases hn : ringIdx (e.serial + BitVec.ofNat 32 u.geometry.e) = ringIdx n <;> simp [hn]
  have hothers : w.head (HeadId.other h) = { u.head (HeadId.other h) with
      plan := (u.head (HeadId.other h)).plan.map fun p =>
        if p.serial ∈ [(e, r)].map (·.1.serial) then { p with plunge := false } else p } := by
    simp only [hother, List.map_cons, List.map_nil, List.mem_singleton]
  have hstrip' : w.strip? r.tag = some r := by rw [hframe]; exact hstrip
  have hbay' : ∀ k, w.bay k = u.bay k := fun k => by rw [hframe]; rfl
  have hcount : ∀ c, w.count c = u.count c := fun c => by rw [hframe]; rfl
  have hoffset : ∀ k, w.bayOffset k = u.bayOffset k := fun k => by rw [hframe]; rfl
  have hmaps : w.strips.map (fun x => if x.tag = r.tag then x.uncut .headFault else x) =
      u.strips.map fun x => if x.tag ∈ [(e, r)].map (·.2.tag) then x.uncut .headFault else x := by
    rw [hframe]
    simp only [List.map_cons, List.map_nil, List.mem_singleton]
  have hnone : ∀ b : Bundle, b.released (fun x : PlanEntry × Strip => bandIdx x.2.band) [] = b := fun b => b.released_nil _
  cases hg : d.dest with
  | none =>
    rw [loseCut_of_no_drop (plannedDrop?_of_no_dest hstrip' hd hg)]
    have hsorted : ∀ k, sortedTo [(e, r)] k = [] := fun k => by simp [sortedTo, hd, hg]
    exact {
      frame := by rw [hframe]; rfl
      head := hhead
      other := hothers
      strips := hmaps
      calendar := fun n => (hcalendar n).trans (by simp [hsorted])
      bays := fun k => (hbay' k).trans (by simp [hsorted, hnone])
      counts := fun c hc => (State.count_bump_ne _ hc).trans (hcount c)
      cancels := by
        rw [if_neg (List.cons_ne_nil _ _), State.count_bump_self]
        exact congrArg (fun n => min 65535 (n + 1)) (hcount _) }
  | some g =>
    obtain ⟨q, hq, hqs⟩ := hdrop g hg
    have hqtag : q.tag = r.tag := by simpa using List.find?_some hq
    rw [loseCut_of_drop (plannedDrop?_of_dest hstrip' hd hg ((hbay' g.bay).symm ▸ hq)), cancelPlanned_eq]
    have hsorted : ∀ k, sortedTo [(e, r)] k = if k = g.bay then [(e, r)] else [] := fun k => by
      by_cases hk : k = g.bay
      · simp [sortedTo, hd, hg, hk]
      · simp [sortedTo, hd, hg, hk, Ne.symm hk]
    have hband : w.dropBand q = bandIdx r.band := by
      rw [State.dropBand, hqtag, hstrip']
      rfl
    rw [hoffset, hqs, hqtag, hbay']
    generalize hw' : w.freeStarts (e.serial + BitVec.ofNat 32 (u.bayOffset g.bay)) 1 = w'
    have hframe' : w' = { w with calendar := w'.calendar } := by rw [← hw']; rfl
    have hcal' : ∀ n, w'.calEntry n = { w.calEntry n with planned := (w.calEntry n).planned -
        (allBays.flatMap fun k => (sortedTo [(e, r)] k).filter fun x =>
          ringIdx (x.1.serial + BitVec.ofNat 32 (u.bayOffset k)) = ringIdx n).length } := fun n => by
      have hone : (allBays.flatMap fun k => (sortedTo [(e, r)] k).filter fun x =>
          ringIdx (x.1.serial + BitVec.ofNat 32 (u.bayOffset k)) = ringIdx n).length =
          if ringIdx (e.serial + BitVec.ofNat 32 (u.bayOffset g.bay)) = ringIdx n then 1 else 0 := by
        have hfun : (fun k => (sortedTo [(e, r)] k).filter fun x =>
            ringIdx (x.1.serial + BitVec.ofNat 32 (u.bayOffset k)) = ringIdx n) = fun k => if k = g.bay then
              [(e, r)].filter fun x => ringIdx (x.1.serial + BitVec.ofNat 32 (u.bayOffset g.bay)) = ringIdx n else [] := by
          funext k
          rw [hsorted]
          by_cases hk : k = g.bay
          · rw [if_pos hk, if_pos hk, hk]
          · rw [if_neg hk, if_neg hk, List.filter_nil]
        rw [hfun, flatMap_allBays_single]
        by_cases hn : ringIdx (e.serial + BitVec.ofNat 32 (u.bayOffset g.bay)) = ringIdx n <;> simp [hn]
      rw [← hw', calEntry_freeStarts, hone]
    exact {
      frame := by rw [hframe', hframe]; rfl
      head := by rw [hframe']; exact hhead
      other := by rw [hframe']; exact hothers
      strips := by rw [hframe']; exact hmaps
      calendar := fun n => by
        refine (hcal' n).trans ?_
        rw [hcalendar]
      bays := fun k => by
        by_cases hk : k = g.bay
        · subst hk
          refine (bay_withBay _ _ _).trans ?_
          simp only [hsorted, if_true, Bundle.released_one, hband]
          simp
        · refine (bay_withBay_ne _ hk _).trans ?_
          rw [hsorted, if_neg hk, hframe']
          refine (hbay' k).trans ?_
          simp [hnone]
      counts := fun c hc => (State.count_bump_ne _ hc).trans (by rw [hframe']; exact hcount c)
      cancels := by
        rw [if_neg (List.cons_ne_nil _ _), State.count_bump_self, hframe']
        exact congrArg (fun n => min 65535 (n + 1)) (hcount _) }

/-- Another cut stays a cut. -/
theorem isCut {x y : PlanEntry × Strip} (hx : IsCut u x.1 x.2) (hy : IsCut u y.1 y.2) (hne : y.1.serial ≠ x.1.serial)
    (h1 : CutsLost u h [x] t) : IsCut t y.1 y.2 := by
  have htag : y.2.tag ≠ x.2.tag := fun e => by
    have hstrip := hy.strip
    rw [e, hx.strip] at hstrip
    exact hne (Option.some.inj ((hy.serial.symm.trans (congrArg Strip.serial (Option.some.inj hstrip).symm)).trans hx.serial))
  have hstrips := h1.strips
  generalize hf : (fun r : Strip => if r.tag ∈ [x].map (·.2.tag) then r.uncut .headFault else r) = f at hstrips
  have hkept : ∀ r, (f r).tag = r.tag ∧ (f r).state = r.state ∧ (f r).serial = r.serial := fun r => by
    rw [← hf]
    dsimp only
    split <;> exact ⟨rfl, rfl, rfl⟩
  refine ⟨hy.plunge, ?_, ?_, hy.serial, ?_⟩
  · rw [← hy.decided, State.decidedOn, State.decidedOn, hstrips, List.filter_map, List.map_map]
    have hfilter : (fun r : Strip => decide (r.state = .decided) && decide (r.serial = some y.1.serial)) ∘ f =
        fun r => decide (r.state = .decided) && decide (r.serial = some y.1.serial) := funext fun r => by
      simp only [Function.comp, (hkept r).2.1, (hkept r).2.2]
    rw [hfilter]
    exact List.map_congr_left fun r _ => (hkept r).1
  · have hfind : (fun r : Strip => r.tag == y.2.tag) ∘ f = fun r => r.tag == y.2.tag := funext fun r => by
      simp only [Function.comp, (hkept r).1]
    have hstrip : u.strips.find? (fun r => r.tag == y.2.tag) = some y.2 := hy.strip
    rw [State.strip?, hstrips, List.find?_map, hfind, hstrip, Option.map_some, ← hf]
    simp [htag]
  · obtain ⟨d, hd, hdrop⟩ := hy.drop
    refine ⟨d, hd, fun g hg => ?_⟩
    obtain ⟨q, hq, hqs⟩ := hdrop g hg
    refine ⟨q, ?_, hqs⟩
    have hsub : ∀ a ∈ (sortedTo [x] g.bay).map (·.2.tag), a = x.2.tag := fun a ha => by
      obtain ⟨z, hz, rfl⟩ := List.mem_map.mp ha
      rw [List.mem_singleton.mp (List.mem_filter.mp hz).1]
    rw [h1.bays, List.find?_filter, ← hq]
    refine congrArg (List.find? · _) (funext fun a => ?_)
    by_cases ha : a.tag = y.2.tag
    · have hnot : a.tag ∉ (sortedTo [x] g.bay).map (·.2.tag) := fun hm => htag (ha.symm.trans (hsub _ hm))
      rw [decide_eq_true hnot]
      simp
    · simp [ha]

/-- The cuts given up in turn. -/
theorem foldl_cancelCut (h : HeadId) (cuts : List (PlanEntry × Strip)) : ∀ u : State, (cuts.map (·.1.serial)).Nodup →
    (∀ x ∈ cuts, IsCut u x.1 x.2) → CutsLost u h cuts ((cuts.map (·.1)).foldl (cancelCut h) u) := by
  induction cuts with
  | nil =>
    intro u _ _
    exact {
      frame := rfl, head := rfl, strips := by simp, counts := fun _ _ => rfl, cancels := rfl
      other := by simp
      calendar := fun n => by simp [sortedTo]
      bays := fun k => by
        have hnone : ∀ b : Bundle, b.released (fun x : PlanEntry × Strip => bandIdx x.2.band) [] = b := fun b => b.released_nil _
        simp [sortedTo, hnone] }
  | cons x cuts ih =>
    intro u hnodup hcuts
    obtain ⟨hx, hnodup⟩ := List.nodup_cons.mp hnodup
    have hone : CutsLost u h [x] (cancelCut h u x.1) := one (hcuts x List.mem_cons_self)
    refine hone.append (ih (cancelCut h u x.1) hnodup fun y hy => ?_)
    refine isCut (hcuts x List.mem_cons_self) (hcuts y (List.mem_cons_of_mem _ hy)) (fun e => hx ?_) hone
    exact List.mem_map.mpr ⟨y, hy, e⟩

end CutsLost

/-! ## The fault (R107, R108) -/

theorem other_of_ne {h other : HeadId} (hne : other ≠ h) : other = HeadId.other h := by
  cases h <;> cases other <;> simp [HeadId.other] at hne ⊢

theorem faultHead_eq {s : State} {h : HeadId} (hs : (s.head h).state ≠ .fault) : faultHead h s =
    let v := ((s.head h).plan.filter (·.plunge)).foldl (cancelCut h) (headFaulted s h)
    testBays true (lostDrops (headFaulted s h) v) v := by
  unfold faultHead
  split
  next hf => exact absurd hf hs
  · dsimp only
    rw [foldl_cancelCut_filter]
    rfl

/-- A bay that is not FILLING, has no bundle, or keeps a commitment stays. -/
theorem completionTest_of_kept {s : State} {k : BayId} (h : ∀ b, (s.bay k).bundle = some b → 0 < b.committed) (test : Bool) :
    completionTest s k test = s := by
  by_cases hf : (s.bay k).state = .filling
  · cases hb : (s.bay k).bundle with
    | none => simp [completionTest, hf, hb]
    | some b => exact completionTest_of_committed hf hb test (h b hb)
  · exact completionTest_of_not_filling s hf test

theorem testBays_of_kept {s : State} {l : List BayId} (h : ∀ k ∈ l, ∀ b, (s.bay k).bundle = some b → 0 < b.committed)
    (test : Bool) : testBays test l s = s := by
  induction l with
  | nil => rfl
  | cons k l ih =>
    rw [testBays, List.foldl_cons, completionTest_of_kept (h k List.mem_cons_self)]
    exact ih fun j hj => h j (List.mem_cons_of_mem _ hj)

theorem lostDrops_one {s t : State} {k : BayId} (hk : (t.bay k).planned.length < (s.bay k).planned.length)
    (h : ∀ j, j ≠ k → (t.bay j).planned = (s.bay j).planned) : lostDrops s t = [k] := by
  have hsingle : ∀ k : BayId, allBays.filter (fun j => decide (j = k)) = [k] := by decide
  rw [← hsingle k]
  refine List.filter_congr fun j _ => ?_
  by_cases hj : j = k
  · simp [hj, hk]
  · simp [hj, h j hj]

end Sys2Proof.Machine

namespace Sys2Proof.Claims

open Sys2Proof Sys2Proof.Machine

/-- Settles O42: without a cut in the queue, with one, and with several whose bays keep a commitment. -/
theorem positionerFaultCancelsCuts : Obligations.PositionerFaultCancelsCuts := by
  intro s h other hpin hother level count stopped fault spared uncut cutOf air dropAt
  have hotherEq : other = HeadId.other h := other_of_ne hother
  have hlevel : ∀ v, { s with inputs := s.inputs.setHeadFault h v, pulses := [], homed := [] } = level v := fun v => by
    cases h <;> rfl
  have hedge : ∀ v, exec (.positionerFault h v) s = .next (if v then faultHead h (level v) else level v) := fun v => by
    rw [← hlevel v]
    exact takeEdge_run s (Inputs.setHeadFault h v) (fun s => if v then faultHead h s else s) hpin
  have hhead : (level true).head h = s.head h := by cases h <;> rfl
  have hfaulted : headFaulted (level true) h = fault := by cases h <;> rfl
  have hexec : (s.head h).state ≠ .fault → exec (.positionerFault h true) s = .next
      (testBays true (lostDrops fault (((s.head h).plan.filter (·.plunge)).foldl (cancelCut h) fault))
        (((s.head h).plan.filter (·.plunge)).foldl (cancelCut h) fault)) := fun hs => by
    refine (hedge true).trans (congrArg _ ((if_pos rfl).trans ((faultHead_eq (by rwa [hhead])).trans ?_)))
    rw [hhead, hfaulted]
  have hisCut : ∀ {e : PlanEntry} {r : Strip} {d : Decision}, e.plunge = true → cutOf e r → r.decision = some d →
      (∀ g, d.dest = some g → ∃ q, (s.bay g.bay).planned.find? (fun y => y.tag = r.tag) = some q ∧ q.serial = e.serial) →
      IsCut fault e r := fun {e r d} he hcut hd hdrop => by
    obtain ⟨hone, hstrip⟩ := hcut
    have hmem : r ∈ s.strips.filter fun x => x.state = .decided && x.serial = some e.serial := by
      rw [hone]
      exact List.mem_singleton_self r
    have hserial : r.serial = some e.serial := by
      have hboth := (List.mem_filter.mp hmem).2
      simp only [Bool.and_eq_true, decide_eq_true_eq] at hboth
      exact hboth.2
    have hdecided : s.decidedOn e.serial = [r.tag] := by
      rw [State.decidedOn, hone]
      rfl
    rw [← hfaulted]
    cases h <;> exact ⟨he, hdecided, hstrip, hserial, d, hd, hdrop⟩
  refine ⟨hedge false, fun hs => ?_, fun hs hnone => ?_, fun e r d hs hplan hcut hd => ?_, fun cuts hs hne hplan hnodup hcuts => ?_⟩
  · refine (hedge true).trans (congrArg _ ((if_pos rfl).trans ?_))
    rw [faultHead, hhead, hs]
  · rw [hexec hs, List.filter_eq_nil_iff.mpr fun e he => by rw [hnone e he]; decide]
    exact congrArg _ (by rw [List.foldl_nil, lostDrops_self]; rfl)
  · intro freed t
    have hplunge : e.plunge = true :=
      (List.mem_filter.mp (hplan ▸ List.mem_singleton_self e : e ∈ (s.head h).plan.filter (·.plunge))).2
    have hrun := hexec hs
    rw [hplan, List.foldl_cons, List.foldl_nil] at hrun
    have hfaultBay : ∀ k, fault.bay k = s.bay k := fun k => by rw [← hfaulted]; cases h <;> rfl
    have hfreed : ((cutFreed h fault e).updStrip r.tag (·.uncut .headFault)).bump .headFaultCancels = t := by
      have hspared : (fun p : PlanEntry => if p.serial ∈ [e.serial] then { p with plunge := false } else p) =
          fun p => if p.serial = e.serial then { p with plunge := false } else p := by simp only [List.mem_singleton]
      have huncut : uncut [r.tag] = s.strips.map fun x => if x.tag = r.tag then x.uncut .headFault else x := by
        simp only [uncut, List.mem_singleton]
        rfl
      simp only [t, spared, hspared, huncut, hotherEq, ← hfaulted]
      cases h <;> rfl
    refine ⟨fun hdest => ?_, fun k b c q hgeo hc hdest hb hq hqs => ?_⟩
    · have hiscut : IsCut fault e r := hisCut hplunge hcut hd fun g hg => by rw [hdest] at hg; cases hg
      have hstrip : (cutFreed h fault e).strip? r.tag = some r := by
        rw [(cutFreed_freed h fault e).1]
        exact hiscut.strip
      have hcancel : cancelCut h fault e = t := by
        rw [cancelCut_of_one hplunge hiscut.decided, loseCut_of_no_drop (plannedDrop?_of_no_dest hstrip hd hdest), hfreed]
      rw [hrun, hcancel]
      have hsame : lostDrops fault t = [] := by
        refine List.filter_eq_nil_iff.mpr fun j _ => ?_
        have hbay : t.bay j = fault.bay j := by
          rw [← hfreed]
          exact (congrArg (fun x : State => x.bay j) (cutFreed_freed h fault e).1 :)
        rw [hbay]
        simp
      rw [hsame]
      rfl
    · have hiscut : IsCut fault e r := hisCut hplunge hcut hd fun g hg => by
        obtain rfl := Option.some.inj (hdest.symm.trans hg)
        exact ⟨q, hq, hqs⟩
      have hlost : CutsLost fault h [(e, r)] (cancelCut h fault e) := CutsLost.one hiscut
      have hqtag : q.tag = r.tag := by simpa using List.find?_some hq
      have hsorted : ∀ j, sortedTo [(e, r)] j = if j = k then [(e, r)] else [] := fun j => by
        by_cases hj : j = k
        · simp [sortedTo, hd, hdest, hj]
        · simp [sortedTo, hd, hdest, hj, Ne.symm hj]
      have hlostBays : lostDrops fault (cancelCut h fault e) = [k] := by
        refine lostDrops_one ?_ fun j hj => ?_
        · rw [hlost.bays, hsorted, if_pos rfl, hfaultBay]
          refine List.length_filter_lt_length_iff_exists.mpr ⟨q, List.mem_of_find?_eq_some hq, ?_⟩
          simp [hqtag]
        · rw [hlost.bays, hsorted, if_neg hj]
          simp
      rw [hlostBays] at hrun
      refine ⟨_, hrun, ?_⟩
      obtain ⟨hframe, -, -, hcal⟩ := cutFreed_freed h fault e
      have hstrip : (cutFreed h fault e).strip? r.tag = some r := by
        rw [hframe]
        exact hiscut.strip
      have hbayk : (cutFreed h fault e).bay k = s.bay k := by
        rw [hframe]
        exact hfaultBay k
      have hband : (cutFreed h fault e).dropBand q = bandIdx c.band := by
        rw [State.dropBand, hqtag, hstrip]
        simp [Strip.band, hd, hc]
      have hdropAt : q.serial + BitVec.ofNat 32 ((cutFreed h fault e).bayOffset k) = dropAt e k := by
        rw [hframe, ← hfaulted, hqs]
        cases h <;> rfl
      have hgeoF : fault.geometry = s.geometry := by rw [← hfaulted]; cases h <;> rfl
      have hcalF : fault.calendar = s.calendar := by rw [← hfaulted]; cases h <;> rfl
      have hstart : (cutFreed h fault e).calEntry (dropAt e k) = s.calEntry (dropAt e k) := by
        obtain ⟨hek, -, hkd⟩ := hgeo.bays k
        obtain ⟨-, -, hde, -⟩ := hgeo.chain
        have hne := ringIdx_add_ne e.serial (a := s.geometry.e) (b := s.geometry.bays[k]) hek (by omega)
        rw [hcal, hgeoF, if_neg (show ¬ _ = ringIdx (dropAt e k) from Ne.symm hne), State.calEntry, hcalF]
        rfl
      let lessStart : CalendarEntry := { s.calEntry (dropAt e k) with planned := (s.calEntry (dropAt e k)).planned - 1 }
      let target : State := { t with calendar := freed.set (ringIdx (dropAt e k)) lessStart }
      have hfree : (((cutFreed h fault e).freeStarts (dropAt e k) 1).updStrip r.tag (·.uncut .headFault)).bump
          .headFaultCancels = target := by
        have hfreedCal : (cutFreed h fault e).calendar = freed := (congrArg State.calendar hfreed :)
        simp only [target, lessStart]
        rw [← hfreed, ← hfreedCal, ← hstart]
        rfl
      have hcancel : cancelCut h fault e = withBay target k { s.bay k with
          planned := (s.bay k).planned.filter fun x => x.tag ≠ r.tag, bundle := some (without b c) } := by
        rw [cancelCut_of_one hplunge hiscut.decided,
          loseCut_of_drop (plannedDrop?_of_dest hstrip hd hdest (by rw [hbayk]; exact hq)), cancelPlanned_eq, hdropAt, hbayk,
          hqtag, hb, Option.map_some, Bundle.released_eq_without hband, ← hfree]
        rfl
      rw [hcancel]
      exact completionTest_afterTest _ k { s.bay k with planned := (s.bay k).planned.filter fun x => x.tag ≠ r.tag } (without b c)
  · intro sorted hkept
    have hcut : ∀ x ∈ cuts, IsCut fault x.1 x.2 := fun x hx => by
      obtain ⟨hcut, d, hd, hdrop⟩ := hcuts x hx
      have hplunge : x.1.plunge = true :=
        (List.mem_filter.mp (hplan ▸ List.mem_map_of_mem hx : x.1 ∈ (s.head h).plan.filter (·.plunge))).2
      exact hisCut hplunge hcut hd fun g hg => (hdrop g hg).2
    have hlost := CutsLost.foldl_cancelCut h cuts fault hnodup hcut
    have hrun := hexec hs
    rw [hplan] at hrun
    generalize ((cuts.map (·.1)).foldl (cancelCut h) fault) = v at hlost hrun
    obtain ⟨hframe, hhead', hother', hstrips, hcal, hbays, hcounts, hcancels⟩ := hlost
    have hfaultBay : ∀ k, fault.bay k = s.bay k := fun k => by rw [← hfaulted]; cases h <;> rfl
    have hlink : v.link = fault.link := (congrArg State.link hframe :)
    have hcancelCount : fault.count .headFaultCancels = s.count .headFaultCancels := by
      rw [← hfaulted]
      cases h <;> exact State.count_bump_ne _ (by decide)
    rw [testBays_of_kept fun k hk b hb => ?_] at hrun
    · refine ⟨v, hrun, ?_, ?_, ?_, fun n => ?_, fun k => ?_, ?_, ?_, ?_, ?_⟩
      · rw [hhead', ← hfaulted]
        cases h <;> rfl
      · have hspared : fault.head other = s.head other := by
          rw [← hfaulted, hotherEq]
          cases h <;> rfl
        rw [hotherEq, hother', ← hotherEq, hspared]
      · rw [hstrips, ← hfaulted]
        cases h <;> rfl
      · refine (hcal n).trans ?_
        rw [← hfaulted]
        cases h <;> rfl
      · rw [hbays, hfaultBay]
        rfl
      · rw [State.isPending, hlink]
        exact (State.isPending_raise ..).trans (by simp)
      · have hne : count ≠ .headFaultCancels := by cases h <;> decide
        have hcount : (((level true).setHead h stopped).raise .headFault).count count = s.count count := by cases h <;> rfl
        rw [hcounts _ hne, State.count_bump_self, hcount]
        rfl
      · rw [hcancels, if_neg hne, hcancelCount]
      · refine hframe.trans ?_
        rw [hlink, ← hfaulted]
        cases h <;> rfl
    · obtain ⟨-, hless⟩ := List.mem_filter.mp hk
      rw [hbays, hfaultBay] at hb
      obtain ⟨b0, hb0, rfl⟩ := Option.map_eq_some_iff.mp hb
      rcases hkept k b0 hb0 with hnil | hlt
      · have hnil : sortedTo cuts k = [] := hnil
        simp [hbays, hfaultBay, hnil] at hless
      · exact Nat.sub_pos_of_lt hlt

end Sys2Proof.Claims
end

section
set_option Elab.async false
/-! PROOF. The purge of a strip on a lug (O21). -/

namespace Sys2Proof.Machine

open Sys2Proof Claims

/-- The record of a strip on lug n is gone, counted PURGED, and the lug has this slot. -/
def purgedFrom (u : State) (tag : Nat) (n : Serial) (slot : LugSlot) : State :=
  { u with
    strips := u.strips.filter fun q => q.tag ≠ tag
    lineal := { u.lineal with queue := u.lineal.queue.filter (· ≠ tag) }
    chain := { u.chain with slots := u.chain.slots.set (ringIdx n) slot }
    counters := u.counters.set Counter.purged.idx (min 65535 (u.count .purged + 1)) }

theorem retirePurged_eq {u : State} {tag : Nat} {r : Strip} {n : Serial} (hr : u.strip? tag = some r)
    (hn : r.serial = some n) (hm : u.moulder.state ≠ .draining) : retirePurged u tag =
      purgedFrom u tag n { u.slot n with named := (u.slot n).named.filter (· ≠ tag) } := by
  rw [retirePurged, State.retire, remove_of_loaded hr hn]
  exact drainTest_of_not_draining hm

theorem slot_purgedFrom (u : State) (tag : Nat) (n : Serial) (slot : LugSlot) : (purgedFrom u tag n slot).slot n = slot := by
  simp [State.slot, purgedFrom]

/-- The slot of a purged strip that rides its lug (R16). -/
theorem purgeSlot_of_riding {u : State} {r : Strip} {tag : Nat} {n : Serial} {slot : LugSlot} (h : r.dropPending = false) :
    purgeSlot (purgedFrom u tag n slot) r n =
      purgedFrom u tag n { kind := if slot.named = [] then .unknown else slot.kind, named := slot.named } := by
  have hno : ¬ r.dropPending = true := by
    rw [h]
    decide
  rw [purgeSlot, if_neg hno, slot_purgedFrom]
  split
  · unfold State.setKind
    rw [slot_purgedFrom]
    exact congrArg (fun v => { purgedFrom u tag n slot with chain := { u.chain with slots := v } }) (Vector.set_set ..)
  · rfl

/-- A purge on the chain, by what it does at the heads and at the bay. -/
theorem purgeChain_eq {u x : State} {r : Strip} {tag : Nat} {n : Serial} {bay : Option BayId} (hr : u.strip? tag = some r)
    (hn : r.serial = some n) (hm : u.moulder.state ≠ .draining) (hx : purgeCommitment (purgePlans u r n) r = (x, bay))
    (hsame : x = { u with headSide := x.headSide, tailSide := x.tailSide, calendar := x.calendar, bays := x.bays }) :
    purge u r = testAfterCancel (purgedFrom x tag n
      (if r.dropPending then { u.slot n with named := (u.slot n).named.filter (· ≠ tag) }
      else {
        kind := if (u.slot n).named.filter (· ≠ tag) = [] then .unknown else (u.slot n).kind
        named := (u.slot n).named.filter (· ≠ tag) })) bay := by
  have htag := strip?_tag hr
  have hrx : x.strip? tag = some r := by
    rw [hsame]
    exact hr
  have hslot : x.slot n = u.slot n := by
    rw [hsame]
    rfl
  have hretired : retirePurged x r.tag = purgedFrom x tag n { u.slot n with named := (u.slot n).named.filter (· ≠ tag) } := by
    rw [htag, retirePurged_eq hrx hn (by rw [hsame]; exact hm), hslot]
  unfold purge
  rw [hn]
  dsimp only
  rw [purgeChain, hx]
  dsimp only
  rw [hretired]
  cases hd : r.dropPending with
  | true => rw [purgeSlot, if_pos hd, if_pos rfl]
  | false =>
    rw [purgeSlot_of_riding hd]
    rfl

/-! ## The plans and the plunge starts (R16) -/

/-- The entries for serial n without their plunge. -/
def movesAlone (n : Serial) (r : Head) : Head :=
  { r with plan := r.plan.map fun e => if e.serial = n then { e with plunge := false } else e }

theorem purgePlans_of_not_decided {u : State} {r : Strip} {n : Serial} (h : r.state ≠ .decided) : purgePlans u r n = u := by
  simp [purgePlans, Strip.cutPlanned, h]

theorem purgePlans_of_cut {u : State} {r : Strip} {d : Decision} {n : Serial} (h : r.state = .decided) (hd : r.decision = some d)
    (hcut : d.disposition = .sort ∨ d.disposition = .overflow) : purgePlans u r n =
      { u with headSide := movesAlone n u.headSide, tailSide := movesAlone n u.tailSide }.freeStarts
        (n + BitVec.ofNat 32 u.geometry.e) 2 := by
  have hplanned : r.cutPlanned = true := by
    rcases hcut with hcut | hcut <;> simp [Strip.cutPlanned, h, hd, hcut]
  rw [purgePlans, if_pos h, if_pos hplanned]
  rfl

theorem purgePlans_of_no_cut {u : State} {r : Strip} {d : Decision} {n : Serial} (h : r.state = .decided)
    (hd : r.decision = some d) (hsort : d.disposition ≠ .sort) (hover : d.disposition ≠ .overflow) : purgePlans u r n =
      { u with headSide := movesAlone n u.headSide, tailSide := movesAlone n u.tailSide } := by
  have hplanned : ¬ r.cutPlanned = true := by simp [Strip.cutPlanned, h, hd, hsort, hover]
  rw [purgePlans, if_pos h, if_neg hplanned]
  rfl

/-! ## The commitment (R17) -/

theorem purgeCommitment_of_no_drop {u : State} {r : Strip} (h : r.dropPending = false) (hp : u.plannedDrop? r.tag = none) :
    purgeCommitment u r = (u, none) := by
  simp [purgeCommitment, h, cancelDrop, hp]

theorem purgeCommitment_of_planned {u : State} {r : Strip} {k : BayId} {q : PlannedDrop} (h : r.dropPending = false)
    (hp : u.plannedDrop? r.tag = some (k, q)) : purgeCommitment u r = (cancelPlanned u k q, some k) := by
  simp [purgeCommitment, h, cancelDrop, hp]

theorem droppingBay_eq {u : State} {tag : Nat} {k : BayId} {d : PendingDrop} (hd : (u.bay k).pendingDrop = some d)
    (ht : d.tag = tag) (h : ∀ j, j ≠ k → ∀ e, (u.bay j).pendingDrop = some e → e.tag ≠ tag) : u.droppingBay tag = some k := by
  have honly : ∀ j, decide (((u.bay j).pendingDrop.map (·.tag)) = some tag) = decide (j = k) := fun j => by
    by_cases hj : j = k
    · simp [hj, hd, ht]
    · cases he : (u.bay j).pendingDrop with
      | none => simp [hj]
      | some e => simp [hj, h j hj e he]
  have hfirst : ∀ k : BayId, allBays.find? (fun j => decide (j = k)) = some k := by decide
  rw [State.droppingBay, ← hfirst k]
  exact congrArg (List.find? · allBays) (funext honly)

theorem purgeCommitment_of_detached {u : State} {r : Strip} {k : BayId} {d : PendingDrop} (h : r.dropPending = true)
    (hk : u.droppingBay r.tag = some k) (hd : (u.bay k).pendingDrop = some d) (ha : d.attached = false) :
    purgeCommitment u r = (withBay u k { u.bay k with pendingDrop := none }, none) := by
  simp [purgeCommitment, h, hk, cancelPending, hd, ha, updBay_eq_withBay]

theorem purgeCommitment_of_attached {u : State} {r : Strip} {k : BayId} {d : PendingDrop} {b : Bundle}
    (h : r.dropPending = true) (hk : u.droppingBay r.tag = some k) (hd : (u.bay k).pendingDrop = some d)
    (ha : d.attached = true) (hb : (u.bay k).bundle = some b) : purgeCommitment u r =
      (withBay u k { u.bay k with
        pendingDrop := none, bundle := some (b.released (fun r : Strip => bandIdx r.band) [r]) }, some k) := by
  rw [purgeCommitment, if_pos h, hk]
  simp only [cancelPending, hd, Option.map_some, ha, if_true]
  rw [releaseCommitment, State.updBundle, updBay_eq_withBay u, updBay_withBay, Bundle.released_one]
  simp only [hb, Option.map_some]

end Sys2Proof.Machine

namespace Sys2Proof.Claims

open Sys2Proof Sys2Proof.Machine

/-- Settles O21: by what the purged strip still holds of the heads, the calendar and a bay. -/
theorem purgeStripOnChain : Obligations.PurgeStripOnChain := by
  intro s tag r n hr htag hle hstrip hn hm left purged onLug plunge dropAt fewer moves decided uncut
  have hstrip' : (found s).strip? tag = some r := (found_strip? s tag).trans hstrip
  have hm' : (found s).moulder.state ≠ .draining := by rwa [found_moulder]
  have hrtag := strip?_tag hstrip
  have hexec : ∀ t, purge (found s) r = t → exec (.purgeStrip (toBytes 2 tag)) s = .next (okOf 0x23#8 [] t) := fun t ht => by
    refine exec_taken (f := purgeStrip) rfl hr (by simp) ?_
    rw [purgeStrip, fieldAt_id hle, if_neg (by omega), hstrip', ← ht]
  -- the record gone, before the heads, the calendar and the bays are written
  have hpurged : ∀ slot, purgedFrom (found s) tag n slot = purged slot := fun slot => by
    simp only [purgedFrom, purged, found_strips, found_lineal, found_chain, found_counters, found_count]
  have hplans : ∀ slot cal, purgedFrom { found s with
      headSide := movesAlone n (found s).headSide, tailSide := movesAlone n (found s).tailSide, calendar := cal } tag n slot =
      { purged slot with
        headSide := { s.headSide with plan := s.headSide.plan.map moves }
        tailSide := { s.tailSide with plan := s.tailSide.plan.map moves }
        calendar := cal } := fun slot cal => by
    rw [← hpurged, found_headSide, found_tailSide]
    rfl
  have hcut : ((found s).freeStarts (n + BitVec.ofNat 32 (found s).geometry.e) 2).calendar = uncut := by
    simp only [State.freeStarts, State.updCal, found_geometry, found_calendar, found_calEntry]
    rfl
  have hbay : (found s).bay = s.bay := funext (found_bay s)
  have hchain := fun {x bay} => purgeChain_eq (x := x) (bay := bay) hstrip' hn hm'
  rw [found_slot] at hchain
  refine ⟨fun hdp => ?_, fun k dest c d hst hdp hd hpend hdtag hothers => ?_⟩
  · rw [if_neg (by rw [hdp]; decide)] at hchain
    have hnone : ∀ x : State, x.strips = s.strips → r.decision.bind (·.dest) = none → x.plannedDrop? r.tag = none := fun x hx hno => by
      have hrx : x.strip? r.tag = some r := by
        rw [hrtag, State.strip?, hx]
        exact hstrip
      rw [State.plannedDrop?, hrx, Option.bind_some, hno]
    refine ⟨fun hst hd => ?_, fun d hst hd hdest => ?_, fun d hst hd hsort hdest => ?_,
      fun k b c q hgeo hd hfill hb hq hqs => ?_⟩
    · have hcom : purgeCommitment (purgePlans (found s) r n) r = (found s, none) := by
        rw [purgePlans_of_not_decided (by rw [hst]; decide)]
        exact purgeCommitment_of_no_drop hdp (hnone _ (by simp) (by simp [hd]))
      exact hexec _ ((hchain hcom rfl).trans (hpurged _))
    · have hcom : purgeCommitment (purgePlans (found s) r n) r = (found s, none) := by
        rw [purgePlans_of_not_decided (by rw [hst]; decide)]
        exact purgeCommitment_of_no_drop hdp (hnone _ (by simp) (by simp [hd, hdest]))
      exact hexec _ ((hchain hcom rfl).trans (hpurged _))
    · by_cases hover : d.disposition = .overflow
      · rw [if_pos hover]
        have hplan := purgePlans_of_cut (u := found s) (n := n) hst hd (.inr hover)
        have hcom := purgeCommitment_of_no_drop (u := purgePlans (found s) r n) hdp
          (hnone _ (by rw [hplan]; exact found_strips s) (by simp [hd, hdest]))
        refine hexec _ ((hchain hcom (by rw [hplan]; rfl)).trans ?_)
        rw [hplan]
        exact (hplans _ _).trans (congrArg decided hcut)
      · rw [if_neg hover]
        have hplan := purgePlans_of_no_cut (u := found s) (n := n) hst hd hsort hover
        have hcom := purgeCommitment_of_no_drop (u := purgePlans (found s) r n) hdp
          (hnone _ (by rw [hplan]; exact found_strips s) (by simp [hd, hdest]))
        refine hexec _ ((hchain hcom (by rw [hplan])).trans ?_)
        rw [hplan]
        exact (hplans _ _).trans (congrArg decided (found_calendar s))
    · intro bay undropped
      have hdest : ∀ x : State, x.strips = s.strips → x.bays = s.bays → x.plannedDrop? r.tag = some (k, q) := fun x hx hxb => by
        have hrx : x.strip? r.tag = some r := by
          rw [hrtag, State.strip?, hx]
          exact hstrip
        refine plannedDrop?_of_dest hrx hd rfl ?_
        rw [State.bay, hxb, hrtag]
        exact hq
      have hgo : ∀ x target : State, purgePlans (found s) r n = x → x = { found s with
          headSide := x.headSide, tailSide := x.tailSide, calendar := x.calendar } →
          purgedFrom (x.freeStarts (dropAt k) 1) tag n
            { kind := if left = [] then .unknown else (s.slot n).kind, named := left } = target →
          ∃ u, exec (.purgeStrip (toBytes 2 tag)) s = .next (okOf 0x23#8 [] u) ∧ AfterTest target k bay (without b c) u :=
        fun x target hplan hx htarget => by
          have hxs : x.strips = s.strips := by rw [hx]; exact found_strips s
          have hxb : x.bay k = s.bay k := by rw [hx]; exact found_bay s k
          have hxo : x.bayOffset k = s.bayOffset k := by rw [hx]; simp [State.bayOffset]
          have hqtag : q.tag = tag := by simpa using List.find?_some hq
          have hband : x.dropBand q = bandIdx c.band := by
            have hrx : x.strip? q.tag = some r := by
              rw [hqtag, State.strip?, hxs]
              exact hstrip
            rw [State.dropBand, hrx]
            simp [Strip.band, hd]
          have hcom := purgeCommitment_of_planned (u := x) hdp (hdest x hxs (by rw [hx]; exact found_bays s))
          rw [← hplan] at hcom
          have hcancel : cancelPlanned x k q = withBay (x.freeStarts (dropAt k) 1) k { bay with bundle := some (without b c) } := by
            rw [cancelPlanned_eq, hqs, hqtag, hxo, hxb, hb, Option.map_some, Bundle.released_eq_without hband]
          refine ⟨_, hexec _ ((hchain hcom ?_).trans ?_), completionTest_afterTest target k bay (without b c)⟩
          · rw [hplan, hcancel, hx]
            rfl
          · rw [hplan, hcancel, ← htarget]
            rfl
      refine ⟨fun hst => hgo _ _ (purgePlans_of_cut hst hd (.inl rfl)) rfl ?_,
        fun hst => hgo _ _ (purgePlans_of_not_decided (by rw [hst]; decide)) rfl ?_⟩
      · obtain ⟨hek, -, hkd⟩ := hgeo.bays k
        obtain ⟨-, -, hde, -⟩ := hgeo.chain
        have hne := ringIdx_add_ne n (a := s.geometry.e) (b := s.geometry.bays[k]) hek (by omega)
        let x : State := { found s with
          headSide := movesAlone n (found s).headSide, tailSide := movesAlone n (found s).tailSide }
        have hstart : (x.freeStarts (n + BitVec.ofNat 32 x.geometry.e) 2).calEntry (dropAt k) = s.calEntry (dropAt k) := by
          have hplunge : ¬ ringIdx (n + BitVec.ofNat 32 x.geometry.e) = ringIdx (dropAt k) := by
            show ¬ ringIdx (n + BitVec.ofNat 32 (found s).geometry.e) = _
            rw [found_geometry]
            exact Ne.symm hne
          rw [calEntry_freeStarts, if_neg hplunge]
          exact found_calEntry s _
        have hundropped : ((x.freeStarts (n + BitVec.ofNat 32 x.geometry.e) 2).freeStarts (dropAt k) 1).calendar =
            undropped uncut := by
          rw [State.freeStarts, State.updCal, hstart]
          exact congrArg undropped hcut
        exact (hplans _ _).trans (congrArg decided hundropped)
      · have hundropped : ((found s).freeStarts (dropAt k) 1).calendar = undropped s.calendar := by
          simp only [State.freeStarts, State.updCal, found_calendar, found_calEntry]
          rfl
        refine (congrArg (fun x => { x with calendar := ((found s).freeStarts (dropAt k) 1).calendar }) (hpurged _)).trans ?_
        rw [hundropped]
  · intro bay t
    rw [if_pos hdp] at hchain
    have hdrop : (found s).droppingBay r.tag = some k := droppingBay_eq (by rw [found_bay]; exact hpend) (hdtag.trans hrtag.symm)
      fun j hj e he => by
        rw [hrtag]
        exact hothers j hj e (by rwa [found_bay] at he)
    have hplan := purgePlans_of_not_decided (u := found s) (r := r) (n := n) (by rw [hst]; decide)
    have hpend' : ((found s).bay k).pendingDrop = some d := by rw [found_bay]; exact hpend
    have hput : ∀ b, purgedFrom (withBay (found s) k b) tag n { s.slot n with named := left } = withBay t k b := fun b =>
      congrArg (withBay · k b) (hpurged _)
    have hbays : t.bays = s.bays := found_bays s
    refine ⟨fun ha => ?_, fun b ha hb => ?_⟩
    · have hcom : purgeCommitment (purgePlans (found s) r n) r = (withBay (found s) k bay, none) := by
        rw [hplan, purgeCommitment_of_detached hdp hdrop hpend' ha, found_bay]
      refine hexec _ ((hchain hcom rfl).trans ((hput bay).trans ?_))
      rw [withBay, hbays]
    · have hband : bandIdx r.band = bandIdx c.band := by simp [Strip.band, hd]
      have hcom : purgeCommitment (purgePlans (found s) r n) r =
          (withBay (found s) k { bay with bundle := some (without b c) }, some k) := by
        rw [hplan, purgeCommitment_of_attached hdp hdrop hpend' ha (by rw [found_bay]; exact hb), found_bay,
          Bundle.released_eq_without (band := fun r : Strip => bandIdx r.band) hband]
      refine ⟨_, hexec _ ((hchain hcom rfl).trans ?_), completionTest_afterTest t k bay (without b c)⟩
      exact congrArg (completionTest · k true) (hput _)

end Sys2Proof.Claims
end

section
set_option Elab.async false
/-! PROOF. The parts of a lug tick: what each does, and when it does nothing (O30, O31). -/

namespace Sys2Proof.Machine

open Sys2Proof Claims

/-! ## Lugs and slots at a tick -/

/-- Two lugs at offsets of their own have places of their own in the map. -/
theorem ringIdx_lugAt_ne (s : State) {j k : Nat} (hj : j < 64) (hk : k < 64) (h : j ≠ k) :
    ringIdx (lugAt s j) ≠ ringIdx (lugAt s k) := by
  intro e
  have e := congrArg Fin.val e
  simp only [ringIdx, lugAt, BitVec.toNat_sub, BitVec.toNat_ofNat] at e
  omega

theorem setSlot_self {u : State} {n : Serial} {l : LugSlot} (h : u.slot n = l) : u.setSlot n l = u := by
  subst h
  have hslots : u.chain.slots.set (ringIdx n) (u.slot n) = u.chain.slots := Vector.set_getElem_self _
  unfold State.setSlot
  rw [hslots]

theorem slot_of_set {u : State} {v : Vector LugSlot 64} {m n : Serial} {l : LugSlot}
    (hu : u.chain.slots = v.set (ringIdx m) l) : u.slot n = if ringIdx n = ringIdx m then l else v[ringIdx n] := by
  rw [State.slot, hu]
  by_cases h : ringIdx n = ringIdx m
  · simp [h]
  · have hne : (ringIdx m).val ≠ (ringIdx n).val := fun e => h (Fin.ext e.symm)
    simp [h, Vector.getElem_set_ne, hne]

/-- u is s at the tick: the serial advanced, the geometry and the limits those of s. -/
structure TickOf (s u : State) : Prop where
  serial : u.chain.serial = s.chain.serial + 1
  geometry : u.geometry = s.geometry
  limits : u.limits = s.limits

theorem TickOf.serialAt {s u : State} (h : TickOf s u) (k : Nat) : u.serialAt k = lugAt s k := by
  rw [State.serialAt, h.serial]
  rfl

theorem lugAt_zero (s : State) : lugAt s 0 = s.chain.serial + 1 := by simp [lugAt]

theorem advance_eq_ticked (s : State) : (advanceSerial (entered s)).calendarAdvance = ticked s := rfl

/-- A lug tick before which no homing was completed. -/
theorem exec_lugTick {s : State} (hpin : s.resetPin = false) (hh : s.homed = []) : exec .lugTick s =
    .next (chainEnd (allBays.foldl bayTick (stationsTick (verifyTick (loadLug (ticked s)))))) := by
  refine (takeEvent_entered hpin (lugTick s.homed)).trans ?_
  rw [hh]
  rfl

/-! ## Loading and the verify eye (R63 to R66) -/

/-- The strips that the slot l names are loaded onto lug n, the load list is empty. -/
def loadedOn (u : State) (n : Serial) (l : LugSlot) : State :=
  { u with
    strips := u.strips.map fun r => if r.tag ∈ l.named then
      { r with state := .loaded, serial := some n, doubled := decide (l.kind = .doubled) } else r
    lineal := { u.lineal with queue := u.lineal.queue.filter (· ∉ l.named) }
    chain := { u.chain with load := [], slots := u.chain.slots.set (ringIdx n) l } }

theorem loadedOn_nil (u : State) (n : Serial) (kind : SlotKind) : loadedOn u n { kind := kind, named := [] } =
    { u with chain := { u.chain with load := [], slots := u.chain.slots.set (ringIdx n) { kind := kind, named := [] } } } := by
  simp [loadedOn]

theorem foldl_loadStrip (n : Serial) (doubled : Bool) (l : List Nat) (u : State) : l.foldl (loadStrip n doubled) u =
    { u with
      strips := u.strips.map fun r => if r.tag ∈ l then { r with state := .loaded, serial := some n, doubled := doubled } else r
      lineal := { u.lineal with queue := u.lineal.queue.filter (· ∉ l) } } := by
  induction l generalizing u with
  | nil => simp
  | cons tag l ih =>
    have hstrips : (u.strips.map fun r => if r.tag = tag then
        { r with state := .loaded, serial := some n, doubled := doubled } else r).map (fun r => if r.tag ∈ l then
          { r with state := .loaded, serial := some n, doubled := doubled } else r) =
        u.strips.map fun r => if r.tag ∈ tag :: l then
          { r with state := .loaded, serial := some n, doubled := doubled } else r := by
      rw [List.map_map]
      refine List.map_congr_left fun r _ => ?_
      by_cases h1 : r.tag = tag <;> by_cases h2 : r.tag ∈ l <;>
        simp only [Function.comp, h1, h2, if_true, if_false, List.mem_cons, true_or, or_true, or_self, ite_self]
    have hqueue : (u.lineal.queue.filter (· ≠ tag)).filter (· ∉ l) = u.lineal.queue.filter (· ∉ tag :: l) := by
      rw [List.filter_filter]
      refine List.filter_congr fun x _ => ?_
      simp [Bool.and_comm]
    rw [List.foldl_cons, ih, ← hstrips, ← hqueue]
    rfl

theorem loadLug_eq (u : State) : loadLug u =
    let t := loadedOn u u.chain.serial (loadSlot u.chain.load)
    if (loadSlot u.chain.load).kind = .doubled then t.bump .doubledLugs
    else if (loadSlot u.chain.load).kind = .unknown then (t.raise .unknownStrip).bump .loadUnknown
    else t := by
  unfold loadLug
  dsimp only
  rw [foldl_loadStrip]
  generalize loadSlot u.chain.load = l
  obtain ⟨kind, named⟩ := l
  cases kind <;> rfl

theorem loadLug_of_none {s : State} (h : s.chain.load = []) : loadLug (ticked s) = bareTick s := by
  have hslot : loadSlot (ticked s).chain.load = { kind := .empty, named := [] } := by
    show loadSlot s.chain.load = _
    rw [h]
    rfl
  rw [loadLug_eq, hslot]
  dsimp only
  rw [if_neg (by decide), if_neg (by decide), loadedOn_nil]
  simp only [bareTick, lugAt_zero, h]
  rfl

theorem verifyTick_idle {u : State} (hl : u.chain.latch = false) (hk : (u.slot (u.serialAt u.geometry.v)).kind = .empty) :
    verifyTick u = u := by
  have hsame : u.updChain (fun c => { c with latch := false }) = u := by
    show { u with chain := { u.chain with latch := false } } = u
    rw [← hl]
  unfold verifyTick
  dsimp only
  rw [hsame, hl]
  simp only [verifyOutcome, hk]

/-- The latch and the slot agree (Table 4-5). -/
theorem verifyOutcome_agrees {u : State} {n : Serial} {wood : Bool} (h : (u.slot n).kind = .empty ↔ wood = false) :
    verifyOutcome u n wood = u := by
  cases wood with
  | false => simp only [verifyOutcome, h.mpr rfl]
  | true =>
    have hk : (u.slot n).kind ≠ .empty := fun e => by simpa using h.mp e
    unfold verifyOutcome
    cases hkind : (u.slot n).kind with
    | empty => exact absurd hkind hk
    | strip => rfl
    | doubled => rfl
    | unknown => rfl

/-- Named strips that the verify eye does not see are lost (R66). -/
theorem verifyOutcome_missing {u : State} {n : Serial} (h : (u.slot n).kind = .strip ∨ (u.slot n).kind = .doubled) :
    verifyOutcome u n false =
      ((u.slot n).named.foldl (fun s tag => loseStrip s tag .lostVerify) u).setKind n .empty := by
  rcases h with h | h <;> simp only [verifyOutcome, h]

/-! ## The two stations (R73, R80, R103) -/

theorem frontFor_eq_none {u : State} {h : HeadId} {n : Serial} (hne : ∀ e ∈ (u.head h).plan, e.serial ≠ n) :
    u.frontFor h n = none := by
  unfold State.frontFor
  split
  next e l hp => exact if_neg (hne e (by rw [hp]; exact List.mem_cons_self))
  · rfl

theorem takeEntry_idle {u : State} {h : HeadId} {n : Serial} (hnone : u.frontFor h n = none) : takeEntry u h n = u := by
  rw [takeEntry, hnone]

theorem decideSlot_idle {u : State} {n : Serial} (h : (u.slot n).named = []) : decideSlot u n = (u, []) := by
  unfold decideSlot
  rw [h]
  cases (u.slot n).kind <;> rfl

theorem parkEntry_idle {u : State} {n : Serial} {h : HeadId} (hp : (u.head h).parks u.limits.lpark n = false) :
    u.parkEntry n h = [] := by
  rw [State.parkEntry, hp]
  rfl

theorem decisionTick_idle {u : State} (hslot : (u.slot (u.serialAt u.geometry.d)).named = [])
    (hparks : ∀ h, (u.head h).parks u.limits.lpark (u.serialAt u.geometry.d) = false) : decisionTick u = (u, []) := by
  unfold decisionTick
  dsimp only
  rw [decideSlot_idle hslot]
  dsimp only
  rw [if_pos rfl, parkEntry_idle (hparks _), parkEntry_idle (hparks _)]
  rfl

theorem endMatchTick_idle {u : State} (hslot : (u.slot (u.serialAt u.geometry.e)).named = [])
    (hfront : ∀ h, u.frontFor h (u.serialAt u.geometry.e) = none) : endMatchTick u = u := by
  have hcuts : u.cutsAt (u.serialAt u.geometry.e) = false := by rw [State.cutsAt, hfront .headSide]; rfl
  have hlate : u.lateAt (u.serialAt u.geometry.e) = false := by rw [State.lateAt, hfront .headSide, hfront .tailSide]; rfl
  unfold endMatchTick
  dsimp only
  rw [hslot, List.foldl_nil, endMatchOutcome, hcuts, hlate]
  rw [if_neg (by decide), if_neg (by decide), takeEntry_idle (hfront _), takeEntry_idle (hfront _)]

/-- With no entry for the lug at E the decision is the one work of the stations. -/
theorem stationsTick_of_no_front {u : State} (hslot : (u.slot (u.serialAt u.geometry.e)).named = [])
    (hfront : ∀ h, u.frontFor h (u.serialAt u.geometry.e) = none) :
    stationsTick u = takeEntries (decisionTick u).1 (decisionTick u).2 := by
  have hlate : u.lateAt (u.serialAt u.geometry.e) = false := by rw [State.lateAt, hfront .headSide, hfront .tailSide]; rfl
  rw [stationsTick, hlate, if_neg (by decide), decideAndMatch, if_neg (by decide), endMatchTick_idle hslot hfront]

theorem parks_of_noPark {s u : State} (ht : TickOf s u) (hp : NoPark s) {h : HeadId}
    (hst : (u.head h).state = (s.head h).state) (href : (u.head h).reference = (s.head h).reference) :
    (u.head h).parks u.limits.lpark (u.serialAt u.geometry.d) = false := by
  rw [Head.parks, hst, href, ht.serialAt, ht.geometry, ht.limits]
  split
  next ref hs hr => exact decide_eq_false (not_le.mpr (hp h hs ref hr))
  · rfl

/-- The stations do nothing when no head has an entry or parks and their lugs name no strip. -/
theorem stationsTick_idle {s u : State} (ht : TickOf s u) (hidle : HeadsIdle s) (hheads : ∀ h, u.head h = s.head h)
    (hD : (u.slot (lugAt s s.geometry.d)).named = []) (hE : (u.slot (lugAt s s.geometry.e)).named = []) :
    stationsTick u = u := by
  obtain ⟨hpark, hplan⟩ := hidle
  rw [stationsTick_of_no_front (by rw [ht.serialAt, ht.geometry]; exact hE)
    fun h => frontFor_eq_none (by rw [hheads, hplan]; simp),
    decisionTick_idle (by rw [ht.serialAt, ht.geometry]; exact hD)
    fun h => parks_of_noPark ht hpark (by rw [hheads]) (by rw [hheads])]
  rfl

/-! ## The bays and the chain end (R67, R129) -/

/-- A bay with no pending drop and no planned drop for the lug that stands at it does nothing. -/
theorem bayTick_idle {u : State} {k : BayId} (hp : (u.bay k).pendingDrop = none)
    (hd : ∀ d ∈ (u.bay k).planned, d.serial ≠ u.serialAt (u.bayOffset k)) : bayTick u k = u := by
  unfold bayTick
  dsimp only
  rw [resolveDrop_of_none hp]
  split
  · rfl
  next d l hl => exact if_neg (hd d (by rw [hl]; exact List.mem_cons_self))

theorem bayTicks_idle {u : State} (l : List BayId) (hp : ∀ k ∈ l, (u.bay k).pendingDrop = none)
    (hd : ∀ k ∈ l, ∀ d ∈ (u.bay k).planned, d.serial ≠ u.serialAt (u.bayOffset k)) : l.foldl bayTick u = u := by
  induction l with
  | nil => rfl
  | cons k l ih =>
    rw [List.foldl_cons, bayTick_idle (hp k List.mem_cons_self) (hd k List.mem_cons_self)]
    exact ih (fun j hj => hp j (List.mem_cons_of_mem _ hj)) fun j hj => hd j (List.mem_cons_of_mem _ hj)

/-- A lug that names no strip leaves the map at X, counted when it is UNKNOWN. -/
theorem chainEnd_of_unnamed {u : State} (h : (u.slot (u.serialAt u.geometry.x)).named = []) : chainEnd u =
    (if (u.slot (u.serialAt u.geometry.x)).kind = .unknown then u.bump .endUnknown else u).setSlot
      (u.serialAt u.geometry.x) { kind := .empty, named := [] } := by
  unfold chainEnd
  dsimp only
  rw [h, List.foldl_nil]
  rfl

theorem chainEnd_idle {u : State} (h : u.slot (u.serialAt u.geometry.x) = { kind := .empty, named := [] }) : chainEnd u = u := by
  rw [chainEnd_of_unnamed (by rw [h]), h, if_neg (by decide)]
  exact setSlot_self h

/-! ## A tick of a chain that carries wood at one offset alone -/

theorem slot_bareTick (s : State) (n : Serial) : (bareTick s).slot n =
    if ringIdx n = ringIdx (lugAt s 0) then { kind := .empty, named := [] } else s.slot n := slot_of_set rfl

/-- The lug at an offset behind the load is as it was. -/
theorem slot_bareTick_at (s : State) {k : Nat} (h0 : 0 < k) (hk : k < 64) :
    (bareTick s).slot (lugAt s k) = s.slot (lugAt s k) := by
  rw [slot_bareTick, if_neg (ringIdx_lugAt_ne s hk (by decide) h0.ne')]

theorem tickOf_bareTick (s : State) : TickOf s (bareTick s) := ⟨rfl, rfl, rfl⟩

/-- The offsets of the stations lie before the chain end and within the map. -/
theorem offsets {g : Geometry} (h : GeometryBounds g) : 1 ≤ g.v ∧ g.v < g.d ∧ g.d < g.e ∧ g.e < g.x ∧ g.x < 64 ∧
    ∀ k : BayId, g.e < g.bays[k] ∧ g.bays[k] < g.x := by
  obtain ⟨h1, h2, h3, -, hx⟩ := h.chain
  have hk := fun k => h.bays k
  have h0 := hk 0
  refine ⟨h1, h2, h3, by omega, by omega, fun k => ?_⟩
  obtain ⟨a, b, -⟩ := hk k
  exact ⟨a, b⟩

/-- Behind the verify eye nothing happens on an empty chain without drops. -/
theorem afterVerify_idle {s u : State} (ht : TickOf s u) (hidle : HeadsIdle s) (hheads : ∀ h, u.head h = s.head h)
    (hbays : ∀ k, (u.bay k).planned = [] ∧ (u.bay k).pendingDrop = none)
    (hD : (u.slot (lugAt s s.geometry.d)).named = []) (hE : (u.slot (lugAt s s.geometry.e)).named = [])
    (hX : u.slot (lugAt s s.geometry.x) = { kind := .empty, named := [] }) :
    chainEnd (allBays.foldl bayTick (stationsTick u)) = u := by
  rw [stationsTick_idle ht hidle hheads hD hE,
    bayTicks_idle allBays (fun k _ => (hbays k).2) (fun k _ d hd => by rw [(hbays k).1] at hd; cases hd),
    chainEnd_idle (by rw [ht.serialAt, ht.geometry]; exact hX)]

theorem bumpBy_two (s : State) (c : Counter) : (s.bump c).bump c = s.bumpBy c 2 := by
  have hsum : min Config.counterLimit ((s.bump c).count c + 1) = min Config.counterLimit (s.count c + 2) := by
    rw [State.count_bump_self]
    omega
  show { s with counters := (s.bump c).counters.set c.idx (min Config.counterLimit ((s.bump c).count c + 1)) } = _
  rw [hsum]
  exact congrArg (fun v => { s with counters := v }) (Vector.set_set ..)

theorem raise_raise (s : State) (n : Notice) : (s.raise n).raise n = s.raise n := by
  simp [State.raise, BitVec.or_assoc]

/-- A strip on a lug is lost (R10). -/
theorem loseStrip_of_loaded {u : State} {tag : Nat} {r : Strip} {n : Serial} (h : u.strip? tag = some r)
    (hs : r.serial = some n) (hm : u.moulder.state ≠ .draining) (c : Counter) :
    loseStrip u tag c = ((removedFromLug u tag n).bump c).raise .stripLost := by
  rw [loseStrip, State.retire, remove_of_loaded h hs]
  exact drainTest_of_not_draining hm

theorem slot_removedFromLug (u : State) (tag : Nat) (n : Serial) : (removedFromLug u tag n).slot n =
    { u.slot n with named := (u.slot n).named.filter (· ≠ tag) } :=
  (slot_of_set rfl).trans (if_pos rfl)

theorem strip?_removedFromLug (u : State) {tag x : Nat} (h : x ≠ tag) (n : Serial) :
    (removedFromLug u tag n).strip? x = u.strip? x := strip?_purgedLineal u h

/-- A slot that is written twice. -/
theorem setSlot_of_set {u : State} {v : Vector LugSlot 64} {n : Serial} {l m : LugSlot}
    (h : u.chain.slots = v.set (ringIdx n) l) : u.setSlot n m = { u with chain := { u.chain with slots := v.set (ringIdx n) m } } := by
  unfold State.setSlot
  rw [h, Vector.set_set]

end Sys2Proof.Machine

namespace Sys2Proof.Claims

open Sys2Proof Sys2Proof.Machine

/-- Settles O30, by the pending load list. -/
theorem lugTickLoads : Obligations.LugTickLoads := by
  intro s hpin halone hslot hidle hlatch load
  obtain ⟨h1, h2, h3, h4, h5, h6⟩ := offsets halone.geometry
  have hrest : ∀ (kind : SlotKind) (named : List Nat) (u : State), u.chain = (load kind named).chain → TickOf s u →
      (∀ h, u.head h = s.head h) → u.bays = s.bays →
      chainEnd (allBays.foldl bayTick (stationsTick (verifyTick u))) = u := fun kind named u hc ht hheads hb => by
    have hempty : ∀ j, 0 < j → j < 64 → u.slot (lugAt s j) = { kind := .empty, named := [] } := fun j h0 hj => by
      have hne := ringIdx_lugAt_ne s hj (by decide) h0.ne'
      rw [slot_of_set (congrArg Chain.slots hc), if_neg hne]
      exact halone.slots _ hne
    have hverify : verifyTick u = u := verifyTick_idle (by rw [hc]; exact hlatch)
      (by rw [ht.serialAt, ht.geometry, hempty _ (by omega) (by omega)])
    rw [hverify]
    refine afterVerify_idle ht hidle hheads (fun k => ?_) ?_ ?_ (hempty _ (by omega) (by omega))
    · rw [State.bay, hb]
      exact halone.bays k (by simp)
    · rw [hempty _ (by omega) (by omega)]
    · rw [hempty _ (by omega) (by omega)]
  have hload : ∀ l, loadedOn (ticked s) (ticked s).chain.serial l = load l.kind l.named := fun l => by
    simp only [load, lugAt_zero]
    rfl
  have hcase : ∀ kind named, loadSlot s.chain.load = { kind := kind, named := named } → exec .lugTick s = .next
      (if kind = .doubled then (load kind named).bump .doubledLugs
      else if kind = .unknown then ((load kind named).raise .unknownStrip).bump .loadUnknown
      else load kind named) := fun kind named hl => by
    have hl : loadSlot (ticked s).chain.load = { kind := kind, named := named } := hl
    have ht : ∀ u : State, u.chain = (load kind named).chain → u.geometry = s.geometry → u.limits = s.limits → TickOf s u :=
      fun u hc hg hlim => ⟨by rw [hc]; exact lugAt_zero s, hg, hlim⟩
    rw [exec_lugTick hpin halone.homed, loadLug_eq, hl, hload]
    refine congrArg _ (hrest kind named _ ?_ (ht _ ?_ ?_ ?_) (fun h => ?_) ?_)
    all_goals
      dsimp only
      split
      · rfl
      · split <;> rfl
  refine ⟨fun hl => hcase .empty [] (by rw [hl]; rfl), fun a hl => hcase .strip [a] (by rw [hl]; rfl),
    fun hl => hcase .unknown [] (by rcases hl with hl | hl <;> rw [hl] <;> rfl),
    fun a b hl => hcase .doubled [a, b] (by rw [hl]; rfl),
    fun a hl => hcase .doubled [a] (by rcases hl with hl | hl <;> rw [hl] <;> rfl)⟩

/-- Settles O31, by the latch and the slot at the verify eye. -/
theorem lugTickVerifies : Obligations.LugTickVerifies := by
  intro s hpin halone hidle hload hm n t
  obtain ⟨h1, h2, h3, h4, h5, h6⟩ := offsets halone.geometry
  let w : State := (bareTick s).updChain fun c => { c with latch := false }
  have hw : ∀ l, w.setSlot n l = t l := fun l => rfl
  have hslot : w.slot n = s.slot n := slot_bareTick_at s (by omega) (by omega)
  have hverify : verifyTick (bareTick s) = verifyOutcome w n s.chain.latch := rfl
  have hself : w = t (s.slot n) := (setSlot_self hslot).symm
  have hexec : ∀ u l, verifyOutcome w n s.chain.latch = u → u.chain = (t l).chain → u.geometry = s.geometry →
      u.limits = s.limits → (∀ h, u.head h = s.head h) → u.bays = s.bays → exec .lugTick s = .next u :=
    fun u l hu hc hg hlim hheads hb => by
      have ht : TickOf s u := ⟨by rw [hc], hg, hlim⟩
      have hempty : ∀ j, 0 < j → j < 64 → j ≠ s.geometry.v → u.slot (lugAt s j) = { kind := .empty, named := [] } :=
        fun j h0 hj hv => by
          have hne := ringIdx_lugAt_ne s hj (by omega) hv
          rw [slot_of_set (congrArg Chain.slots hc), if_neg hne]
          refine (slot_bareTick_at s h0 hj).trans (halone.slots _ hne)
      rw [exec_lugTick hpin halone.homed, loadLug_of_none hload, hverify, hu]
      refine congrArg _ (afterVerify_idle ht hidle hheads (fun k => ?_) ?_ ?_ (hempty _ (by omega) (by omega) (by omega)))
      · rw [State.bay, hb]
        exact halone.bays k (by simp)
      · rw [hempty _ (by omega) (by omega) (by omega)]
      · rw [hempty _ (by omega) (by omega) (by omega)]
  refine ⟨fun hl hk => ?_, fun hl hk => ?_, fun hl hk => ?_, fun hl hk => ?_, fun a r hl hk hnamed hr hn => ?_,
    fun a b ra rb hl hk hnamed hab ha hna hb hnb => ?_⟩
  · have hout : verifyOutcome w n s.chain.latch = t (s.slot n) := by
      rw [verifyOutcome_agrees (by rw [hslot, hl]; simpa using hk), ← hself]
    exact hexec _ _ hout rfl rfl rfl (fun h => by cases h <;> rfl) rfl
  · have hout : verifyOutcome w n s.chain.latch = t (s.slot n) := by
      rw [verifyOutcome_agrees (by rw [hslot, hl]; simpa using hk), ← hself]
    exact hexec _ _ hout rfl rfl rfl (fun h => by cases h <;> rfl) rfl
  · have hout : verifyOutcome w n s.chain.latch =
        ((t { s.slot n with kind := .unknown }).bump .verifyUnknown).raise .unknownStrip := by
      rw [← hslot] at hk ⊢
      simp only [verifyOutcome, hk, hl]
      rfl
    exact hexec _ _ hout rfl rfl rfl (fun h => by cases h <;> rfl) rfl
  · have hout : verifyOutcome w n s.chain.latch = t { s.slot n with kind := .empty } := by
      rw [← hslot] at hk ⊢
      simp only [verifyOutcome, hk, hl]
      rfl
    exact hexec _ _ hout rfl rfl rfl (fun h => by cases h <;> rfl) rfl
  · have hout : verifyOutcome w n s.chain.latch = (State.bump { t { kind := .empty, named := [] } with
        strips := s.strips.filter fun x => x.tag ≠ a
        lineal := { s.lineal with queue := s.lineal.queue.filter (· ≠ a) } } .lostVerify).raise .stripLost := by
      rw [hl, verifyOutcome_missing (by rw [hslot]; exact hk), hslot, hnamed, List.foldl_cons, List.foldl_nil,
        loseStrip_of_loaded (u := w) hr hn hm]
      have hgone : (((removedFromLug w a n).bump .lostVerify).raise .stripLost).slot n =
          { kind := (w.slot n).kind, named := [] } := by
        refine (slot_removedFromLug w a n).trans ?_
        rw [hslot, hnamed]
        simp
      rw [State.setKind, hgone, setSlot_of_set rfl]
      rfl
    exact hexec _ _ hout rfl rfl rfl (fun h => by cases h <;> rfl) rfl
  · have hout : verifyOutcome w n s.chain.latch = (State.bumpBy { t { kind := .empty, named := [] } with
        strips := s.strips.filter fun x => x.tag ≠ a ∧ x.tag ≠ b
        lineal := { s.lineal with queue := s.lineal.queue.filter fun x => x ≠ a ∧ x ≠ b } } .lostVerify 2).raise
          .stripLost := by
      have hrb : (((removedFromLug w a n).bump .lostVerify).raise .stripLost).strip? b = some rb :=
        (strip?_removedFromLug w hab.symm n).trans hb
      rw [hl, verifyOutcome_missing (by rw [hslot]; exact .inr hk), hslot, hnamed, List.foldl_cons, List.foldl_cons,
        List.foldl_nil, loseStrip_of_loaded (u := w) ha hna hm, loseStrip_of_loaded hrb hnb hm]
      let z : State := removedFromLug (removedFromLug w a n) b n
      have hboth : ((removedFromLug (((removedFromLug w a n).bump .lostVerify).raise .stripLost) b n).bump .lostVerify).raise
          .stripLost = (z.bumpBy .lostVerify 2).raise .stripLost := by
        show ((((z.bump .lostVerify).bump .lostVerify).raise .stripLost).raise .stripLost) = _
        rw [raise_raise, bumpBy_two]
      have hgone : ((z.bumpBy .lostVerify 2).raise .stripLost).slot n = { kind := (w.slot n).kind, named := [] } := by
        refine (slot_removedFromLug (removedFromLug w a n) b n).trans ?_
        rw [slot_removedFromLug, hslot, hnamed]
        simp
      have hslots : (removedFromLug w a n).chain.slots.set (ringIdx n) { kind := .empty, named := [] } =
          w.chain.slots.set (ringIdx n) { kind := .empty, named := [] } := Vector.set_set ..
      have hstrips : (s.strips.filter fun x => x.tag ≠ a).filter (fun x => x.tag ≠ b) =
          s.strips.filter fun x => x.tag ≠ a ∧ x.tag ≠ b := by simp [List.filter_filter, Bool.and_comm]
      have hqueue : (s.lineal.queue.filter (· ≠ a)).filter (· ≠ b) = s.lineal.queue.filter fun x => x ≠ a ∧ x ≠ b := by
        simp [List.filter_filter, Bool.and_comm]
      rw [hboth, State.setKind, hgone, setSlot_of_set (v := (removedFromLug w a n).chain.slots) rfl, hslots, ← hstrips, ← hqueue]
      rfl
    exact hexec _ _ hout rfl rfl rfl (fun h => by cases h <;> rfl) rfl

end Sys2Proof.Claims
end

section
set_option Elab.async false
/-! PROOF. The chain end, and the drops of a lug tick (O32, O38). -/

namespace Sys2Proof.Machine

open Sys2Proof Claims

/-! ## Strips that reach the chain end (R67) -/

/-- A decided strip whose drop is not pending retires under the counter of its disposition. -/
theorem endStrip_of_loaded {u : State} {tag : Nat} {r : Strip} {d : Decision} {n : Serial} (hr : u.strip? tag = some r)
    (hn : r.serial = some n) (hd : r.decision = some d) (hp : r.dropPending = false) :
    endStrip u tag = (removedFromLug u tag n).bump (endCounter d.disposition) := by
  have hno : ¬ r.dropPending = true := by
    rw [hp]
    decide
  simp only [endStrip, hr, hd]
  rw [if_neg hno, State.retire, remove_of_loaded hr hn]
  rfl

theorem endStrip_of_pending {u : State} {tag : Nat} {r : Strip} (hr : u.strip? tag = some r) (hp : r.dropPending = true) :
    endStrip u tag = u := by
  simp only [endStrip, hr]
  exact if_pos hp

theorem chainEnd_eq (u : State) : chainEnd u =
    let n := u.serialAt u.geometry.x
    let v := (u.slot n).named.foldl endStrip u
    (if (u.slot n).kind = .unknown then v.bump .endUnknown else v).setSlot n { kind := .empty, named := [] } := rfl

/-! ## A tick at one bay (R129, R130) -/

/-- Where one bay has work the others stand still. -/
theorem bayTicks_one {u v : State} {k : BayId} (hk : bayTick u k = v) (hu : ∀ j, j ≠ k → bayTick u j = u)
    (hv : ∀ j, j ≠ k → bayTick v j = v) : allBays.foldl bayTick u = v := by
  have hsplit : ∀ k : BayId, allBays = allBays.take k.val ++ k :: allBays.drop (k.val + 1) := by decide
  have hbefore : ∀ k : BayId, ∀ j ∈ allBays.take k.val, j ≠ k := by decide
  have hafter : ∀ k : BayId, ∀ j ∈ allBays.drop (k.val + 1), j ≠ k := by decide
  have hstill : ∀ (w : State) (l : List BayId), (∀ j ∈ l, bayTick w j = w) → l.foldl bayTick w = w := by
    intro w l
    induction l with
    | nil => exact fun _ => rfl
    | cons j l ih =>
      intro h
      rw [List.foldl_cons, h j List.mem_cons_self]
      exact ih fun i hi => h i (List.mem_cons_of_mem _ hi)
  rw [hsplit k, List.foldl_append, hstill u _ fun j hj => hu j (hbefore k j hj), List.foldl_cons, hk,
    hstill v _ fun j hj => hv j (hafter k j hj)]

/-- The window has closed, and no planned drop is due. -/
theorem bayTick_of_resolved {u v : State} {k : BayId} (h : resolveDrop u k false = v)
    (hd : ∀ d ∈ (v.bay k).planned, d.serial ≠ v.serialAt (v.bayOffset k)) : bayTick u k = v := by
  rw [bayTick, h]
  split
  · rfl
  next d l hl => exact if_neg (hd d (by rw [hl]; exact List.mem_cons_self))

/-- The window has closed, and the front planned drop is due. -/
theorem bayTick_of_due {u v : State} {k : BayId} {d : PlannedDrop} {rest : List PlannedDrop} (h : resolveDrop u k false = v)
    (hp : (v.bay k).planned = d :: rest) (hd : d.serial = v.serialAt (v.bayOffset k)) : bayTick u k = makeDrop v k d := by
  rw [bayTick, h, hp]
  exact if_pos hd

/-- The completion test that does not close empty writes the bay and a counter; the bay keeps its drops. -/
theorem tested_eq (t : State) (k : BayId) (bay : Bay) (b : Bundle) : ∃ (x : Bay) (v : Vector Nat 63),
    tested t k bay b = { withBay t k x with counters := v } ∧ x.planned = bay.planned ∧ x.pendingDrop = bay.pendingDrop := by
  unfold tested
  dsimp only
  split
  · exact ⟨_, t.counters, rfl, rfl, rfl⟩
  · split
    · exact ⟨_, t.counters, rfl, rfl, rfl⟩
    · exact ⟨_, _, rfl, rfl, rfl⟩

theorem tested_setSlot (t : State) (k : BayId) (bay : Bay) (b : Bundle) (n : Serial) (l : LugSlot) :
    (tested t k bay b).setSlot n l = tested (t.setSlot n l) k bay b := by
  unfold tested
  dsimp only
  split
  · rfl
  · split <;> rfl

/-- The bays without drops stand still. -/
theorem bayTick_of_no_drops {s u : State} {j : BayId} (h : (s.bay j).planned = [] ∧ (s.bay j).pendingDrop = none)
    (hu : u.bay j = s.bay j) : bayTick u j = u := by
  refine bayTick_idle (by rw [hu]; exact h.2) fun d hd => ?_
  rw [hu, h.1] at hd
  cases hd

/-! ## The tick before its work -/

/-- A lug tick that loads nothing and whose lug at V is empty, up to the stations. -/
theorem exec_lugTick_bare {s : State} (hpin : s.resetPin = false) (hh : s.homed = []) (hload : s.chain.load = [])
    (hl : s.chain.latch = false) (hgeo : GeometryBounds s.geometry)
    (hv : s.slot (lugAt s s.geometry.v) = { kind := .empty, named := [] }) : exec .lugTick s =
      .next (chainEnd (allBays.foldl bayTick (stationsTick (bareTick s)))) := by
  obtain ⟨h1, h2, h3, h4, h5, -⟩ := offsets hgeo
  have hslot : ((bareTick s).slot ((bareTick s).serialAt (bareTick s).geometry.v)).kind = .empty := by
    refine (congrArg LugSlot.kind (slot_bareTick_at s (by omega) (by omega) : _ = s.slot (lugAt s s.geometry.v))).trans ?_
    rw [hv]
  rw [exec_lugTick hpin hh, loadLug_of_none hload, verifyTick_idle (u := bareTick s) hl hslot]

end Sys2Proof.Machine

namespace Sys2Proof.Claims

open Sys2Proof Sys2Proof.Machine

/-- Settles O32, by what the slot at the chain end names. -/
theorem lugTickChainEnd : Obligations.LugTickChainEnd := by
  intro s hpin hidle hload hlatch n t gone
  have hexec : ∀ dropping, AloneAt s s.geometry.x dropping → exec .lugTick s =
      .next (chainEnd (allBays.foldl bayTick (bareTick s))) := fun dropping halone => by
    obtain ⟨h1, h2, h3, h4, h5, h6⟩ := offsets halone.geometry
    have hempty : ∀ j, 0 < j → j < s.geometry.x → s.slot (lugAt s j) = { kind := .empty, named := [] } :=
      fun j h0 hj => halone.slots _ (ringIdx_lugAt_ne s (by omega) h5 hj.ne)
    have hnamed : ∀ j, 0 < j → j < s.geometry.x → ((bareTick s).slot (lugAt s j)).named = [] := fun j h0 hj => by
      rw [slot_bareTick_at s h0 (by omega), hempty j h0 hj]
    rw [exec_lugTick_bare hpin halone.homed hload hlatch halone.geometry (hempty _ (by omega) (by omega)),
      stationsTick_idle (tickOf_bareTick s) hidle (fun h => by cases h <;> rfl) (hnamed _ (by omega) (by omega))
        (hnamed _ (by omega) (by omega))]
  have hslot : ∀ dropping, AloneAt s s.geometry.x dropping → (bareTick s).slot n = s.slot n := fun dropping halone => by
    obtain ⟨h1, h2, h3, h4, h5, h6⟩ := offsets halone.geometry
    exact slot_bareTick_at s (by omega) h5
  have hclear : ∀ (u : State) (l : LugSlot), u.chain.slots = (bareTick s).chain.slots.set (ringIdx n) l → u.setSlot n { kind := .empty, named := [] } =
      { u with chain := { u.chain with slots := t.chain.slots } } := fun u l hu => setSlot_of_set hu
  refine ⟨fun halone => ?_, fun k a r d c b halone hx hslotn hr hn hp hd hc hplan hpend hb => ?_⟩
  · have hend : exec .lugTick s = .next (chainEnd (bareTick s)) := by
      rw [hexec none halone, bayTicks_idle]
      · exact fun k _ => (halone.bays k (by simp)).2
      · intro k _ d hd
        rw [show ((bareTick s).bay k).planned = [] from (halone.bays k (by simp)).1] at hd
        cases hd
    have hn : (bareTick s).serialAt (bareTick s).geometry.x = n := rfl
    rw [chainEnd_eq] at hend
    dsimp only at hend
    rw [hn, hslot none halone] at hend
    refine ⟨fun hnamed => ?_, fun a r d hnamed hk hr hser hd hp => ?_, fun a b ra rb da db hk hnamed hab ha hna hda hfa hpa hb hnb hdb hfb hpb => ?_,
      fun a r hnamed hk hr hp => ?_⟩
    · rw [hend, hnamed]
      split <;> rfl
    · intro leave
      have hleave : exec .lugTick s = .next ((gone [a]).bump (endCounter d.disposition)) := by
        rw [hend, hnamed, if_neg hk, List.foldl_cons, List.foldl_nil, endStrip_of_loaded (u := bareTick s) hr hser hd hp,
          hclear ((removedFromLug (bareTick s) a n).bump (endCounter d.disposition)) _ rfl]
        simp only [gone, List.mem_singleton]
        rfl
      refine ⟨fun h => ?_, fun h => ?_, fun h => ?_, fun h => ?_, fun h => ?_⟩
      all_goals
        rw [h] at hleave
        exact hleave
    · have hrb : ((removedFromLug (bareTick s) a n).bump (endCounter da.disposition)).strip? b = some rb :=
        (strip?_removedFromLug (bareTick s) hab.symm n).trans hb
      let z : State := removedFromLug (removedFromLug (bareTick s) a n) b n
      have hboth : (removedFromLug ((removedFromLug (bareTick s) a n).bump .endFaulted) b n).bump .endFaulted =
          z.bumpBy .endFaulted 2 := bumpBy_two z _
      have hslots : (removedFromLug (bareTick s) a n).chain.slots.set (ringIdx n) { kind := .empty, named := [] } =
          (bareTick s).chain.slots.set (ringIdx n) { kind := .empty, named := [] } := Vector.set_set ..
      have hstrips : (s.strips.filter fun x => x.tag ≠ a).filter (fun x => x.tag ≠ b) =
          s.strips.filter fun x => x.tag ∉ [a, b] := by simp [List.filter_filter, Bool.and_comm]
      have hqueue : (s.lineal.queue.filter (· ≠ a)).filter (· ≠ b) = s.lineal.queue.filter (· ∉ [a, b]) := by
        simp [List.filter_filter, Bool.and_comm]
      rw [hend, hnamed, if_neg (by rw [hk]; decide), List.foldl_cons, List.foldl_cons, List.foldl_nil,
        endStrip_of_loaded (u := bareTick s) ha hna hda hpa, endStrip_of_loaded hrb hnb hdb hpb, hfa, hfb]
      show Host.Outcome.next (((removedFromLug ((removedFromLug (bareTick s) a n).bump .endFaulted) b n).bump
        .endFaulted).setSlot n _) = _
      rw [hboth, setSlot_of_set (v := (removedFromLug (bareTick s) a n).chain.slots) rfl, hslots]
      simp only [gone]
      rw [← hstrips, ← hqueue]
      rfl
    · rw [hend, hnamed, if_neg hk, List.foldl_cons, List.foldl_nil, endStrip_of_pending (u := bareTick s) hr hp]
      rfl
  · have hpend' : ((bareTick s).bay k).pendingDrop = some { serial := n, tag := a, attached := true } := hpend
    let v : State := tested ((removedFromLug (bareTick s) a n).bump .dropUnverified) k
      { s.bay k with pendingDrop := none } (resolved b c false)
    have hresolve : resolveDrop (bareTick s) k false = v :=
      resolveDrop_of_attached (u := bareTick s) hpend' hr hn rfl hd hc hb false
    obtain ⟨x, cs, hv, hxplan, -⟩ := tested_eq ((removedFromLug (bareTick s) a n).bump .dropUnverified) k
      { s.bay k with pendingDrop := none } (resolved b c false)
    have hvk : (v.bay k).planned = [] := by
      rw [show v = _ from hv]
      exact (congrArg Bay.planned (bay_withBay _ k x)).trans (hxplan.trans hplan)
    have hk : bayTick (bareTick s) k = v := by
      refine bayTick_of_resolved hresolve fun d hd => ?_
      rw [hvk] at hd
      cases hd
    have hbays := bayTicks_one hk (fun j hj => bayTick_of_no_drops (halone.bays j (by simpa using hj)) rfl) fun j hj => by
      refine bayTick_of_no_drops (halone.bays j (by simpa using hj)) ?_
      rw [show v = _ from hv]
      exact bay_withBay_ne _ hj x
    have hvn : v.serialAt v.geometry.x = n := by rw [show v = _ from hv]; rfl
    have hvslot : v.slot n = { kind := .empty, named := [] } := by
      rw [show v = _ from hv]
      refine (slot_removedFromLug (bareTick s) a n).trans ?_
      rw [hslot _ halone, hslotn]
      simp
    rw [hexec _ halone, hbays, chainEnd_of_unnamed (by rw [hvn, hvslot]), hvn, hvslot, if_neg (by decide)]
    refine congrArg _ ((tested_setSlot ..).trans ?_)
    rw [hclear ((removedFromLug (bareTick s) a n).bump .dropUnverified) _ rfl]
    simp only [gone, List.mem_singleton]
    rfl

end Sys2Proof.Claims
end

section
set_option Elab.async false
/-! PROOF. The drops of a lug tick (O38). -/

namespace Sys2Proof.Machine

open Sys2Proof Claims

/-! ## The calendar at a tick (R114) -/

/-- Only the place of the oldest tick is cleared. -/
theorem calEntry_bareTick (s : State) {q : Serial} (h : ringIdx q ≠ ringIdx (s.chain.serial + 1 - 16)) :
    (bareTick s).calEntry q = s.calEntry q := by
  have hne : (ringIdx (s.chain.serial + 1 - 16)).val ≠ (ringIdx q).val := fun e => h (Fin.ext e.symm)
  exact Vector.getElem_set_ne (ringIdx (s.chain.serial + 1 - 16)).isLt (ringIdx q).isLt hne

/-- A tick that lies fewer than 48 ahead of the one that begins is not the oldest. -/
theorem ringIdx_ne_oldest (t : Serial) {a : Nat} (ha : a < 48) : ringIdx (t + BitVec.ofNat 32 a) ≠ ringIdx (t - 16) := by
  intro e
  have e := congrArg Fin.val e
  simp only [ringIdx, BitVec.toNat_add, BitVec.toNat_sub, BitVec.toNat_ofNat] at e
  have : (16 : BitVec 32).toNat = 16 := rfl
  omega

theorem calEntry_bareTick_now (s : State) : (bareTick s).calEntry (s.chain.serial + 1) = s.calEntry (s.chain.serial + 1) := by
  refine calEntry_bareTick s ?_
  have h := ringIdx_ne_oldest (s.chain.serial + 1) (a := 0) (by decide)
  rwa [BitVec.ofNat_eq_ofNat, BitVec.add_zero] at h

theorem slot_of_set_ne {u : State} {v : Vector LugSlot 64} {m n : Serial} {l : LugSlot}
    (hu : u.chain.slots = v.set (ringIdx m) l) (h : ringIdx n ≠ ringIdx m) : u.slot n = v[ringIdx n] :=
  (slot_of_set hu).trans (if_neg h)

theorem slot_of_set_same {u : State} {v : Vector LugSlot 64} {n : Serial} {l : LugSlot}
    (hu : u.chain.slots = v.set (ringIdx n) l) : u.slot n = l := (slot_of_set hu).trans (if_pos rfl)

/-! ## A drop made and a drop removed (R129, R130) -/

/-- A drop, as one update of the state. -/
theorem makeDrop_eq {u : State} {k : BayId} {d : PlannedDrop} {rest : List PlannedDrop} (hp : (u.bay k).planned = d :: rest) :
    makeDrop u k d = State.bump { u with
      pulses := u.pulses ++ [.flap k]
      calendar := u.calendar.set (ringIdx u.chain.serial)
        ⟨(u.calEntry u.chain.serial).planned - 1, (u.calEntry u.chain.serial).made + 1⟩
      chain := { u.chain with slots := u.chain.slots.set (ringIdx d.serial) ⟨.empty, (u.slot d.serial).named⟩ }
      strips := u.strips.map fun x => if x.tag = d.tag then { x with dropPending := true } else x
      bays := (withBay u k { u.bay k with
        planned := rest, pendingDrop := some { serial := d.serial, tag := d.tag, attached := true } }).bays } .drops := by
  rw [makeDrop, updBay_eq_withBay, hp]
  rfl

/-- A strip is gone from the slot that names it alone. -/
theorem removedFromLug_of_slot {u : State} {tag : Nat} {n : Serial} {kind : SlotKind}
    (h : u.slot n = { kind := kind, named := [tag] }) : removedFromLug u tag n = { u with
      strips := u.strips.filter fun x => x.tag ≠ tag
      lineal := { u.lineal with queue := u.lineal.queue.filter (· ≠ tag) }
      chain := { u.chain with slots := u.chain.slots.set (ringIdx n) { kind := kind, named := [] } } } := by
  have hslot : { u.slot n with named := (u.slot n).named.filter (· ≠ tag) } = ({ kind := kind, named := [] } : LugSlot) := by
    rw [h]
    simp
  unfold removedFromLug
  rw [hslot]

/-- A bundle that keeps a commitment stays as it is put. -/
theorem tested_of_committed {t : State} {k : BayId} {bay : Bay} {b : Bundle} (h : 0 < b.committed) :
    tested t k bay b = withBay t k { bay with bundle := some b } := by
  unfold tested
  dsimp only
  rw [if_pos (.inr (.inl h))]
  rfl

end Sys2Proof.Machine

namespace Sys2Proof.Claims

open Sys2Proof Sys2Proof.Machine

/-- Settles O38: the window of a pending drop closes, a planned drop is made, and both. -/
theorem lugTickDrops : Obligations.LugTickDrops := by
  intro s k hpin hh hgeo hidle hload hlatch n m hslots hbays tick was slots due made closes
  obtain ⟨h1, h2, h3, h4, h5, h6⟩ := offsets hgeo
  obtain ⟨hek, hkx⟩ := h6 k
  have hkx : s.bayOffset k < s.geometry.x := hkx
  have hek : s.geometry.e < s.bayOffset k := hek
  have hempty : ∀ j, j < 64 → j ≠ s.bayOffset k → j ≠ s.bayOffset k + 1 → s.slot (lugAt s j) = { kind := .empty, named := [] } :=
    fun j hj hn hm => hslots _ (ringIdx_lugAt_ne s hj (by omega) hn) (ringIdx_lugAt_ne s hj (by omega) hm)
  have hnm : ringIdx n ≠ ringIdx m := ringIdx_lugAt_ne s (by omega) (by omega) (by omega)
  have hslotn : (bareTick s).slot n = s.slot n := slot_bareTick_at s (by omega) (by omega)
  have hslotm : (bareTick s).slot m = s.slot m := slot_bareTick_at s (by omega) (by omega)
  have hnow : (bareTick s).calEntry (bareTick s).chain.serial = was := calEntry_bareTick_now s
  have hexec : exec .lugTick s = .next (chainEnd (allBays.foldl bayTick (bareTick s))) := by
    have hnamed : ∀ j, 0 < j → j < s.bayOffset k → ((bareTick s).slot (lugAt s j)).named = [] := fun j h0 hj => by
      rw [slot_bareTick_at s h0 (by omega), hempty j (by omega) (by omega) (by omega)]
    rw [exec_lugTick_bare hpin hh hload hlatch hgeo (hempty _ (by omega) (by omega) (by omega)),
      stationsTick_idle (tickOf_bareTick s) hidle (fun h => by cases h <;> rfl) (hnamed _ (by omega) (by omega))
        (hnamed _ (by omega) (by omega))]
  -- the other bays and the chain end stand still
  have hrest : ∀ v : State, bayTick (bareTick s) k = v → (∀ j, j ≠ k → v.bay j = s.bay j) → TickOf s v →
      v.slot (lugAt s s.geometry.x) = { kind := .empty, named := [] } → exec .lugTick s = .next v := fun v hv hj ht hx => by
    rw [hexec, bayTicks_one hv (fun j hne => bayTick_of_no_drops (hbays j hne) rfl)
      fun j hne => bayTick_of_no_drops (hbays j hne) (hj j hne), chainEnd_idle (by rw [ht.serialAt, ht.geometry]; exact hx)]
  have hX : ∀ u : State, (∀ q, ringIdx q ≠ ringIdx n → ringIdx q ≠ ringIdx m → u.slot q = (bareTick s).slot q) →
      u.slot m = { kind := .empty, named := [] } → u.slot (lugAt s s.geometry.x) = { kind := .empty, named := [] } :=
    fun u hu hm => by
      by_cases hx : s.geometry.x = s.bayOffset k + 1
      · rw [hx]
        exact hm
      · rw [hu _ (ringIdx_lugAt_ne s h5 (by omega) (by omega)) (ringIdx_lugAt_ne s h5 (by omega) hx),
          slot_bareTick_at s (by omega) h5, hempty _ h5 (by omega) hx]
  refine ⟨fun a rest hdue hpend hm => ?_, fun d r g c b hcloses hn hplan => ?_, fun a rest d r g c b hdue hcloses hne hcom => ?_⟩
  · obtain ⟨hs, -, hp⟩ := hdue
    have hp' : ((bareTick s).bay k).planned = { serial := n, tag := a } :: rest := hp
    have hv := bayTick_of_due (resolveDrop_of_none (u := bareTick s) hpend false) hp' rfl
    rw [makeDrop_eq hp', hnow, hslotn, hs] at hv
    refine (hrest _ hv (fun j hj => bay_withBay_ne _ hj _) ⟨rfl, rfl, rfl⟩
      (hX _ (fun q hq _ => slot_of_set_ne (v := (bareTick s).chain.slots) rfl hq) ?_)).trans rfl
    exact (slot_of_set_ne (v := (bareTick s).chain.slots) rfl hnm.symm).trans (hslotm.trans hm)
  · intro bay t
    obtain ⟨hpend, hser, hsm, hr, hrs, hg, hc, hb⟩ := hcloses
    have hpend' : ((bareTick s).bay k).pendingDrop = some d := hpend
    have hu : (removedFromLug (bareTick s) d.tag m).bump .dropUnverified = t := by
      rw [removedFromLug_of_slot (hslotm.trans hsm)]
      rfl
    have hfit : ∀ v : State, resolveDrop (bareTick s) k false = v → (v.bay k).planned = (s.bay k).planned →
        (∀ j, j ≠ k → v.bay j = s.bay j) → TickOf s v → v.chain.slots = t.chain.slots → exec .lugTick s = .next v :=
      fun v hv hp hj ht hslots => by
        refine hrest v (bayTick_of_resolved hv ?_) hj ht (hX _ (fun q _ hq => slot_of_set_ne hslots hq) (slot_of_set_same hslots))
        rw [hp, ht.serialAt, State.bayOffset, ht.geometry]
        exact hplan
    cases ha : d.attached with
    | true =>
      have hv := resolveDrop_of_attached (u := bareTick s) hpend' hr (hser ▸ hrs) ha hg hc hb false
      rw [hser, show resolution false = .dropUnverified from rfl, hu] at hv
      obtain ⟨x, cs, heq, hxplan, -⟩ := tested_eq t k bay (resolved b c false)
      rw [if_pos rfl]
      refine hfit _ hv ?_ (fun j hj => ?_) ?_ ?_
      · rw [heq]
        exact (congrArg Bay.planned (bay_withBay _ k x)).trans hxplan
      · rw [heq]
        exact bay_withBay_ne _ hj x
      · rw [heq]
        exact ⟨rfl, rfl, rfl⟩
      · rw [heq]
        rfl
    | false =>
      have hv := resolveDrop_of_detached (u := bareTick s) hpend' hr (hser ▸ hrs) ha false
      rw [hser, show resolution false = .dropUnverified from rfl, hu] at hv
      rw [if_neg (by decide)]
      exact hfit (withBay t k bay) hv (congrArg Bay.planned (bay_withBay t k bay) : _ = bay.planned) (fun j hj => bay_withBay_ne _ hj _)
        ⟨rfl, rfl, rfl⟩ rfl
  · obtain ⟨hs, -, hp⟩ := hdue
    obtain ⟨hpend, hser, hsm, hr, hrs, hg, hc, hb⟩ := hcloses
    have hpend' : ((bareTick s).bay k).pendingDrop = some d := hpend
    let x : Bay := { s.bay k with
      pendingDrop := none, bundle := some (if d.attached then resolved b c false else b) }
    let t : State := (removedFromLug (bareTick s) d.tag m).bump .dropUnverified
    have hresolve : resolveDrop (bareTick s) k false = withBay t k x := by
      cases ha : d.attached with
      | true =>
        have hx : x = { s.bay k with pendingDrop := none, bundle := some (resolved b c false) } := by
          simp only [x, ha, if_true]
        have hv := resolveDrop_of_attached (u := bareTick s) hpend' hr (hser ▸ hrs) ha hg hc hb false
        rw [hser, tested_of_committed (b := resolved b c false) (Nat.sub_pos_of_lt (hcom ha))] at hv
        rw [hx]
        exact hv
      | false =>
        have hx : x = { s.bay k with pendingDrop := none } := by
          simp only [x, ha, hb, Bool.false_eq_true, if_false]
        have hv := resolveDrop_of_detached (u := bareTick s) hpend' hr (hser ▸ hrs) ha false
        rw [hser] at hv
        rw [hx]
        exact hv
    have htslots : t.chain.slots = (bareTick s).chain.slots.set (ringIdx m) { kind := .empty, named := [] } := by
      simp only [t]
      rw [removedFromLug_of_slot (hslotm.trans hsm)]
      rfl
    have htn : (withBay t k x).slot n = { kind := .strip, named := [a] } :=
      (slot_of_set_ne htslots hnm).trans (hslotn.trans hs)
    have hplan : ((withBay t k x).bay k).planned = { serial := n, tag := a } :: rest :=
      (congrArg Bay.planned (bay_withBay t k x)).trans hp
    have hpast : ∀ {q : Serial}, ringIdx q ≠ ringIdx m → (withBay t k x).slot q = (bareTick s).slot q :=
      fun hq => slot_of_set_ne htslots hq
    have hv := bayTick_of_due hresolve hplan rfl
    rw [makeDrop_eq hplan, htn, show (withBay t k x).calEntry (withBay t k x).chain.serial = was from hnow, bay_withBay] at hv
    refine (hrest _ hv (fun j hj => (bay_withBay_ne _ hj _).trans (bay_withBay_ne _ hj _)) ⟨rfl, rfl, rfl⟩
      (hX _ (fun q hq hm => (slot_of_set_ne (v := (withBay t k x).chain.slots) rfl hq).trans (hpast hm)) ?_)).trans ?_
    · exact (slot_of_set_ne (v := (withBay t k x).chain.slots) rfl hnm.symm).trans (slot_of_set_same htslots)
    · have hslots : (withBay t k x).chain.slots = (bareTick s).chain.slots.set (ringIdx m) { kind := .empty, named := [] } :=
        htslots
      rw [withBay_withBay, hslots]
      rfl

end Sys2Proof.Claims
end

section
set_option Elab.async false
/-! PROOF. What the heads take, and the decision tick (O33). -/

namespace Sys2Proof.Machine

open Sys2Proof Claims

/-! ## A head that is given a record, with its strobe (R100) -/

/-- Head h becomes r; a commanded step that has changed is strobed. -/
def State.takeHead (u : State) (h : HeadId) (r : Head) : State :=
  { u.setHead h r with pulses := u.pulses ++ strobe h (u.head h) r }

/-- Both heads are given a record. -/
def State.takeHeads (u : State) (r1 r2 : Head) : State := (u.takeHead .headSide r1).takeHead .tailSide r2

theorem takeHead_self (u : State) (h : HeadId) : u.takeHead h (u.head h) = u := by
  have hstrobe : strobe h (u.head h) (u.head h) = [] := if_pos rfl
  rw [State.takeHead, hstrobe, List.append_nil]
  cases h <;> rfl

theorem takeHeads_eq {u : State} (hp : u.pulses = []) (r1 r2 : Head) : u.takeHeads r1 r2 = { u with
    headSide := r1, tailSide := r2
    pulses := strobe HeadId.headSide u.headSide r1 ++ strobe HeadId.tailSide u.tailSide r2 } := by
  have hl : u.pulses ++ strobe .headSide u.headSide r1 ++ strobe .tailSide u.tailSide r2 =
      strobe .headSide u.headSide r1 ++ strobe .tailSide u.tailSide r2 := by rw [hp, List.nil_append]
  exact congrArg (fun l => { u with headSide := r1, tailSide := r2, pulses := l }) hl

/-- A head whose front entry is not sent. -/
theorem takeHead_of_commanded {u : State} {h : HeadId} {r : Head} (hr : r.commanded = (u.head h).commanded) :
    u.takeHead h r = u.setHead h r := by
  rw [State.takeHead, strobe, if_pos hr, List.append_nil]
  cases h <;> rfl

theorem takeHead_of_sent {u : State} {h : HeadId} {r : Head} (hr : r.commanded ≠ (u.head h).commanded) :
    u.takeHead h r = (u.setHead h r).pulse (.step h r.commanded) := by
  rw [State.takeHead, strobe, if_neg hr]
  cases h <;> rfl

/-- A READY head with entries is sent the step of the front one when that differs from the commanded step. -/
def Head.sentFront (r : Head) : Head :=
  match r.state, r.plan with
  | .ready, e :: _ => if e.step = r.commanded then r else { r with commanded := e.step, inPosition := false }
  | _, _ => r

/-- A head that has become r is sent its front entry (R101). -/
theorem sendFront_setHead {u : State} {h : HeadId} {r : Head} (hr : r.commanded = (u.head h).commanded) :
    sendFront (u.setHead h r) h = u.takeHead h r.sentFront := by
  have hhead : (u.setHead h r).head h = r := by cases h <;> rfl
  unfold sendFront Head.sentFront
  rw [hhead]
  obtain ⟨state, commanded, inPosition, plan, reference, executed⟩ := r
  cases state with
  | ready =>
    cases plan with
    | nil => exact (takeHead_of_commanded hr).symm
    | cons e l =>
      dsimp only
      split
      next => exact (takeHead_of_commanded hr).symm
      next he =>
        rw [takeHead_of_sent (by rw [← hr]; exact he)]
        cases h <;> rfl
  | homing => exact (takeHead_of_commanded hr).symm
  | fault => exact (takeHead_of_commanded hr).symm

theorem tookFront_of_none {r : Head} {n : Serial} (h : frontOn r n = none) : tookFront r n = r := by
  rw [tookFront, h]

theorem tookFront_of_some {r : Head} {n : Serial} {e : PlanEntry} (h : frontOn r n = some e) :
    tookFront r n = ({ r with plan := r.plan.drop 1, executed := some e } : Head).sentFront := by
  rw [tookFront, h]
  rfl

theorem frontFor_eq (u : State) (h : HeadId) (n : Serial) : u.frontFor h n = frontOn (u.head h) n := by
  unfold State.frontFor frontOn
  cases (u.head h).plan with
  | nil => rfl
  | cons e l => simp [Option.filter]

/-- A head takes its front entry for serial n (R103). -/
theorem takeEntry_eq (u : State) (h : HeadId) (n : Serial) : takeEntry u h n = u.takeHead h (tookFront (u.head h) n) := by
  rw [takeEntry, frontFor_eq]
  cases hf : frontOn (u.head h) n with
  | none =>
    rw [tookFront_of_none hf]
    exact (takeHead_self u h).symm
  | some e =>
    rw [tookFront_of_some hf]
    exact sendFront_setHead rfl

theorem handed_of_empty {r : Head} (h : r.plan = []) (e : PlanEntry) : handed r e =
    ({ r with plan := r.plan ++ [e], reference := some { step := e.step, serial := e.serial } } : Head).sentFront := by
  unfold handed Head.sentFront
  rw [h]
  dsimp only
  cases hs : r.state with
  | ready => by_cases he : e.step = r.commanded <;> simp [he]
  | homing => simp
  | fault => simp

theorem handed_of_waiting {r : Head} (h : r.plan ≠ []) (e : PlanEntry) : handed r e =
    { r with plan := r.plan ++ [e], reference := some { step := e.step, serial := e.serial } } :=
  if_neg fun hno => h hno.2.1

/-- A head is handed an entry (R101, R102). -/
theorem appendEntry_eq (u : State) (h : HeadId) (e : PlanEntry) : appendEntry u h e = u.takeHead h (handed (u.head h) e) := by
  unfold appendEntry
  dsimp only
  by_cases hp : (u.head h).plan = []
  · rw [handed_of_empty hp, if_pos (by rw [hp]; rfl)]
    exact sendFront_setHead rfl
  · rw [handed_of_waiting hp, if_neg (by simpa using hp)]
    exact (takeHead_of_commanded (u := u) (h := h)
      (r := { u.head h with plan := (u.head h).plan ++ [e], reference := some { step := e.step, serial := e.serial } }) rfl).symm

/-- The plunge entries of a cut. -/
theorem takeEntries_cutEntries (u : State) (n : Serial) (c : Choice) : takeEntries u (cutEntries n c) =
    u.takeHeads (handed u.headSide { serial := n, step := c.headStep, plunge := true })
      (handed u.tailSide { serial := n, step := c.tailStep, plunge := true }) := by
  show appendEntry (appendEntry u .headSide _) .tailSide _ = _
  rw [appendEntry_eq, appendEntry_eq]
  rfl

/-- A head after the park test. -/
theorem takeEntries_parkEntry {s u v : State} {h : HeadId} (hv : TickOf s v) (hvh : v.head h = s.head h)
    (huh : u.head h = s.head h) :
    takeEntries u (v.parkEntry (lugAt s s.geometry.d) h) = u.takeHead h (parked s h) := by
  unfold State.parkEntry Head.parks parked
  rw [hvh, hv.limits]
  cases (s.head h).state with
  | ready => 
    cases (s.head h).reference with
    | none => exact huh ▸ (takeHead_self u h).symm
    | some ref =>
      dsimp only
      by_cases hp : s.limits.lpark ≤ (lugAt s s.geometry.d - ref.serial).toNat
      · rw [if_pos (decide_eq_true hp), if_pos hp, ← huh]
        exact appendEntry_eq ..
      · rw [if_neg (by simpa using hp), if_neg hp, ← huh]
        exact (takeHead_self u h).symm
  | homing => exact huh ▸ (takeHead_self u h).symm
  | fault => exact huh ▸ (takeHead_self u h).symm

/-- The heads after the park tests (R80). -/
theorem takeEntries_parks {s u : State} (ht : TickOf s u) (hh : ∀ h, u.head h = s.head h) :
    takeEntries u (u.parkEntry (lugAt s s.geometry.d) .headSide ++ u.parkEntry (lugAt s s.geometry.d) .tailSide) =
      u.takeHeads (parked s .headSide) (parked s .tailSide) := by
  have happend : ∀ l1 l2, takeEntries u (l1 ++ l2) = takeEntries (takeEntries u l1) l2 := fun l1 l2 => List.foldl_append
  rw [happend, takeEntries_parkEntry ht (hh _) (hh _),
    takeEntries_parkEntry (u := u.takeHead .headSide (parked s .headSide)) ht (hh .tailSide) (hh .tailSide)]
  rfl

/-! ## What the decision unit writes (R74, R91) -/

/-- t is s but for strip records, the calendar, counters and the bays, whose pending drops stay. -/
structure Routes (s t : State) : Prop where
  frame : t = { s with strips := t.strips, calendar := t.calendar, counters := t.counters, bays := t.bays }
  pending : ∀ k, (t.bay k).pendingDrop = (s.bay k).pendingDrop

namespace Routes

variable {s t : State} (h : Routes s t)

theorem refl (s : State) : Routes s s := ⟨rfl, fun _ => rfl⟩

include h

theorem bump (c : Counter) : Routes s (t.bump c) := ⟨by rw [h.frame]; rfl, h.pending⟩

theorem reserve (u : Serial) (c : Nat) : Routes s (t.reserve u c).1 := by
  obtain ⟨-, e⟩ | ⟨-, e⟩ := t.reserve_cases u c <;> rw [e]
  · exact ⟨by rw [h.frame]; rfl, h.pending⟩
  · exact h.bump _

theorem writeDecision (tag : Nat) (d : Decision) : Routes s (writeDecision t tag d) :=
  ⟨by rw [h.frame]; rfl, h.pending⟩

theorem firstGranted (m : Serial) (l : List BayId) : Routes s (firstGranted m t l).1 := by
  induction l generalizing t with
  | nil => exact h
  | cons k l ih =>
    unfold Machine.firstGranted
    dsimp only
    split
    · exact h.reserve _ _
    · exact ih (h.reserve _ _)

theorem commitStrip (k : BayId) (n : Serial) (tag band : Nat) : Routes s (commitStrip t k n tag band) := by
  refine ⟨by rw [h.frame]; rfl, fun j => (?_ : _ = (t.bay j).pendingDrop).trans (h.pending j)⟩
  unfold Machine.commitStrip
  by_cases hj : j = k
  · subst hj
    rw [State.bay_updBay, bay_updBundle]
  · rw [State.bay_updBay_ne _ hj, bay_updBundle_ne _ hj]

theorem routeStrip (n : Serial) (tag : Nat) (q : Grading) (c : Choice) : Routes s (routeStrip t n tag q c) := by
  unfold Machine.routeStrip
  dsimp only
  split
  · exact ((h.firstGranted _ _).commitStrip _ _ _ _).writeDecision _ _
  · exact (h.firstGranted _ _).writeDecision _ _

theorem carryOut (n : Serial) (tag : Nat) (q : Grading) (c : Choice) : Routes s (carryOut t n tag q c).1 := by
  unfold Machine.carryOut
  dsimp only
  split
  · exact (h.reserve _ _).routeStrip n tag q c
  · exact (h.reserve _ _).writeDecision _ _

theorem decideSlot (n : Serial) : Routes s (decideSlot t n).1 := by
  unfold Machine.decideSlot
  split
  · split
    · unfold decideStrip
      split
      · exact h.writeDecision _ _
      · unfold computeStrip
        dsimp only
        split
        · exact h.writeDecision _ _
        split
        · exact h.writeDecision _ _
        · exact h.carryOut _ _ _ _
    · exact h
  · exact List.foldlRecOn (motive := fun u => Routes s u) _ _ h fun u hu tag _ => hu.writeDecision tag _
  · exact h
  · exact h

end Routes

/-- A decision without a chosen option for the strips that a lug names. -/
theorem writeDecision_eq (u : State) (tag : Nat) (d : Decision) : writeDecision u tag d = State.bump { u with
    strips := u.strips.map fun r => if r.tag ∈ [tag] then { r with state := .decided, decision := some d } else r }
      (decidedCounter d.disposition) := by
  simp only [List.mem_singleton]
  rfl

theorem writeDecision_two (u : State) (a b : Nat) (d : Decision) : writeDecision (writeDecision u a d) b d =
    State.bumpBy { u with
      strips := u.strips.map fun r => if r.tag ∈ [a, b] then { r with state := .decided, decision := some d } else r }
        (decidedCounter d.disposition) 2 := by
  have hstrips : (u.strips.map fun r => if r.tag = a then { r with state := .decided, decision := some d } else r).map
      (fun r => if r.tag = b then { r with state := .decided, decision := some d } else r) =
      u.strips.map fun r => if r.tag ∈ [a, b] then { r with state := .decided, decision := some d } else r := by
    rw [List.map_map]
    refine List.map_congr_left fun r _ => ?_
    by_cases h1 : r.tag = a
    · simp only [Function.comp, if_pos h1, if_pos (show r.tag ∈ [a, b] from h1 ▸ List.mem_cons_self), ite_self]
    · simp only [Function.comp, h1, if_false, List.mem_cons, false_or, List.not_mem_nil, or_false]
  rw [← bumpBy_two, ← hstrips]
  rfl

/-- The decision of a strip that a pre-check decides (R75). -/
theorem decideSlot_of_preCheck {u : State} {n : Serial} {r : Strip} {d : Decision} (hk : (u.slot n).kind = .strip)
    (hn : ((u.slot n).named.head?).bind u.strip? = some r) (hd : u.preCheck r = some d) :
    decideSlot u n = (writeDecision u r.tag d, []) := by
  simp only [decideSlot, hk, hn, decideStrip, hd]

/-- A strip that passes the pre-checks (R77, R88). -/
theorem decideSlot_of_computed {u : State} {n : Serial} {r : Strip} (hk : (u.slot n).kind = .strip)
    (hn : ((u.slot n).named.head?).bind u.strip? = some r) (hd : u.preCheck r = none) :
    decideSlot u n = computeStrip u n r := by
  simp only [decideSlot, hk, hn, decideStrip, hd]

end Sys2Proof.Machine

namespace Sys2Proof.Claims

open Sys2Proof Sys2Proof.Machine

/-- Settles O33, by what the slot of the lug at D names. -/
theorem lugTickPreChecks : Obligations.LugTickPreChecks := by
  intro s hpin halone hload hlatch hplans n withHeads ends decided
  obtain ⟨h1, h2, h3, h4, h5, h6⟩ := offsets halone.geometry
  have hempty : ∀ j, j < 64 → j ≠ s.geometry.d → s.slot (lugAt s j) = { kind := .empty, named := [] } :=
    fun j hj hne => halone.slots _ (ringIdx_lugAt_ne s hj (by omega) hne)
  have hslot : (bareTick s).slot n = s.slot n := slot_bareTick_at s (by omega) (by omega)
  have hE : ((bareTick s).slot ((bareTick s).serialAt (bareTick s).geometry.e)).named = [] := by
    refine (congrArg LugSlot.named (slot_bareTick_at s (by omega) (by omega) : _ = s.slot (lugAt s s.geometry.e))).trans ?_
    rw [hempty _ (by omega) (by omega)]
  have hfront : ∀ h, (bareTick s).frontFor h ((bareTick s).serialAt (bareTick s).geometry.e) = none := fun h =>
    frontFor_eq_none fun e he => hplans h e (by cases h <;> exact he)
  -- the bays and the chain end stand still behind the stations
  have hrest : ∀ u es, decisionTick (bareTick s) = (u, es) → Decides n (bareTick s) u → Routes (bareTick s) u →
      exec .lugTick s = .next (takeEntries u es) := fun u es hu hdec hroute => by
    obtain ⟨-, hgeo, hchain, hbays⟩ := takeEntries_frame u es
    have hchain' : (takeEntries u es).chain = (bareTick s).chain :=
      hchain.trans (congrArg State.chain hroute.frame :)
    have ht : ∀ k, (takeEntries u es).serialAt k = lugAt s k := fun k => by
      rw [State.serialAt, hchain']
      rfl
    have hgeo' : (takeEntries u es).geometry = s.geometry := hgeo.trans hdec.geometry
    have hbay : ∀ k, (takeEntries u es).bay k = u.bay k := fun k => by
      rw [State.bay, hbays]
      rfl
    have hplanned : ∀ k, ∀ d ∈ (u.bay k).planned, d.serial = n := fun k d hd => by
      have hnone : ((bareTick s).bay k).planned = [] := (halone.bays k (by simp)).1
      obtain hp | ⟨j, e, he, hp⟩ := hdec.planned
      · rw [hp, hnone] at hd
        cases hd
      · rw [hp, hnone] at hd
        split at hd
        · rw [List.nil_append, List.mem_singleton] at hd
          rw [hd, he]
        · cases hd
    rw [exec_lugTick_bare hpin halone.homed hload hlatch halone.geometry (hempty _ (by omega) (by omega)),
      stationsTick_of_no_front hE hfront, hu, bayTicks_idle, chainEnd_idle]
    · rw [ht, hgeo', State.slot, hchain']
      exact (slot_bareTick_at s (by omega) h5 : _ = s.slot (lugAt s s.geometry.x)).trans (hempty _ h5 (by omega))
    · intro k _
      rw [hbay, hroute.pending]
      exact (halone.bays k (by simp)).2
    · intro k _ d hd
      rw [hbay] at hd
      rw [hplanned k d hd, ht, State.bayOffset, hgeo']
      obtain ⟨ha, hb⟩ := h6 k
      exact fun e => ringIdx_lugAt_ne s (j := s.geometry.d) (k := s.geometry.bays[k]) (by omega) (by omega) (by omega)
        (congrArg ringIdx e)
  have hdecides : ∀ u es, decideSlot (bareTick s) n = (u, es) → Decides n (bareTick s) u ∧ Routes (bareTick s) u ∧
      u.pulses = [] ∧ ∀ h, u.head h = s.head h := fun u es hu => by
    have hdec := (decideSlot_decides (bareTick s) n).1
    have hroute := (Routes.refl (bareTick s)).decideSlot n
    rw [hu] at hdec hroute
    exact ⟨hdec, hroute, (congrArg State.pulses hroute.frame :), fun h => (hdec.head h).trans (by cases h <;> rfl)⟩
  have htick : ∀ u es, decideSlot (bareTick s) n = (u, es) → decisionTick (bareTick s) =
      if es = [] then (u, u.parkEntry n .headSide ++ u.parkEntry n .tailSide) else (u, es) := fun u es hu => by
    have hu' : decideSlot (bareTick s) ((bareTick s).serialAt (bareTick s).geometry.d) = (u, es) := hu
    unfold decisionTick
    dsimp only
    rw [hu']
    rfl
  have hover : ∀ u r1 r2, u.pulses = [] → (∀ h, u.head h = s.head h) → u.takeHeads r1 r2 = withHeads u r1 r2 :=
    fun u r1 r2 hp hh => by
      rw [takeHeads_eq hp, show u.headSide = s.headSide from hh .headSide, show u.tailSide = s.tailSide from hh .tailSide]
  have hparks : ∀ u, decideSlot (bareTick s) n = (u, []) → ends u := fun u hu => by
    obtain ⟨hdec, hroute, hp, hh⟩ := hdecides u [] hu
    have hd := htick u [] hu
    rw [if_pos rfl] at hd
    refine (hrest u _ hd hdec hroute).trans ?_
    rw [takeEntries_parks ⟨hdec.serial, hdec.geometry, (congrArg State.limits hroute.frame :)⟩ hh, hover u _ _ hp hh]
  have hcut : ∀ u c, decideSlot (bareTick s) n = (u, cutEntries n c) → exec .lugTick s =
      .next (withHeads u (handed s.headSide { serial := n, step := c.headStep, plunge := true })
        (handed s.tailSide { serial := n, step := c.tailStep, plunge := true })) := fun u c hu => by
    obtain ⟨hdec, hroute, hp, hh⟩ := hdecides u _ hu
    have hd := htick u _ hu
    have hne : cutEntries n c ≠ [] := List.cons_ne_nil _ _
    rw [if_neg hne] at hd
    refine (hrest u _ hd hdec hroute).trans ?_
    rw [takeEntries_cutEntries, hover u _ _ hp hh, show u.headSide = s.headSide from hh .headSide,
      show u.tailSide = s.tailSide from hh .tailSide]
  refine ⟨fun hn => ?_, fun a b hk hn => ?_, fun a hk hn => ?_, fun a r hk hn hr => ?_⟩
  · exact hparks _ (decideSlot_idle (by rw [hslot]; exact hn))
  · have hd : decideSlot (bareTick s) n = ((decided [a, b] .faulted .doubled).bumpBy .decidedFaulted 2, []) := by
      simp only [decideSlot, hslot, hk, hn, List.foldl_cons, List.foldl_nil]
      exact congrArg (Prod.mk · []) (writeDecision_two (bareTick s) a b _)
    exact hparks _ hd
  · have hd : decideSlot (bareTick s) n = ((decided [a] .faulted .doubled).bump .decidedFaulted, []) := by
      simp only [decideSlot, hslot, hk, hn, List.foldl_cons, List.foldl_nil]
      exact congrArg (Prod.mk · []) (writeDecision_eq (bareTick s) a _)
    exact hparks _ hd
  · have htag : r.tag = a := strip?_tag hr
    have hkind : ((bareTick s).slot n).kind = .strip := by rw [hslot, hk]
    have hnamed : (((bareTick s).slot n).named.head?).bind (bareTick s).strip? = some r := by
      rw [hslot, hn]
      exact hr
    have hplain : ∀ d c, (bareTick s).preCheck r = some (plainDecision d c) → ends ((decided [a] d c).bump (decidedCounter d)) :=
      fun d c hd => hparks _ (by rw [decideSlot_of_preCheck hkind hnamed hd, htag, writeDecision_eq]; rfl)
    have hboth : (bareTick s).headsReady = true ↔ s.headSide.state = .ready ∧ s.tailSide.state = .ready := by
      rw [State.headsReady, Bool.and_eq_true, decide_eq_true_iff, decide_eq_true_iff]
      rfl
    intro tick forced
    have hpre : r.size = .normal → (forced ∨ (r.override = none ∧ ∃ q, r.report = some q ∧ q.moisture ≤ s.limits.moisture)) →
        tick.preCheck r = if tick.headsReady then none else some (plainDecision .uncut .headNotReady) := fun hs hpass => by
      rcases hpass with ⟨g, hg⟩ | ⟨ho, q, hq, hm⟩
      · simp [State.preCheck, hs, hg, forcedGrade]
      · have hm' : ¬ tick.limits.moisture < q.moisture := not_lt.mpr hm
        simp [State.preCheck, hs, ho, hq, forcedGrade, hm']
    refine ⟨fun hs => ?_, fun hs ho => ?_, fun hs ho hq => ?_, fun q hs ho hq hm => ?_, fun hs hpass => ⟨fun hready => ?_, fun hh ht => ?_⟩⟩
    · exact hplain _ _ (if_pos hs)
    · refine hplain _ _ ?_
      rw [State.preCheck, if_neg (not_not.mpr hs), if_pos ho]
    · refine hplain _ _ ?_
      simp [State.preCheck, hs, ho, hq, forcedGrade]
    · refine hplain _ _ ?_
      have hm' : (bareTick s).limits.moisture < q.moisture := hm
      simp [State.preCheck, hs, ho, hq, forcedGrade, hm']
    · exact hplain _ _ ((hpre hs hpass).trans (if_neg fun h => hready.elim (· (hboth.mp h).1) (· (hboth.mp h).2)))
    · have hd : decideSlot (bareTick s) n = computeStrip tick n r :=
        decideSlot_of_computed hkind hnamed ((hpre hs hpass).trans (if_pos (hboth.mpr ⟨hh, ht⟩)))
      have hwrite : ∀ d c, computeStrip tick n r = (writeDecision tick r.tag (plainDecision d c), []) →
          ends ((decided [a] d c).bump (decidedCounter d)) := fun d c he =>
        hparks _ (by rw [hd, he, htag, writeDecision_eq]; rfl)
      refine ⟨fun hrank => hwrite _ _ ?_, fun o hrank => ⟨fun hg => hwrite _ _ ?_, fun g hg => ?_⟩⟩
      · simp only [computeStrip, hrank]
      · simp only [computeStrip, hrank, hg]
      · intro c u
        have hcarry : decideSlot (bareTick s) n = carryOut tick n a r.grading c := by
          rw [hd]
          simp only [computeStrip, hrank, hg, htag]
          rfl
        cases hair : tick.airFits (n + BitVec.ofNat 32 s.geometry.e) 2 with
        | true =>
          rw [if_pos rfl]
          refine hcut u c (hcarry.trans ?_)
          simp only [u]
          rw [carryOut_of_granted (s := tick) hair]
        | false =>
          rw [if_neg (by decide)]
          refine hparks u (hcarry.trans ?_)
          simp only [u]
          rw [carryOut_of_refused (s := tick) hair]

end Sys2Proof.Claims
end

section
set_option Elab.async false
/-! PROOF. What a bay's completion test leaves unchanged, and RESET TRACKING (O55). -/

namespace Sys2Proof.Machine

open Sys2Proof Claims

/-! ## What the completion test of a bay leaves (R133) -/

/-- t is s but for bay k, whose drops stay, the books and the counters named. -/
structure AtBay (l : List Counter) (k : BayId) (s t : State) : Prop where
  kept : KeptBut l s t
  others : ∀ j, j ≠ k → t.bay j = s.bay j
  planned : (t.bay k).planned = (s.bay k).planned
  pending : (t.bay k).pendingDrop = (s.bay k).pendingDrop

namespace AtBay

variable {l : List Counter} {k : BayId} {s t u : State}

theorem refl (l : List Counter) (k : BayId) (s : State) : AtBay l k s s := ⟨.refl l s, fun _ _ => rfl, rfl, rfl⟩

theorem trans (h1 : AtBay l k s t) (h2 : AtBay l k t u) : AtBay l k s u :=
  ⟨h1.kept.trans h2.kept, fun j hj => (h2.others j hj).trans (h1.others j hj), h2.planned.trans h1.planned,
    h2.pending.trans h1.pending⟩

theorem mono {l' : List Counter} (h : AtBay l k s t) (hl : l ⊆ l') : AtBay l' k s t := { h with kept := h.kept.mono hl }

/-- No bay is written. -/
theorem of_bays (h : KeptBut l s t) (hb : ∀ j, t.bay j = s.bay j) (k : BayId) : AtBay l k s t :=
  ⟨h, fun j _ => hb j, by rw [hb], by rw [hb]⟩

theorem updBay (s : State) (k : BayId) {f : Bay → Bay} (hf : ∀ b, (f b).planned = b.planned ∧ (f b).pendingDrop = b.pendingDrop) :
    AtBay l k s (s.updBay k f) := by
  refine ⟨.updBay s k f, fun j hj => State.bay_updBay_ne s hj f, ?_, ?_⟩ <;> rw [State.bay_updBay]
  exacts [(hf _).1, (hf _).2]

theorem bump (s : State) {c : Counter} (hc : c ∈ l) (k : BayId) : AtBay l k s (s.bump c) := of_bays (.bump s hc) (fun _ => rfl) k

end AtBay

theorem placeFreed_keptBut (l : List Counter) (s : State) : KeptBut l s (placeFreed s) := by
  obtain h | ⟨-, h⟩ := placeFreed_cases s <;> rw [h]
  · exact .refl l s
  · exact .write s s.bays s.bundleSerial s.orders.table s.orders.queue _

/-- The counters of a bay that enters EMPTY. -/
abbrev openingCounters : List Counter := [.bundlesOpened, .ordersCompleted]

/-- The counters of a bundle that closes empty. -/
abbrev emptyingCounters : List Counter := [.bundlesClosedEmpty, .bundlesOpened, .ordersCompleted]

/-- The counters of a completion test. -/
abbrev testCounters : List Counter := [.bundlesShort, .bundlesClosedEmpty, .bundlesOpened, .ordersCompleted]

theorem openBundle_atBay (s : State) (k : BayId) : AtBay openingCounters k s (openBundle s k) := by
  obtain h | ⟨e, rest, copy, hq, hr⟩ := openBundle_cases s k
  · rw [h]
    exact .refl _ k s
  · simp only [openBundle, hq, hr]
    generalize ((s.updOrder e.order fun o => { o with opened := o.opened + 1 }).order? e.order).map (·.opened) = n
    have hwrite : AtBay openingCounters k s { s.updOrder e.order fun o => { o with opened := o.opened + 1 } with
        orders := { (s.updOrder e.order fun o => { o with opened := o.opened + 1 }).orders with queue := rest }
        bundleSerial := nextBundleSerial s.freeBundleSerial } :=
      .of_bays (.write s s.bays _ _ rest s.orders.interp) (fun _ => rfl) k
    refine ((hwrite.trans (.updBay _ k (f := fun b => { b with
      state := .filling, starved := false
      bundle := some (newBundle s.freeBundleSerial e.order e.recipe copy (n.getD 0)) }) fun b => ⟨rfl, rfl⟩)).trans (.bump _ List.mem_cons_self k)).trans ?_
    exact (AtBay.of_bays (placeFreed_keptBut _ _) (fun j => bay_placeFreed _ j) k).trans
      (.of_bays (l := openingCounters) ((orderTest_keptBut _ _).mono (by simp)) (fun j => bay_orderTest _ _ j) k)

theorem enterEmpty_atBay (s : State) (k : BayId) : AtBay openingCounters k s (enterEmpty s k) := by
  have hemptied : AtBay openingCounters k s (s.updBay k fun b =>
      { b with state := .empty, origin := none, bundle := none, settleTimer := none }) := .updBay s k fun b => ⟨rfl, rfl⟩
  obtain ⟨-, h⟩ | ⟨-, -, h⟩ | ⟨-, h⟩ := enterEmpty_cases s k <;> rw [h]
  · exact hemptied.trans (openBundle_atBay _ k)
  · exact hemptied
  · exact (hemptied.trans (.of_bays (.raise _ (.inl rfl)) (fun _ => rfl) k)).trans (.updBay _ k fun b => ⟨rfl, rfl⟩)

theorem closeEmpty_atBay (s : State) (k : BayId) (id : Nat) (test : Bool) : AtBay emptyingCounters k s (closeEmpty s k id test) := by
  have hclosed : AtBay emptyingCounters k s (s.updOrder id fun o => { o with closedEmpty := o.closedEmpty + 1 }) :=
    .of_bays (.updOrder s id _) (fun _ => rfl) k
  have htested : AtBay emptyingCounters k s (if test then orderTest (s.updOrder id fun o =>
      { o with closedEmpty := o.closedEmpty + 1 }) id else s.updOrder id fun o => { o with closedEmpty := o.closedEmpty + 1 }) := by
    split
    · exact hclosed.trans (.of_bays ((orderTest_keptBut _ id).mono (by simp)) (fun j => bay_orderTest _ id j) k)
    · exact hclosed
  exact (htested.trans (.bump _ List.mem_cons_self k)).trans ((enterEmpty_atBay _ k).mono (by simp))

theorem startSettle_atBay (l : List Counter) (s : State) (k : BayId) : AtBay l k s (startSettle s k) :=
  .updBay s k fun _ => ⟨rfl, rfl⟩

theorem completionTest_atBay (s : State) (k : BayId) (test : Bool) : AtBay testCounters k s (completionTest s k test) := by
  obtain h | ⟨b, -, -, -, ⟨-, h⟩ | ⟨-, -, -, h⟩ | ⟨-, -, -, h⟩⟩ := completionTest_cases s k test <;> rw [h]
  · exact .refl _ k s
  · exact startSettle_atBay _ s k
  · have hshort : AtBay testCounters k s (s.updBundle k fun b => { b with short := true }) := .updBay s k fun _ => ⟨rfl, rfl⟩
    exact (hshort.trans (.bump _ List.mem_cons_self k)).trans (startSettle_atBay _ _ k)
  · exact (closeEmpty_atBay s k b.order test).mono (by simp)

/-! ## Heads, pulses and the recorded cause beside a completion test -/

/-- x with other heads, pulses and another reset cause. -/
def State.over (x : State) (r1 r2 : Head) (p : List Pulse) (c : ResetCause) : State :=
  { x with headSide := r1, tailSide := r2, pulses := p, link := { x.link with cause := c } }

section Over

variable {r1 r2 : Head} {p : List Pulse} {c : ResetCause}

theorem KeptBut.over {l : List Counter} {u t : State} (h : KeptBut l u t) : KeptBut l (u.over r1 r2 p c) (t.over r1 r2 p c) :=
  ⟨congrArg (·.over r1 r2 p c) h.frame, h.noneLost, h.noneElse, h.counts⟩

theorem tested_over (u : State) (k : BayId) (bay : Bay) (b : Bundle) :
    tested (u.over r1 r2 p c) k bay b = (tested u k bay b).over r1 r2 p c := by
  unfold tested
  dsimp only
  split
  · rfl
  · split <;> rfl

theorem emptyClosed_over (u : State) (id : Nat) : emptyClosed (u.over r1 r2 p c) id = (emptyClosed u id).over r1 r2 p c := by
  unfold emptyClosed
  dsimp only
  have horder : (u.over r1 r2 p c).order? id = u.order? id := rfl
  have hqueue : (u.over r1 r2 p c).orders.queue = u.orders.queue := rfl
  rw [horder, hqueue]
  split
  · split <;> rfl
  · split <;> rfl

theorem entersEmpty_over {v t : State} {k : BayId} {bay : Bay} (h : EntersEmpty v k bay t) :
    EntersEmpty (v.over r1 r2 p c) k bay (t.over r1 r2 p c) := by
  refine ⟨fun hq => ?_, fun e rest copy o hq hr ho hle h1 h2 hl => ?_⟩
  · rw [h.1 hq]
    split <;> rfl
  · obtain ⟨serial, hfresh, ht⟩ := h.2 e rest copy o hq hr ho hle h1 h2 hl
    exact ⟨serial, hfresh, by rw [ht]; rfl⟩

/-- A completion test neither reads nor writes heads, pulses and the recorded cause. -/
theorem afterTest_over {u t : State} {k : BayId} {bay : Bay} {b : Bundle} (h : AfterTest u k bay b t) :
    AfterTest (u.over r1 r2 p c) k bay b (t.over r1 r2 p c) := by
  refine ⟨fun hopen => ?_, fun hclose => ?_⟩
  · rw [h.1 hopen, tested_over]
  · rw [emptyClosed_over]
    exact entersEmpty_over (h.2 hclose)

end Over

/-! ## The completion tests in turn -/

theorem testBays_kept (l : List BayId) (w : State) : KeptBut testCounters w (testBays true l w) ∧
    ∀ k, k ∉ l → (testBays true l w).bay k = w.bay k := by
  induction l generalizing w with
  | nil => exact ⟨.refl _ w, fun _ _ => rfl⟩
  | cons j l ih =>
    have hj := completionTest_atBay w j true
    obtain ⟨hkept, hbay⟩ := ih (completionTest w j true)
    refine ⟨hj.kept.trans hkept, fun k hk => ?_⟩
    obtain ⟨hkj, hkl⟩ := not_or.mp (fun h => hk (List.mem_cons.mpr h))
    exact (hbay k hkl).trans (hj.others k hkj)

/-- The completion test of a bay's bundle in place. -/
theorem completionTest_afterTest_self {x : State} {k : BayId} {b : Bundle} (hb : (x.bay k).bundle = some b) :
    AfterTest x k (x.bay k) b (completionTest x k true) := by
  have h := completionTest_afterTest x k (x.bay k) b
  rwa [← hb, withBay_self] at h

/-! ## The wood forgotten (R204) -/

theorem foldl_updBay (f : Bay → Bay) (l : List BayId) (hl : l.Nodup) (v : State) : l.foldl (fun s k => s.updBay k f) v =
    { v with bays := Vector.ofFn fun k => if k ∈ l then f v.bays[k] else v.bays[k] } := by
  induction l generalizing v with
  | nil => 
    have hbays : (Vector.ofFn fun k : BayId => v.bays[k]) = v.bays := by
      ext j hj
      simp
    simp only [List.foldl_nil, List.not_mem_nil, if_false, hbays]
  | cons j l ih =>
    obtain ⟨hj, hl⟩ := List.nodup_cons.mp hl
    rw [List.foldl_cons, ih hl]
    refine congrArg (fun w => { v with bays := w }) (Vector.ext fun i hi => ?_)
    rw [Vector.getElem_ofFn, Vector.getElem_ofFn]
    by_cases hij : (⟨i, hi⟩ : BayId) = j
    · subst hij
      rw [if_neg hj, if_pos List.mem_cons_self]
      exact State.bay_updBay v _ f
    · have hbay : (v.updBay j f).bay ⟨i, hi⟩ = v.bay ⟨i, hi⟩ := State.bay_updBay_ne v hij f
      have hmem : (⟨i, hi⟩ : BayId) ∈ j :: l ↔ (⟨i, hi⟩ : BayId) ∈ l := by simp [hij]
      simp only [hmem]
      exact congrArg (fun r => if (⟨i, hi⟩ : BayId) ∈ l then f r else r) hbay

theorem foldl_dropCommitments (v : State) : allBays.foldl dropCommitments v = { v with
    bays := Vector.ofFn fun k => { v.bays[k] with
      planned := [], pendingDrop := none, bundle := v.bays[k].bundle.map Bundle.uncommitted } } := by
  have hall : ∀ k : BayId, k ∈ allBays := mem_allBays
  refine (foldl_updBay _ allBays (by decide) v).trans ?_
  simp only [hall, if_true]

/-- The moulder once no strip stands before its exit (R30, R39). -/
def Moulder.drained (m : Moulder) (s : State) : Moulder :=
  match m.state, m.next with
  | .draining, some q => if q.change = 0 then { m with state := .running, current := installed s q, next := none }
    else { m with state := .changeover }
  | _, _ => m

theorem drainTest_of_no_strip {v : State} (h : v.strips = []) : drainTest v = { v with moulder := v.moulder.drained v } := by
  have hnone : ∀ r ∈ v.strips, v.isOldRun r = false := by simp [h]
  by_cases hm : v.moulder.state = .draining
  · cases hq : v.moulder.next with
    | some q =>
      rw [drainTest_of_clear hm hq hnone]
      simp only [Moulder.drained, hm, hq]
    | none =>
      simp only [Moulder.drained, hm, hq]
      unfold drainTest drainComplete
      rw [hq, ite_self]
  · rw [drainTest_of_not_draining hm]
    unfold Moulder.drained
    split
    next q hst hq => exact absurd hst hm
    next => rfl

/-- The strobes of a head that is reset. -/
def resetPulses (r : Head) (h : HeadId) : List Pulse := if r.state = .ready then [.step h 0] else []

theorem pulses_resetHead (v : State) (h : HeadId) : (resetHead v h).pulses = v.pulses ++ resetPulses (v.head h) h := by
  unfold resetPulses
  by_cases hs : (v.head h).state = .ready
  · rw [resetHead_ready hs, if_pos hs]
    cases h <;> rfl
  · rw [resetHead_other hs, if_neg hs, List.append_nil]
    cases h <;> rfl

theorem resetHeads_eq (v : State) : resetHeads v = { v with
    headSide := v.headSide.wasReset, tailSide := v.tailSide.wasReset
    pulses := v.pulses ++ resetPulses v.headSide .headSide ++ resetPulses v.tailSide .tailSide
    calendar := Vector.ofFn fun i => { v.calendar[i] with planned := 0 } } := by
  have hh : (resetHead (resetHead v .headSide) .tailSide).headSide = v.headSide.wasReset := head_resetHeads v .headSide
  have ht : (resetHead (resetHead v .headSide) .tailSide).tailSide = v.tailSide.wasReset := head_resetHeads v .tailSide
  have htail : (resetHead v .headSide).head .tailSide = v.tailSide := head_resetHead_ne v (by decide)
  have hp : (resetHead (resetHead v .headSide) .tailSide).pulses =
      v.pulses ++ resetPulses v.headSide .headSide ++ resetPulses v.tailSide .tailSide := by
    rw [pulses_resetHead, htail, pulses_resetHead]
    rfl
  have hframe := resetHead_frame (resetHead v .headSide) .tailSide
  rw [hh, ht, hp] at hframe
  rw [resetHeads, hframe, resetHead_frame v .headSide]
  rfl

/-- The part before the bays apply their completion tests. -/
def State.unloaded (v : State) : State :=
  allBays.foldl dropCommitments (resetHeads (resetChain (resetMatcher (resetLineal v))))

theorem unloaded_eq (v : State) : v.unloaded = { v with
    strips := []
    lineal := { v.lineal with queue := [], passage := v.lineal.passage.map fun a => { a with tag := none } }
    matcher := { v.matcher with buffer := [], matching := false }
    chain := { v.chain with slots := Vector.replicate 64 .clear, load := [] }
    moulder := v.moulder.drained v
    headSide := v.headSide.wasReset, tailSide := v.tailSide.wasReset
    pulses := v.pulses ++ resetPulses v.headSide .headSide ++ resetPulses v.tailSide .tailSide
    calendar := Vector.ofFn fun i => { v.calendar[i] with planned := 0 }
    bays := Vector.ofFn fun k => { v.bays[k] with
      planned := [], pendingDrop := none, bundle := v.bays[k].bundle.map Bundle.uncommitted } } := by
  rw [State.unloaded, foldl_dropCommitments, resetHeads_eq, resetLineal, drainTest_of_no_strip rfl]
  rfl

/-- What the claims name forgotten is the unloaded part with its cause recorded. -/
theorem forgotten_eq (s : State) : forgotten s =
    { (found s).unloaded with link := { (found s).link with cause := .tracking } } := by
  have hlineal : (found s).lineal = s.lineal := by rw [found_eq]
  have hinstalled : ∀ q, installed (found s) q = installed s q := fun q => by rw [installed, found_moulder]; rfl
  rw [unloaded_eq]
  simp only [Moulder.drained, hinstalled, found_moulder, found_pulses, found_matcher, found_chain, found_headSide,
    found_tailSide, found_calendar, found_bays, hlineal, List.nil_append] <;> rfl

/-- w with the cause of RESET TRACKING recorded. -/
def State.recorded (w : State) : State := w.updLink fun l => { l with cause := .tracking }

theorem recorded_eq (w : State) : w.recorded = w.over w.headSide w.tailSide w.pulses .tracking := rfl

/-- The completion tests of the first n bays, in ascending number. -/
def testedFirst (w : State) (n : Nat) : State := testBays true (allBays.take n) w

theorem testedFirst_succ (w : State) (k : BayId) : testedFirst w (k.val + 1) = completionTest (testedFirst w k.val) k true := by
  have htake : ∀ k : BayId, allBays.take (k.val + 1) = allBays.take k.val ++ [k] := by decide
  rw [testedFirst, htake, testBays, List.foldl_append]
  rfl

theorem bay_testedFirst (w : State) (k : BayId) : (testedFirst w k.val).bay k = w.bay k := by
  have hnot : ∀ k : BayId, k ∉ allBays.take k.val := by decide
  exact (testBays_kept _ w).2 k (hnot k)

/-- One test in the chain of eight, with the cause recorded. -/
theorem testedFirst_step (w : State) (k : BayId) :
    ((w.bay k).state ≠ .filling ∨ (w.bay k).bundle = none →
      (testedFirst w (k.val + 1)).recorded = (testedFirst w k.val).recorded) ∧
    ∀ b, (w.bay k).bundle = some b →
      AfterTest (testedFirst w k.val).recorded k (w.bay k) b (testedFirst w (k.val + 1)).recorded ∧
      (ClosesEmpty (w.bay k) b → KeptBut emptyingCounters (testedFirst w k.val).recorded (testedFirst w (k.val + 1)).recorded) := by
  have hbay := bay_testedFirst w k
  rw [testedFirst_succ]
  generalize testedFirst w k.val = x at hbay ⊢
  rw [← hbay]
  have hframe : ∀ {l}, KeptBut l x (completionTest x k true) →
      (completionTest x k true).recorded = (completionTest x k true).over x.headSide x.tailSide x.pulses .tracking := fun h => by
    rw [h.frame]
    rfl
  refine ⟨fun h => congrArg State.recorded ?_, fun b hb => ⟨?_, fun hclose => ?_⟩⟩
  · rcases h with h | h
    · exact completionTest_of_not_filling x h true
    · exact completionTest_of_kept (fun b hb => by rw [h] at hb; cases hb) true
  · rw [hframe (completionTest_atBay x k true).kept, recorded_eq]
    exact afterTest_over (completionTest_afterTest_self hb)
  · obtain ⟨hst, hc, hd, hu, hcl, ht⟩ := hclose
    have h0 : b.total = 0 := by rw [Bundle.total]; omega
    have hempty : completionTest x k true = closeEmpty x k b.order true :=
      completionTest_of_empty hst hb true hc hcl h0 ht
    have hkept := hempty ▸ (closeEmpty_atBay x k b.order true).kept
    rw [hframe hkept, recorded_eq]
    exact KeptBut.over hkept

end Sys2Proof.Machine

namespace Sys2Proof.Claims

open Sys2Proof Sys2Proof.Machine

/-- Settles O55: the part unloaded, then a completion test for each bay in turn. -/
theorem resetTrackingClearsTheTracking : Obligations.ResetTrackingClearsTheTracking := by
  intro s hr u
  have hu : u = (found s).unloaded.recorded := by
    refine (forgotten_eq s).trans ?_
    rw [unloaded_eq]
    rfl
  clear_value u
  subst hu
  generalize hw : (found s).unloaded = w
  refine ⟨fun n => (testedFirst w n).recorded, ?_, rfl, ?_, testedFirst_step w⟩
  · refine exec_taken (f := resetTracking) rfl hr rfl ?_
    rw [← hw]
    rfl
  · have hkept := (testBays_kept (allBays.take 8) w).1
    have hrecorded : (testedFirst w 8).recorded = (testedFirst w 8).over w.headSide w.tailSide w.pulses .tracking := by
      rw [testedFirst, hkept.frame]
      rfl
    dsimp only
    rw [hrecorded, recorded_eq]
    exact KeptBut.over hkept

end Sys2Proof.Claims
end

section
set_option Elab.async false
/-! PROOF. The end-match tick (O37). -/

namespace Sys2Proof.Machine

open Sys2Proof Claims

/-! ## What the front entries say (R103 to R105) -/

theorem isPlunge_eq (o : Option PlanEntry) : isPlunge o = o.any (·.plunge) := by cases o <;> rfl

theorem sentFront_kept (r : Head) : r.sentFront.state = r.state ∧ r.sentFront.reference = r.reference := by
  unfold Head.sentFront
  split
  · split <;> exact ⟨rfl, rfl⟩
  · exact ⟨rfl, rfl⟩

theorem tookFront_kept (r : Head) (n : Serial) : (tookFront r n).state = r.state ∧ (tookFront r n).reference = r.reference := by
  cases h : frontOn r n with
  | none =>
    rw [tookFront_of_none h]
    exact ⟨rfl, rfl⟩
  | some e =>
    rw [tookFront_of_some h]
    exact sentFront_kept _

theorem cutsAt_iff (u : State) (n : Serial) : u.cutsAt n = true ↔
    (frontOn u.headSide n).any (·.plunge) = true ∧ (frontOn u.tailSide n).any (·.plunge) = true ∧
      u.headSide.inPosition = true ∧ u.tailSide.inPosition = true := by
  simp only [State.cutsAt, frontFor_eq, isPlunge_eq, Bool.and_eq_true, and_assoc]
  rfl

theorem lateAt_iff (u : State) (n : Serial) : u.lateAt n = true ↔
    ((frontOn u.headSide n).any (·.plunge) = true ∨ (frontOn u.tailSide n).any (·.plunge) = true) ∧ ¬ u.cutsAt n = true := by
  simp only [State.lateAt, frontFor_eq, isPlunge_eq, Bool.and_eq_true, Bool.or_eq_true, Bool.not_eq_true', Bool.not_eq_true]
  rfl

/-! ## The station at work on one strip (R103) -/

/-- The heads take their entries behind the outcome. -/
theorem endMatchTick_of_one {u : State} {a : Nat} {n : Serial} (hn : u.serialAt u.geometry.e = n)
    (hslot : (u.slot n).named = [a]) : endMatchTick u =
      let v := endMatchOutcome (trimStrip u a) n
      v.takeHeads (tookFront v.headSide n) (tookFront v.tailSide n) := by
  subst hn
  unfold endMatchTick
  dsimp only
  rw [hslot, List.foldl_cons, List.foldl_nil, takeEntry_eq, takeEntry_eq]
  rfl

/-- Both saws plunge (R104). -/
theorem makeCut_eq {u : State} {n tick : Serial} (h : n + BitVec.ofNat 32 u.geometry.e = tick) : makeCut u n = State.bump { u with
    pulses := u.pulses ++ [.plunge .headSide] ++ [.plunge .tailSide]
    calendar := u.calendar.set (ringIdx tick) { planned := (u.calEntry tick).planned - 2, made := (u.calEntry tick).made + 2 } }
      .cuts := by
  subst h
  rfl

theorem freeStarts_eq (u : State) (q : Serial) (c : Nat) : u.freeStarts q c = { u with
    calendar := u.calendar.set (ringIdx q) { u.calEntry q with planned := (u.calEntry q).planned - c } } := rfl

theorem lostDrops_of_bays {s t : State} (h : t.bays = s.bays) : lostDrops s t = [] := by
  refine List.filter_eq_nil_iff.mpr fun k _ => ?_
  rw [State.bay, State.bay, h]
  simp

/-- A late strip without a planned drop (R105). -/
theorem latePosition_of_no_drop {u : State} {a : Nat} {n : Serial} (hslot : (u.slot n).named = [a])
    (h : (u.freeStarts (n + BitVec.ofNat 32 u.geometry.e) 2).plannedDrop? a = none) : latePosition u n =
      ((u.freeStarts (n + BitVec.ofNat 32 u.geometry.e) 2).updStrip a (·.uncut .latePosition)).bump .latePosition := by
  unfold latePosition
  dsimp only
  rw [hslot, List.foldl_cons, List.foldl_nil, loseCut_of_no_drop h, lostDrops_of_bays (by rfl)]
  rfl

/-- A late strip with a planned drop: its bay applies the completion test (R105, R132). -/
theorem latePosition_of_drop {u : State} {a : Nat} {n : Serial} {k : BayId} {q : PlannedDrop} (hslot : (u.slot n).named = [a])
    (h : (u.freeStarts (n + BitVec.ofNat 32 u.geometry.e) 2).plannedDrop? a = some (k, q)) (hp : (u.bay k).planned = [q]) :
    latePosition u n = completionTest (((cancelPlanned (u.freeStarts (n + BitVec.ofNat 32 u.geometry.e) 2) k q).updStrip a
      (·.uncut .latePosition)).bump .latePosition) k true := by
  have hlost : lostDrops u (((cancelPlanned (u.freeStarts (n + BitVec.ofNat 32 u.geometry.e) 2) k q).updStrip a
      (·.uncut .latePosition)).bump .latePosition) = [k] := by
    rw [cancelPlanned_eq]
    refine lostDrops_one ?_ fun j hj => ?_
    · refine (congrArg (fun r : Bay => r.planned.length) (bay_withBay _ k _) : _).trans_lt ?_
      dsimp only
      rw [show (u.freeStarts (n + BitVec.ofNat 32 u.geometry.e) 2).bay k = u.bay k from rfl, hp]
      simp
    · exact congrArg Bay.planned (bay_withBay_ne _ hj _)
  unfold latePosition
  dsimp only
  rw [hslot, List.foldl_cons, List.foldl_nil, loseCut_of_drop h, hlost]
  rfl

theorem strip?_updStrip {u : State} {tag : Nat} {r : Strip} {f : Strip → Strip} (hf : ∀ x, (f x).tag = x.tag)
    (h : u.strip? tag = some r) : (u.updStrip tag f).strip? tag = some (f r) := by
  have htag : r.tag = tag := strip?_tag h
  have hfind : (fun x : Strip => x.tag == tag) ∘ (fun x => if x.tag = tag then f x else x) = fun x => x.tag == tag :=
    funext fun x => by
      by_cases hx : x.tag = tag <;> simp [hx, hf]
  rw [State.strip?, State.updStrip, List.find?_map]
  show (u.strips.find? ((fun x : Strip => x.tag == tag) ∘ _)).map _ = _
  rw [hfind]
  refine (congrArg (Option.map _) h).trans ?_
  rw [Option.map_some, if_pos htag]

theorem updStrip_updStrip (u : State) {tag : Nat} {f g : Strip → Strip} (hf : ∀ x, (f x).tag = x.tag) :
    (u.updStrip tag f).updStrip tag g = u.updStrip tag fun x => g (f x) := by
  have hstrips : (u.strips.map fun x => if x.tag = tag then f x else x).map (fun x => if x.tag = tag then g x else x) =
      u.strips.map fun x => if x.tag = tag then g (f x) else x := by
    rw [List.map_map]
    refine List.map_congr_left fun x _ => ?_
    by_cases hx : x.tag = tag
    · simp only [Function.comp, if_pos hx, hf]
    · simp only [Function.comp, if_neg hx]
  exact congrArg (fun l => { u with strips := l }) hstrips

theorem takeHeads_of_pulses {u : State} {l : List Pulse} (hp : u.pulses = l) (r1 r2 : Head) : u.takeHeads r1 r2 = { u with
    headSide := r1, tailSide := r2
    pulses := l ++ (strobe .headSide u.headSide r1 ++ strobe .tailSide u.tailSide r2) } := by
  have hl : u.pulses ++ strobe .headSide u.headSide r1 ++ strobe .tailSide u.tailSide r2 =
      l ++ (strobe .headSide u.headSide r1 ++ strobe .tailSide u.tailSide r2) := by rw [hp, List.append_assoc]
  exact congrArg (fun l => { u with headSide := r1, tailSide := r2, pulses := l }) hl

/-! ## The order of the two stations (log entry 13) -/

theorem decideAndMatch_idle {u w : State} (first : Bool) (hu : decisionTick u = (u, [])) (hw : endMatchTick u = w)
    (hd : decisionTick w = (w, [])) : decideAndMatch first u = w := by
  unfold decideAndMatch
  cases first with
  | true =>
    rw [if_pos rfl, hu]
    exact hw
  | false =>
    rw [if_neg (by decide), hw, hd]
    rfl

/-- u is s at the tick, with heads that park as before and no drop due but those of the lug at E. -/
structure EndMatched (s u : State) : Prop where
  tick : TickOf s u
  slots : u.chain.slots = (bareTick s).chain.slots
  heads : ∀ h, (u.head h).state = (s.head h).state ∧ (u.head h).reference = (s.head h).reference
  drops : ∀ k, (u.bay k).pendingDrop = none ∧ ∀ d ∈ (u.bay k).planned, d.serial = lugAt s s.geometry.e

theorem EndMatched.takeHeads {s u : State} (h : EndMatched s u) (hh : u.headSide = s.headSide) (ht : u.tailSide = s.tailSide)
    (n : Serial) : EndMatched s (u.takeHeads (tookFront u.headSide n) (tookFront u.tailSide n)) where
  tick := ⟨h.tick.serial, h.tick.geometry, h.tick.limits⟩
  slots := h.slots
  heads g := by
    cases g with
    | headSide => exact hh ▸ tookFront_kept u.headSide n
    | tailSide => exact ht ▸ tookFront_kept u.tailSide n
  drops := h.drops

end Sys2Proof.Machine

namespace Sys2Proof.Claims

open Sys2Proof Sys2Proof.Machine

/-- Settles O37, by what the front entries of the heads say. -/
theorem lugTickCutsOrIsLate : Obligations.LugTickCutsOrIsLate := by
  intro s a r d dropping hpin halone hpark hload hlatch n tick hkind hnamed hr hst hd hdrop plunges one cut was trimmed uncut
    t freed late
  obtain ⟨h1, h2, h3, h4, h5, h6⟩ := offsets halone.geometry
  have hempty : ∀ j, j < 64 → j ≠ s.geometry.e → s.slot (lugAt s j) = { kind := .empty, named := [] } :=
    fun j hj hne => halone.slots _ (ringIdx_lugAt_ne s hj (by omega) hne)
  have htick : n + BitVec.ofNat 32 s.geometry.e = tick := by
    show s.chain.serial + 1 - _ + _ = _
    exact BitVec.sub_add_cancel _ _
  have hdrops : ∀ k, (s.bay k).pendingDrop = none ∧ ∀ q ∈ (s.bay k).planned, q.serial = n := fun k => by
    by_cases hk : dropping = some k
    · obtain ⟨hp, hpend⟩ := hdrop k hk
      refine ⟨hpend, fun q hq => ?_⟩
      rw [hp, List.mem_singleton] at hq
      rw [hq]
    · obtain ⟨hp, hpend⟩ := halone.bays k (fun e => hk e.symm)
      refine ⟨hpend, fun q hq => ?_⟩
      rw [hp] at hq
      cases hq
  have hbare : EndMatched s (bareTick s) := ⟨⟨rfl, rfl, rfl⟩, rfl, fun h => by cases h <;> exact ⟨rfl, rfl⟩, hdrops⟩
  have hdecision : ∀ {u}, EndMatched s u → decisionTick u = (u, []) := fun {u} hu => by
    refine decisionTick_idle ?_ fun h => parks_of_noPark hu.tick hpark (hu.heads h).1 (hu.heads h).2
    rw [hu.tick.serialAt, hu.tick.geometry, State.slot, hu.slots]
    refine (congrArg LugSlot.named (slot_bareTick_at s (by omega) (by omega) : _ = s.slot (lugAt s s.geometry.d))).trans ?_
    rw [hempty _ (by omega) (by omega)]
  have hlate : (bareTick s).lateAt n = true ↔ one ∧ ¬ cut := by
    rw [lateAt_iff, cutsAt_iff]
    rfl
  -- the bays and the chain end stand still behind the stations
  have hrest : ∀ {w}, EndMatched s w → stationsTick (bareTick s) = w → exec .lugTick s = .next w := fun {w} hw hst => by
    rw [exec_lugTick_bare hpin halone.homed hload hlatch halone.geometry (hempty _ (by omega) (by omega)), hst,
      bayTicks_idle, chainEnd_idle]
    · rw [hw.tick.serialAt, hw.tick.geometry, State.slot, hw.slots]
      exact (slot_bareTick_at s (by omega) h5 : _ = s.slot (lugAt s s.geometry.x)).trans (hempty _ h5 (by omega))
    · exact fun k _ => (hw.drops k).1
    · intro k _ q hq
      rw [(hw.drops k).2 q hq, hw.tick.serialAt, State.bayOffset, hw.tick.geometry]
      obtain ⟨ha, hb⟩ := h6 k
      exact fun e => ringIdx_lugAt_ne s (j := s.geometry.e) (k := s.geometry.bays[k]) (by omega) (by omega) (by omega)
        (congrArg ringIdx e)
  have hplain : ¬ (one ∧ ¬ cut) → ∀ {w}, EndMatched s w → endMatchTick (bareTick s) = w → exec .lugTick s = .next w :=
    fun hno {w} hw he => by
      refine hrest hw ?_
      have hno' : ¬ (bareTick s).lateAt ((bareTick s).serialAt (bareTick s).geometry.e) = true := fun h => hno (hlate.mp h)
      rw [stationsTick, if_neg hno']
      exact decideAndMatch_idle false (hdecision hbare) he (hdecision hw)
  let aged : State := { bareTick s with freeCount := s.freeCount + 1 }
  have haged : EndMatched s aged := ⟨⟨rfl, rfl, rfl⟩, rfl, hbare.heads, hbare.drops⟩
  have hfree : one ∧ ¬ cut → ∀ {w}, EndMatched s w → endMatchTick aged = w → exec .lugTick s = .next w :=
    fun hyes {w} hw he => by
      refine hrest hw ?_
      have hyes' : (bareTick s).lateAt ((bareTick s).serialAt (bareTick s).geometry.e) = true := hlate.mpr hyes
      rw [stationsTick, if_pos hyes']
      exact decideAndMatch_idle _ (hdecision haged) he (hdecision hw)
  have hslot : (bareTick s).slot n = s.slot n := slot_bareTick_at s (by omega) (by omega)
  have hmatch : ∀ u, u = bareTick s ∨ u = aged → endMatchTick u =
      (endMatchOutcome (trimStrip u a) n).takeHeads (tookFront (endMatchOutcome (trimStrip u a) n).headSide n)
        (tookFront (endMatchOutcome (trimStrip u a) n).tailSide n) := by
    rintro u (rfl | rfl)
    · exact endMatchTick_of_one (u := bareTick s) rfl (by rw [hslot, hnamed])
    · exact endMatchTick_of_one (u := aged) rfl ((congrArg LugSlot.named hslot).trans hnamed)
  have hnow : (bareTick s).calEntry tick = was := calEntry_bareTick_now s
  -- the late strip
  let v : State := trimStrip aged a
  let z : State := { v with calendar := freed }
  let base : State := { aged with
    strips := s.strips.map fun x => if x.tag = a then uncut (trimmed x) else x
    calendar := freed }
  have hvslot : (v.slot n).named = [a] := (congrArg LugSlot.named hslot).trans hnamed
  have hz : v.freeStarts (n + BitVec.ofNat 32 v.geometry.e) 2 = z := by
    rw [show n + BitVec.ofNat 32 v.geometry.e = tick from htick, freeStarts_eq, show v.calEntry tick = was from hnow]
    rfl
  have htrimmed : ∀ x, (trimmed x).tag = x.tag := fun x => by
    simp only [trimmed]
    split <;> rfl
  have hzstrip : z.strip? a = some { r with state := .trimmed } := by
    have h := strip?_updStrip (u := aged) (f := trimmed) htrimmed hr
    rw [show trimmed r = { r with state := .trimmed } from if_pos hst] at h
    exact h
  have hbase : z.updStrip a (·.uncut .latePosition) = base :=
    updStrip_updStrip { aged with calendar := freed } (f := trimmed) (g := (·.uncut .latePosition)) htrimmed
  have hlateOut : one → ¬ cut → endMatchOutcome v n = latePosition v n := fun hone hno => by
    have hcuts : ¬ v.cutsAt n = true := fun h => hno ((cutsAt_iff _ _).mp h)
    have hlates : v.lateAt n = true := (lateAt_iff _ _).mpr ⟨hone, hcuts⟩
    rw [endMatchOutcome, if_neg hcuts, if_pos hlates]
  refine ⟨fun hcut => ?_, fun hone hno hdest => ?_, fun k b c hone hno hsort hdest hc hk hb => ?_, fun hno => ?_⟩
  · have hcuts : (trimStrip (bareTick s) a).cutsAt n = true := (cutsAt_iff _ _).mpr hcut
    have hout : endMatchOutcome (trimStrip (bareTick s) a) n = makeCut (trimStrip (bareTick s) a) n := by
      rw [endMatchOutcome, if_pos hcuts]
    have hm := hmatch _ (.inl rfl)
    rw [hout, makeCut_eq (u := trimStrip (bareTick s) a) htick] at hm
    have hmade : EndMatched s (State.bump { trimStrip (bareTick s) a with
        pulses := (trimStrip (bareTick s) a).pulses ++ [.plunge .headSide] ++ [.plunge .tailSide]
        calendar := (trimStrip (bareTick s) a).calendar.set (ringIdx tick)
          { planned := ((trimStrip (bareTick s) a).calEntry tick).planned - 2
            made := ((trimStrip (bareTick s) a).calEntry tick).made + 2 } } .cuts) :=
      ⟨⟨rfl, rfl, rfl⟩, rfl, hbare.heads, hbare.drops⟩
    refine (hplain (fun h => h.2 hcut) (hmade.takeHeads rfl rfl n) hm).trans ?_
    rw [takeHeads_of_pulses (l := [.plunge .headSide, .plunge .tailSide]) rfl,
      show (trimStrip (bareTick s) a).calEntry tick = was from hnow]
    rfl
  · have hm := hmatch _ (.inr rfl)
    rw [hlateOut hone hno, latePosition_of_no_drop hvslot (hz ▸ plannedDrop?_of_no_dest hzstrip hd hdest), hz, hbase] at hm
    have hlost : EndMatched s (base.bump .latePosition) := ⟨⟨rfl, rfl, rfl⟩, rfl, hbare.heads, hbare.drops⟩
    refine (hfree ⟨hone, hno⟩ (hlost.takeHeads rfl rfl n) hm).trans ?_
    rw [takeHeads_eq (u := base.bump .latePosition) rfl]
    rfl
  · intro drop start
    obtain ⟨hplanned, hpend⟩ := hdrop k hk
    obtain ⟨hek, hkx⟩ := h6 k
    have hfind : (z.bay k).planned.find? (fun e => e.tag = a) = some { serial := n, tag := a } := by
      rw [show (z.bay k).planned = [{ serial := n, tag := a }] from hplanned]
      simp
    have hplan : z.plannedDrop? a = some (k, { serial := n, tag := a }) := plannedDrop?_of_dest hzstrip hd hdest hfind
    have hm := hmatch _ (.inr rfl)
    rw [hlateOut hone hno, latePosition_of_drop hvslot (hz ▸ hplan) hplanned, hz, cancelPlanned_eq] at hm
    -- the drop start is another tick's entry of the calendar
    have hstart : z.calEntry drop = start := by
      have hgap : drop = tick + BitVec.ofNat 32 (s.bayOffset k - s.geometry.e) := by
        have hsum : BitVec.ofNat 32 (s.bayOffset k) = BitVec.ofNat 32 s.geometry.e +
            BitVec.ofNat 32 (s.bayOffset k - s.geometry.e) := by
          rw [← BitVec.ofNat_add]
          exact congrArg (BitVec.ofNat 32) (Nat.add_sub_cancel' hek.le).symm
        simp only [drop]
        rw [hsum, ← BitVec.add_assoc, htick]
      obtain ⟨-, -, hkd⟩ := halone.geometry.bays k
      have hkd : s.bayOffset k ≤ s.geometry.d + 48 := hkd
      have hne : ringIdx drop ≠ ringIdx tick := by
        have h := ringIdx_add_ne n (a := s.geometry.e) (b := s.bayOffset k) hek (by omega)
        rwa [htick] at h
      have hnotOldest : ringIdx drop ≠ ringIdx (s.chain.serial + 1 - 16) := by
        rw [hgap]
        exact ringIdx_ne_oldest tick (by omega)
      have hne' : (ringIdx tick).val ≠ (ringIdx drop).val := fun e => hne (Fin.ext e.symm)
      exact (Vector.getElem_set_ne (ringIdx tick).isLt (ringIdx drop).isLt hne').trans (calEntry_bareTick s hnotOldest)
    have hband : z.dropBand { serial := n, tag := a } = bandIdx c.band := by
      rw [State.dropBand, hzstrip]
      simp [Strip.band, hd, hc]
    let base' : State := State.bump { base with
      calendar := freed.set (ringIdx drop) { start with planned := start.planned - 1 } } .latePosition
    let bay : Bay := { s.bay k with planned := [] }
    have hrecord : { z.bay k with
        planned := (z.bay k).planned.filter fun e => e.tag ≠ a
        bundle := (z.bay k).bundle.map fun b => b.released z.dropBand [{ serial := n, tag := a }] } =
        { bay with bundle := some (without b c) } := by
      have hfilter : ((z.bay k).planned.filter fun e => e.tag ≠ a) = [] := by
        rw [show (z.bay k).planned = [{ serial := n, tag := a }] from hplanned]
        simp
      rw [hfilter, show (z.bay k).bundle = some b from hb, Option.map_some, Bundle.released_eq_without hband]
      rfl
    have hy : ((withBay (z.freeStarts (n + BitVec.ofNat 32 (z.bayOffset k)) 1) k { z.bay k with
        planned := (z.bay k).planned.filter fun e => e.tag ≠ a
        bundle := (z.bay k).bundle.map fun b => b.released z.dropBand [{ serial := n, tag := a }] }).updStrip a
          (·.uncut .latePosition)).bump .latePosition = withBay base' k { bay with bundle := some (without b c) } := by
      rw [hrecord, freeStarts_eq, show z.calEntry (n + BitVec.ofNat 32 (z.bayOffset k)) = start from hstart]
      exact congrArg (fun l => withBay { base' with strips := l } k { bay with bundle := some (without b c) })
        (congrArg State.strips hbase)
    rw [hy] at hm
    have hafter := completionTest_afterTest base' k bay (without b c)
    obtain ⟨hkept, hothers, hplans, hpends⟩ := completionTest_atBay (withBay base' k { bay with bundle := some (without b c) }) k true
    generalize completionTest (withBay base' k { bay with bundle := some (without b c) }) k true = w at *
    have hframe := hkept.frame
    have hw : EndMatched s w := by
      refine ⟨⟨?_, ?_, ?_⟩, ?_, fun h => ?_, fun j => ?_⟩
      · exact (congrArg (fun x : State => x.chain.serial) hframe :)
      · exact (congrArg State.geometry hframe :)
      · exact (congrArg State.limits hframe :)
      · exact (congrArg (fun x : State => x.chain.slots) hframe :)
      · rw [hframe]
        exact hbare.heads h
      · by_cases hj : j = k
        · subst hj
          rw [hpends, hplans, bay_withBay]
          exact ⟨hpend, by simp [bay]⟩
        · rw [hothers j hj, bay_withBay_ne _ hj]
          exact hbare.drops j
    have hhead : w.headSide = s.headSide := (congrArg State.headSide hframe :)
    have htail : w.tailSide = s.tailSide := (congrArg State.tailSide hframe :)
    refine ⟨_, hfree ⟨hone, hno⟩ (hw.takeHeads hhead htail n) hm, ?_⟩
    have hcause : w.link.cause = base'.link.cause := (congrArg (fun x : State => x.link.cause) hframe :)
    have hover : w.takeHeads (tookFront w.headSide n) (tookFront w.tailSide n) =
        w.over (tookFront s.headSide n) (tookFront s.tailSide n)
          (strobe .headSide s.headSide (tookFront s.headSide n) ++ strobe .tailSide s.tailSide (tookFront s.tailSide n))
          base'.link.cause := by
      rw [takeHeads_eq (congrArg State.pulses hframe :), hhead, htail, ← hcause]
      rfl
    rw [hover]
    exact afterTest_over hafter
  · have hcuts : ¬ (trimStrip (bareTick s) a).cutsAt n = true := fun h => hno (.inl ((cutsAt_iff _ _).mp h).1)
    have hlates : ¬ (trimStrip (bareTick s) a).lateAt n = true := fun h => hno ((lateAt_iff _ _).mp h).1
    have hout : endMatchOutcome (trimStrip (bareTick s) a) n = trimStrip (bareTick s) a := by
      rw [endMatchOutcome, if_neg hcuts, if_neg hlates]
    have hm := hmatch _ (.inl rfl)
    rw [hout] at hm
    have htrim : EndMatched s (trimStrip (bareTick s) a) := ⟨⟨rfl, rfl, rfl⟩, rfl, hbare.heads, hbare.drops⟩
    refine (hplain (fun h => hno h.1) (htrim.takeHeads rfl rfl n) hm).trans ?_
    rw [takeHeads_eq (u := trimStrip (bareTick s) a) rfl]
    rfl

end Sys2Proof.Claims
end
